-- ==== Sys2Proof/Word.lean ====
section
/-! DEFINITION. The byte of the request port and the Station Link. Quantities of the line (litres, seconds, tags,
numbers) are natural numbers: the manual never masks or shifts them. -/

namespace Sys2Proof

/-- One byte of a host frame or a Station Link frame (R189, R191). -/
abbrev Byte := BitVec 8

end Sys2Proof
end

