-- ==== Sys2Proof/Syntax.lean ====
section
/-! DEFINITION. The commands of the TP2432: one constructor for each row of spec/opcode_table.json. The operands of a
request are the fields of its frame (R189) as they stand in the frame, before any check: a byte or a big-endian word
each, reserved fields included. The operand of a timed step is the number of the item it concerns. -/

namespace Sys2Proof

/-- The fields of a DEFINE_STATION frame, both forms (R189, code 16). -/
structure StationFrame where
  form : Byte
  station : Byte
  address : Byte
  position : BitVec 32
  flags : Byte
  guardVol : BitVec 32
  approach : BitVec 32
  lead : BitVec 32
  clearance : BitVec 32
  exitTimeout : BitVec 16
  arrivalTimeout : BitVec 16
  pauseLimit : BitVec 16
  replyCode : Byte
  reserved : Byte
  deriving DecidableEq, Repr

/-- The fields of a DEFINE_DETECTOR frame (R189, code 17). -/
structure DetectorFrame where
  detector : Byte
  station : Byte
  slot : Byte
  kind : Byte
  position : BitVec 32
  latching : Byte
  profile : Byte
  rearmVolume : BitVec 32
  reserved : Byte
  deriving DecidableEq, Repr

/-- The fields of a DEFINE_VALVE frame, both forms (R189, code 18). -/
structure ValveFrame where
  form : Byte
  valve : Byte
  station : Byte
  role : Byte
  position : BitVec 32
  guardVol : BitVec 32
  strokeTimeout : BitVec 16
  reserved : Byte
  deriving DecidableEq, Repr

/-- The fields of a DEFINE_METER frame, both forms (R189, code 19). -/
structure MeterFrame where
  form : Byte
  meter : Byte
  station : Byte
  maxRate : BitVec 16
  holdTime : BitVec 16
  reserved : Byte
  deriving DecidableEq, Repr

/-- The fields of a SET_PROFILE frame (R189, code 21). -/
structure ProfileFrame where
  profile : Byte
  base : BitVec 32
  growth : BitVec 16
  cap : BitVec 32
  reserved : Byte
  deriving DecidableEq, Repr

/-- The fields of a SET_LINE_PARAMETERS frame (R189, code 22). -/
structure ParametersFrame where
  spacing : BitVec 32
  holdProfile : Byte
  lostHalfWidth : BitVec 32
  deliveryLimit : BitVec 16
  silenceLimit : Byte
  fairness : Byte
  holdWaitLimit : BitVec 16
  learningSpan : BitVec 32
  reserved : Byte
  deriving DecidableEq, Repr

/-- The fields of a LAUNCH frame (R189, code 48). -/
structure LaunchFrame where
  tag : BitVec 16
  launch : Byte
  destination : Byte
  slip : BitVec 16
  learning : Byte
  reserved : Byte
  deriving DecidableEq, Repr

/-- The fields of a DECLARE_PIG frame (R189, code 49). -/
structure DeclareFrame where
  tag : BitVec 16
  position : BitVec 32
  destination : Byte
  slip : BitVec 16
  learning : Byte
  reserved : Byte
  deriving DecidableEq, Repr

/-- The fields of an AMEND_PIG frame (R189, code 50). -/
structure AmendFrame where
  tag : BitVec 16
  parts : Byte
  slip : BitVec 16
  learning : Byte
  destination : Byte
  reserved : Byte
  deriving DecidableEq, Repr

/-- The fields of a FIX_PIG frame (R189, code 51). -/
structure FixFrame where
  tag : BitVec 16
  position : BitVec 32
  reserved : Byte
  deriving DecidableEq, Repr

/-- The fields of an ACK_ALERT frame (R189, code 100). -/
structure AckFrame where
  alerts : BitVec 16
  notes : Byte
  reserved : Byte
  deriving DecidableEq, Repr

/-- The fields of a SET_ATTENTION_MASKS frame (R189, code 101). -/
structure MasksFrame where
  alerts : BitVec 16
  notes : Byte
  globals : Byte
  reserved : Byte
  deriving DecidableEq, Repr

/-- A command of the part: one constructor per row of spec/opcode_table.json. -/
inductive Instr where
  /-- RESET_N is asserted; the operand is the level of LINK_RATE1, LINK_RATE0, sampled then. -/
  | powerOn (linkRate : BitVec 2)
  | lineTripAsserted
  | lineTripReleased
  | lineClockSecond
  | meterStale (meter : Nat)
  | strokeTimeout (valve : Nat)
  | deliveryLimitExpiry (valve : Nat)
  | confirmationLapse (detector : Nat)
  | holdLapsed (station : Nat)
  | launchTimeout (station : Nat)
  | arrivalTimeout (station : Nat)
  | pauseLapsed (station : Nat)
  | replyTimeout
  | pollSlotStart
  /-- A frame has arrived on LRXD; the operand is its bytes, the address first. -/
  | report (frame : List Byte)
  | autoReceiveStart (station : Nat)
  | requestFrameOverrun
  /-- A request frame with a framing fault, or with a length wrong for its code; the bytes as clocked. -/
  | badLength (frame : List Byte)
  /-- A well-framed request whose code names no request; the bytes as clocked. -/
  | unknownRequest (frame : List Byte)
  /-- A read assertion; the operand is how many whole bytes were clocked before SEL_N was released. -/
  | readResponse (clocked : Nat)
  | defineStationDefine (f : StationFrame)
  | defineStationTune (f : StationFrame)
  | defineDetector (f : DetectorFrame)
  | defineValveDefine (f : ValveFrame)
  | defineValveTune (f : ValveFrame)
  | defineMeterDefine (f : MeterFrame)
  | defineMeterTune (f : MeterFrame)
  | setSegmentMeter (station meter reserved : Byte)
  | setProfile (f : ProfileFrame)
  | setLineParameters (f : ParametersFrame)
  | commitLine (reserved : Byte)
  | openLine (reserved : Byte)
  | clearLine (reserved : Byte)
  | readLineStatus (reserved : Byte)
  | setStationService (station value reserved : Byte)
  | setDetectorServiceOut (detector value reserved : Byte)
  | setDetectorServiceIn (detector value reserved : Byte)
  | rebaseMeter (meter reserved : Byte)
  | setValvePermit (valve value reserved : Byte)
  | launch (f : LaunchFrame)
  | declarePig (f : DeclareFrame)
  | amendPig (f : AmendFrame)
  | fixPig (f : FixFrame)
  | declareLost (tag : BitVec 16) (reserved : Byte)
  | retirePig (tag : BitVec 16) (reserved : Byte)
  | readPig (tag : BitVec 16) (reserved : Byte)
  | listTrain (start reserved : Byte)
  | listAll (reserved : Byte)
  | armReceive (tag : BitVec 16) (reserved : Byte)
  | pauseSequence (station reserved : Byte)
  | continueSequence (station reserved : Byte)
  | abortSequence (station reserved : Byte)
  | clearTrapFault (station reserved : Byte)
  | commandValve (valve target reserved : Byte)
  | withdrawValveCommand (valve reserved : Byte)
  | readStation (station reserved : Byte)
  | readDetector (detector reserved : Byte)
  | readValve (valve reserved : Byte)
  | readMeter (meter reserved : Byte)
  | readAttention (reserved : Byte)
  | ackAlert (f : AckFrame)
  | setAttentionMasks (f : MasksFrame)
  | linkReset (reserved : Byte)
  | restart (reserved : Byte)
  deriving DecidableEq, Repr

end Sys2Proof
end

