-- ==== Sys2Proof/Decode.lean ====
section
/-! DEFINITION. From bytes to commands: the framing of one SEL_N assertion (R166, R167), the request frames' fields
(R189), the encoder of a request's frame beside it, and the host's word decoder. The opcode table gives no row any
bits, so no word of it spells a command: `decodeTableWord` answers none (notes/assumptions/22.md). -/

namespace Sys2Proof

/-- How many bytes the request with a code has after the length byte: the code and its fields (R189's table). -/
def requestLength : Nat → Option Nat
  | 16 => some 33 | 17 => some 16 | 18 => some 16 | 19 => some 9 | 20 => some 4 | 21 => some 13 | 22 => some 21
  | 23 => some 2 | 24 => some 2 | 25 => some 2 | 26 => some 2
  | 32 => some 4 | 33 => some 4 | 34 => some 3 | 35 => some 4
  | 48 => some 9 | 49 => some 12 | 50 => some 9 | 51 => some 8 | 52 => some 4 | 53 => some 4 | 54 => some 4
  | 55 => some 3 | 56 => some 2
  | 64 => some 4 | 65 => some 3 | 66 => some 3 | 67 => some 3 | 68 => some 3
  | 80 => some 4 | 81 => some 3 | 82 => some 3
  | 96 => some 3 | 97 => some 3 | 98 => some 3 | 99 => some 2 | 100 => some 5 | 101 => some 6
  | 112 => some 2 | 113 => some 2
  | _ => none

/-- What R166 and the first half of R167 make of the bytes of one SEL_N assertion. -/
inductive Framing where
  /-- SEL_N was released before a whole first byte: no frame. -/
  | noFrame
  /-- The first byte is zero: a read assertion. -/
  | read
  /-- A framing fault, or a length wrong for its code. -/
  | badLength
  /-- Well framed, and the code names no request. -/
  | unknown
  /-- Well framed with the length of its code; the fields after the code. -/
  | request (code : Nat) (fields : List Byte)
  deriving DecidableEq, Repr

/-- The framing of one assertion's whole bytes (R166, R167 step 3). -/
def framing : List Byte → Framing
  | [] => .noFrame
  | n :: rest =>
    if n.toNat = 0 then .read
    else if 64 ≤ n.toNat then .badLength
    else
      match rest.take n.toNat with
      | [] => .badLength
      | code :: fields =>
        if rest.length < n.toNat then .badLength
        else
          match requestLength code.toNat with
          | none => .unknown
          | some k => if n.toNat = k then .request code.toNat fields else .badLength

/-- Whether the bytes are one report frame taken whole: its address, its length byte L and at least L + 2 more (R191). -/
def reportWhole (frame : List Byte) : Bool :=
  decide (2 ≤ frame.length) && decide ((frame.getD 1 0).toNat + 4 ≤ frame.length)

/-- A big-endian word of two bytes (11.1: most significant byte first). -/
def word2 (a b : Byte) : BitVec 16 := a ++ b

/-- A big-endian word of four bytes. -/
def word4 (a b c d : Byte) : BitVec 32 := a ++ b ++ c ++ d

/-- The two bytes of a word, most significant first. -/
def bytes2 (x : BitVec 16) : List Byte := [x.extractLsb' 8 8, x.extractLsb' 0 8]

/-- The four bytes of a word, most significant first. -/
def bytes4 (x : BitVec 32) : List Byte :=
  [x.extractLsb' 24 8, x.extractLsb' 16 8, x.extractLsb' 8 8, x.extractLsb' 0 8]

/-- The word of two bytes at place i of a frame's fields. -/
def word2At (b : List Byte) (i : Nat) : BitVec 16 := word2 (b.getD i 0) (b.getD (i + 1) 0)

/-- The word of four bytes at place i of a frame's fields. -/
def word4At (b : List Byte) (i : Nat) : BitVec 32 :=
  word4 (b.getD i 0) (b.getD (i + 1) 0) (b.getD (i + 2) 0) (b.getD (i + 3) 0)

/-- The fields of a DEFINE_STATION frame (R189). -/
def stationFrameOf (b : List Byte) : StationFrame :=
  { form := b.getD 0 0, station := b.getD 1 0, address := b.getD 2 0, position := word4At b 3, flags := b.getD 7 0,
    guardVol := word4At b 8, approach := word4At b 12, lead := word4At b 16, clearance := word4At b 20,
    exitTimeout := word2At b 24, arrivalTimeout := word2At b 26, pauseLimit := word2At b 28,
    replyCode := b.getD 30 0, reserved := b.getD 31 0 }

/-- The bytes of a DEFINE_STATION frame's fields (R189). -/
def stationFrameBytes (f : StationFrame) : List Byte :=
  [f.form, f.station, f.address] ++ bytes4 f.position ++ [f.flags] ++ bytes4 f.guardVol ++ bytes4 f.approach ++
    bytes4 f.lead ++ bytes4 f.clearance ++ bytes2 f.exitTimeout ++ bytes2 f.arrivalTimeout ++ bytes2 f.pauseLimit ++
    [f.replyCode, f.reserved]

/-- The fields of a DEFINE_DETECTOR frame (R189). -/
def detectorFrameOf (b : List Byte) : DetectorFrame :=
  { detector := b.getD 0 0, station := b.getD 1 0, slot := b.getD 2 0, kind := b.getD 3 0, position := word4At b 4,
    latching := b.getD 8 0, profile := b.getD 9 0, rearmVolume := word4At b 10, reserved := b.getD 14 0 }

/-- The bytes of a DEFINE_DETECTOR frame's fields (R189). -/
def detectorFrameBytes (f : DetectorFrame) : List Byte :=
  [f.detector, f.station, f.slot, f.kind] ++ bytes4 f.position ++ [f.latching, f.profile] ++ bytes4 f.rearmVolume ++
    [f.reserved]

/-- The fields of a DEFINE_VALVE frame (R189). -/
def valveFrameOf (b : List Byte) : ValveFrame :=
  { form := b.getD 0 0, valve := b.getD 1 0, station := b.getD 2 0, role := b.getD 3 0, position := word4At b 4,
    guardVol := word4At b 8, strokeTimeout := word2At b 12, reserved := b.getD 14 0 }

/-- The bytes of a DEFINE_VALVE frame's fields (R189). -/
def valveFrameBytes (f : ValveFrame) : List Byte :=
  [f.form, f.valve, f.station, f.role] ++ bytes4 f.position ++ bytes4 f.guardVol ++ bytes2 f.strokeTimeout ++
    [f.reserved]

/-- The fields of a DEFINE_METER frame (R189). -/
def meterFrameOf (b : List Byte) : MeterFrame :=
  { form := b.getD 0 0, meter := b.getD 1 0, station := b.getD 2 0, maxRate := word2At b 3, holdTime := word2At b 5,
    reserved := b.getD 7 0 }

/-- The bytes of a DEFINE_METER frame's fields (R189). -/
def meterFrameBytes (f : MeterFrame) : List Byte :=
  [f.form, f.meter, f.station] ++ bytes2 f.maxRate ++ bytes2 f.holdTime ++ [f.reserved]

/-- The fields of a SET_PROFILE frame (R189). -/
def profileFrameOf (b : List Byte) : ProfileFrame :=
  { profile := b.getD 0 0, base := word4At b 1, growth := word2At b 5, cap := word4At b 7, reserved := b.getD 11 0 }

/-- The bytes of a SET_PROFILE frame's fields (R189). -/
def profileFrameBytes (f : ProfileFrame) : List Byte :=
  [f.profile] ++ bytes4 f.base ++ bytes2 f.growth ++ bytes4 f.cap ++ [f.reserved]

/-- The fields of a SET_LINE_PARAMETERS frame (R189). -/
def parametersFrameOf (b : List Byte) : ParametersFrame :=
  { spacing := word4At b 0, holdProfile := b.getD 4 0, lostHalfWidth := word4At b 5, deliveryLimit := word2At b 9,
    silenceLimit := b.getD 11 0, fairness := b.getD 12 0, holdWaitLimit := word2At b 13, learningSpan := word4At b 15,
    reserved := b.getD 19 0 }

/-- The bytes of a SET_LINE_PARAMETERS frame's fields (R189). -/
def parametersFrameBytes (f : ParametersFrame) : List Byte :=
  bytes4 f.spacing ++ [f.holdProfile] ++ bytes4 f.lostHalfWidth ++ bytes2 f.deliveryLimit ++
    [f.silenceLimit, f.fairness] ++ bytes2 f.holdWaitLimit ++ bytes4 f.learningSpan ++ [f.reserved]

/-- The fields of a LAUNCH frame (R189). -/
def launchFrameOf (b : List Byte) : LaunchFrame :=
  { tag := word2At b 0, launch := b.getD 2 0, destination := b.getD 3 0, slip := word2At b 4, learning := b.getD 6 0,
    reserved := b.getD 7 0 }

/-- The bytes of a LAUNCH frame's fields (R189). -/
def launchFrameBytes (f : LaunchFrame) : List Byte :=
  bytes2 f.tag ++ [f.launch, f.destination] ++ bytes2 f.slip ++ [f.learning, f.reserved]

/-- The fields of a DECLARE_PIG frame (R189). -/
def declareFrameOf (b : List Byte) : DeclareFrame :=
  { tag := word2At b 0, position := word4At b 2, destination := b.getD 6 0, slip := word2At b 7,
    learning := b.getD 9 0, reserved := b.getD 10 0 }

/-- The bytes of a DECLARE_PIG frame's fields (R189). -/
def declareFrameBytes (f : DeclareFrame) : List Byte :=
  bytes2 f.tag ++ bytes4 f.position ++ [f.destination] ++ bytes2 f.slip ++ [f.learning, f.reserved]

/-- The fields of an AMEND_PIG frame (R189). -/
def amendFrameOf (b : List Byte) : AmendFrame :=
  { tag := word2At b 0, parts := b.getD 2 0, slip := word2At b 3, learning := b.getD 5 0, destination := b.getD 6 0,
    reserved := b.getD 7 0 }

/-- The bytes of an AMEND_PIG frame's fields (R189). -/
def amendFrameBytes (f : AmendFrame) : List Byte :=
  bytes2 f.tag ++ [f.parts] ++ bytes2 f.slip ++ [f.learning, f.destination, f.reserved]

/-- The fields of a FIX_PIG frame (R189). -/
def fixFrameOf (b : List Byte) : FixFrame :=
  { tag := word2At b 0, position := word4At b 2, reserved := b.getD 6 0 }

/-- The bytes of a FIX_PIG frame's fields (R189). -/
def fixFrameBytes (f : FixFrame) : List Byte := bytes2 f.tag ++ bytes4 f.position ++ [f.reserved]

/-- The fields of an ACK_ALERT frame (R189). -/
def ackFrameOf (b : List Byte) : AckFrame :=
  { alerts := word2At b 0, notes := b.getD 2 0, reserved := b.getD 3 0 }

/-- The bytes of an ACK_ALERT frame's fields (R189). -/
def ackFrameBytes (f : AckFrame) : List Byte := bytes2 f.alerts ++ [f.notes, f.reserved]

/-- The fields of a SET_ATTENTION_MASKS frame (R189). -/
def masksFrameOf (b : List Byte) : MasksFrame :=
  { alerts := word2At b 0, notes := b.getD 2 0, globals := b.getD 3 0, reserved := b.getD 4 0 }

/-- The bytes of a SET_ATTENTION_MASKS frame's fields (R189). -/
def masksFrameBytes (f : MasksFrame) : List Byte := bytes2 f.alerts ++ [f.notes, f.globals, f.reserved]

/-- The request with a code and its fields (R189's table). A selector byte outside its values goes to the row of its
first value, whose own checks refuse it (notes/assumptions/13.md). -/
def requestOf (code : Nat) (b : List Byte) : Option Instr :=
  match code with
  | 16 => some (if b.getD 0 0 = 1 then .defineStationTune (stationFrameOf b) else .defineStationDefine (stationFrameOf b))
  | 17 => some (.defineDetector (detectorFrameOf b))
  | 18 => some (if b.getD 0 0 = 1 then .defineValveTune (valveFrameOf b) else .defineValveDefine (valveFrameOf b))
  | 19 => some (if b.getD 0 0 = 1 then .defineMeterTune (meterFrameOf b) else .defineMeterDefine (meterFrameOf b))
  | 20 => some (.setSegmentMeter (b.getD 0 0) (b.getD 1 0) (b.getD 2 0))
  | 21 => some (.setProfile (profileFrameOf b))
  | 22 => some (.setLineParameters (parametersFrameOf b))
  | 23 => some (.commitLine (b.getD 0 0))
  | 24 => some (.openLine (b.getD 0 0))
  | 25 => some (.clearLine (b.getD 0 0))
  | 26 => some (.readLineStatus (b.getD 0 0))
  | 32 => some (.setStationService (b.getD 0 0) (b.getD 1 0) (b.getD 2 0))
  | 33 => some (if b.getD 1 0 = 1 then .setDetectorServiceOut (b.getD 0 0) (b.getD 1 0) (b.getD 2 0)
                else .setDetectorServiceIn (b.getD 0 0) (b.getD 1 0) (b.getD 2 0))
  | 34 => some (.rebaseMeter (b.getD 0 0) (b.getD 1 0))
  | 35 => some (.setValvePermit (b.getD 0 0) (b.getD 1 0) (b.getD 2 0))
  | 48 => some (.launch (launchFrameOf b))
  | 49 => some (.declarePig (declareFrameOf b))
  | 50 => some (.amendPig (amendFrameOf b))
  | 51 => some (.fixPig (fixFrameOf b))
  | 52 => some (.declareLost (word2At b 0) (b.getD 2 0))
  | 53 => some (.retirePig (word2At b 0) (b.getD 2 0))
  | 54 => some (.readPig (word2At b 0) (b.getD 2 0))
  | 55 => some (.listTrain (b.getD 0 0) (b.getD 1 0))
  | 56 => some (.listAll (b.getD 0 0))
  | 64 => some (.armReceive (word2At b 0) (b.getD 2 0))
  | 65 => some (.pauseSequence (b.getD 0 0) (b.getD 1 0))
  | 66 => some (.continueSequence (b.getD 0 0) (b.getD 1 0))
  | 67 => some (.abortSequence (b.getD 0 0) (b.getD 1 0))
  | 68 => some (.clearTrapFault (b.getD 0 0) (b.getD 1 0))
  | 80 => some (.commandValve (b.getD 0 0) (b.getD 1 0) (b.getD 2 0))
  | 81 => some (.withdrawValveCommand (b.getD 0 0) (b.getD 1 0))
  | 82 => some (.readValve (b.getD 0 0) (b.getD 1 0))
  | 96 => some (.readStation (b.getD 0 0) (b.getD 1 0))
  | 97 => some (.readDetector (b.getD 0 0) (b.getD 1 0))
  | 98 => some (.readMeter (b.getD 0 0) (b.getD 1 0))
  | 99 => some (.readAttention (b.getD 0 0))
  | 100 => some (.ackAlert (ackFrameOf b))
  | 101 => some (.setAttentionMasks (masksFrameOf b))
  | 112 => some (.linkReset (b.getD 0 0))
  | 113 => some (.restart (b.getD 0 0))
  | _ => none

/-- The command that the bytes of one SEL_N assertion, taken while the port is not busy, amount to (R166 to R168);
none where they are no frame. The bytes are those the host clocked in, whole bytes only. -/
def decodeFrame (bytes : List Byte) : Option Instr :=
  match framing bytes with
  | .noFrame => none
  | .read => some (.readResponse bytes.length)
  | .badLength => some (.badLength bytes)
  | .unknown => some (.unknownRequest bytes)
  | .request code fields => requestOf code fields

/-- The code and the field bytes of a request's frame (R189's table); none for a command that is not a request. -/
def encodeRequest : Instr → Option (Nat × List Byte)
  | .defineStationDefine f => some (16, stationFrameBytes f)
  | .defineStationTune f => some (16, stationFrameBytes f)
  | .defineDetector f => some (17, detectorFrameBytes f)
  | .defineValveDefine f => some (18, valveFrameBytes f)
  | .defineValveTune f => some (18, valveFrameBytes f)
  | .defineMeterDefine f => some (19, meterFrameBytes f)
  | .defineMeterTune f => some (19, meterFrameBytes f)
  | .setSegmentMeter k m r => some (20, [k, m, r])
  | .setProfile f => some (21, profileFrameBytes f)
  | .setLineParameters f => some (22, parametersFrameBytes f)
  | .commitLine r => some (23, [r])
  | .openLine r => some (24, [r])
  | .clearLine r => some (25, [r])
  | .readLineStatus r => some (26, [r])
  | .setStationService k v r => some (32, [k, v, r])
  | .setDetectorServiceOut d v r => some (33, [d, v, r])
  | .setDetectorServiceIn d v r => some (33, [d, v, r])
  | .rebaseMeter m r => some (34, [m, r])
  | .setValvePermit v p r => some (35, [v, p, r])
  | .launch f => some (48, launchFrameBytes f)
  | .declarePig f => some (49, declareFrameBytes f)
  | .amendPig f => some (50, amendFrameBytes f)
  | .fixPig f => some (51, fixFrameBytes f)
  | .declareLost t r => some (52, bytes2 t ++ [r])
  | .retirePig t r => some (53, bytes2 t ++ [r])
  | .readPig t r => some (54, bytes2 t ++ [r])
  | .listTrain i r => some (55, [i, r])
  | .listAll r => some (56, [r])
  | .armReceive t r => some (64, bytes2 t ++ [r])
  | .pauseSequence k r => some (65, [k, r])
  | .continueSequence k r => some (66, [k, r])
  | .abortSequence k r => some (67, [k, r])
  | .clearTrapFault k r => some (68, [k, r])
  | .commandValve v t r => some (80, [v, t, r])
  | .withdrawValveCommand v r => some (81, [v, r])
  | .readValve v r => some (82, [v, r])
  | .readStation k r => some (96, [k, r])
  | .readDetector d r => some (97, [d, r])
  | .readMeter m r => some (98, [m, r])
  | .readAttention r => some (99, [r])
  | .ackAlert f => some (100, ackFrameBytes f)
  | .setAttentionMasks f => some (101, masksFrameBytes f)
  | .linkReset r => some (112, [r])
  | .restart r => some (113, [r])
  | .powerOn _ => none
  | .lineTripAsserted => none
  | .lineTripReleased => none
  | .lineClockSecond => none
  | .meterStale _ => none
  | .strokeTimeout _ => none
  | .deliveryLimitExpiry _ => none
  | .confirmationLapse _ => none
  | .holdLapsed _ => none
  | .launchTimeout _ => none
  | .arrivalTimeout _ => none
  | .pauseLapsed _ => none
  | .replyTimeout => none
  | .pollSlotStart => none
  | .report _ => none
  | .autoReceiveStart _ => none
  | .requestFrameOverrun => none
  | .badLength _ => none
  | .unknownRequest _ => none
  | .readResponse _ => none

/-- The request frame of a request (R189): the length byte, the code, the fields. -/
def encodeFrame (i : Instr) : Option (List Byte) :=
  (encodeRequest i).map fun p => BitVec.ofNat 8 (p.2.length + 1) :: BitVec.ofNat 8 p.1 :: p.2

/-- The command a word of the opcode table spells. No row of spec/opcode_table.json gives any bits, so none does. -/
def decodeTableWord (_nbits _w : Nat) : Option Instr := none

end Sys2Proof
end

