-- ==== Sys2Proof/Config.lean ====
section
/-! DEFINITION. What the manual leaves open as a value: the order of steps that one moment leaves unordered. -/

namespace Sys2Proof

/-- DESIGN CHOICE (notes/assumptions/6.md), safe: a free value. R58 says that two meters whose passes fall at the same Line Clock
second may be applied in either order; where such a choice is made, the place of the next one to go is this
constant at the model's choice counter, taken modulo how many are left. It has no body, so a proof about a second
holds for every order. -/
opaque Config.pickNext : Nat → Nat

end Sys2Proof
end

