-- ==== Sys2Proof/Machine/State.lean ====
section
/-! DEFINITION. The state of the TP2432 as plain data: every register, table, list, queue, counter, mode and pin the
manual gives the part, the queue of waiting commands, and the few fields of the model's own that INVENTORY.md lists.
Enumerations stand in the order in which the manual first lists their values (R189). -/

namespace Sys2Proof.Machine

/-- The Line State (1.9). -/
inductive LineState where
  | unconfigured | ready
  deriving DecidableEq, Repr

/-- A station's service request (1.2). -/
inductive Service where
  | inService | outOfService
  deriving DecidableEq, Repr

/-- What a silent station does with valve commands (1.2, R115). -/
inductive SilentPolicy where
  | queue | refuse
  deriving DecidableEq, Repr

/-- A station's link state (8.1). -/
inductive LinkState where
  | out | proving | active | silent
  deriving DecidableEq, Repr

/-- Why a station is OUT (8.1). -/
inductive OutCause where
  | host | mismatch
  deriving DecidableEq, Repr

/-- A detector's kind (1.3). -/
inductive DetectorKind where
  | mainline | launchExit | trapArrival
  deriving DecidableEq, Repr

/-- A detector's state (5.1). -/
inductive DetectorState where
  | unknown | armed | tripped | rearming | faulted | out
  deriving DecidableEq, Repr

/-- A valve's role (1.4). -/
inductive Role where
  | mainline | launchOutlet | launchKicker | receiveInlet
  deriving DecidableEq, Repr

/-- A valve's debounced state (6.1). -/
inductive Debounced where
  | unknown | opened | closed | moving | fault
  deriving DecidableEq, Repr

/-- The position code a report shows for a valve (6.1, R191). -/
inductive PositionCode where
  | opened | closed | moving | fault
  deriving DecidableEq, Repr

/-- What a valve command asks for: OPEN or CLOSE (6.1). -/
inductive Target where
  | toOpen | toClose
  deriving DecidableEq, Repr

/-- Who offered a valve command (6.1). -/
inductive Origin where
  | host | sequence
  deriving DecidableEq, Repr

/-- The phase of an outstanding command; NONE is the absence of a command (6.3). -/
inductive Phase where
  | queued | travelling
  deriving DecidableEq, Repr

/-- A withdrawal held over while the command is carried (6.1). -/
inductive LapseMark where
  | lapsed | lineTripped
  deriving DecidableEq, Repr

/-- How a valve command ended (6.1). -/
inductive ValveOutcome where
  | done | already | held | inhibited | undelivered | refused | timeout | fault | withdrawn
  deriving DecidableEq, Repr

/-- A meter record's state (3.2). -/
inductive MeterState where
  | baselinePending | live | extrapolating | stale | failed
  deriving DecidableEq, Repr

/-- A pig record's state (2.1). -/
inductive PigState where
  | staged | inLine | unconfirmed | lost | trapped | launchFailed
  deriving DecidableEq, Repr

/-- What a record's last fix was (2.1). -/
inductive FixKind where
  | passage | launch | manual
  deriving DecidableEq, Repr

/-- The sequence a slot runs (7.1). -/
inductive SequenceKind where
  | launch | receive
  deriving DecidableEq, Repr

/-- A sequence slot's state (7.1). -/
inductive SlotState where
  | idle | stepping | waitHold | waitClearance | waitPassage | paused | restoring
  deriving DecidableEq, Repr

/-- A step of a sequence: L1 to L8, RX1 to RX6, and the restore steps of R146. -/
inductive SeqStep where
  | l1 | l2 | l3 | l4 | l5 | l6 | l7 | l8
  | rx1 | rx2 | rx3 | rx4 | rx5 | rx6
  | restoreMainline | restoreKicker | restoreInlet | restoreOutlet
  deriving DecidableEq, Repr

/-- Why a slot is to pause, or is PAUSED (7.1). -/
inductive PauseCause where
  | host | trip
  deriving DecidableEq, Repr

/-- An end that waits for a valve step to finish (7.1). -/
inductive AbortCause where
  | aborted | notReady
  deriving DecidableEq, Repr

/-- A sequence's outcome, also the cause that ended its forward steps (7.10). -/
inductive SeqOutcome where
  | launched | received | notSecure | aborted | pauseLapsed | holdLapsed | notReady | launchTimeout | arrivalTimeout
  | valveFailed | restoreFailed
  deriving DecidableEq, Repr

/-- The status of a response (9.3). -/
inductive Status where
  | ok | okClamped | badLength | unknownRequest | badField | notConfigured | configLocked | commitFault | noSuch
  | existing | full | wrongState | busyValve | seqOwned | seqActive | held | inhibited | tripped | silent
  | trapOccupied | trapFault | guard
  deriving DecidableEq, Repr

/-- The nine alert causes, in the order of their bits (R181, R190). -/
inductive AlertCause where
  | valveStrike | pigLost | notReady | followerClosing | sequenceFailed | meterFailed | stationSilent | detectorSuspect
  | lineTrip
  deriving DecidableEq, Repr

/-- The two sticky note causes, in the order of their bits (R182, R190). -/
inductive NoteCause where
  | passage | sequenceDone
  deriving DecidableEq, Repr

/-- A tolerance profile: base B, growth g, cap C (1.7). -/
structure Profile where
  base : Nat
  growth : Nat
  cap : Nat
  deriving DecidableEq, Repr

/-- The eight line parameters (1.8). -/
structure Parameters where
  spacing : Nat
  holdProfile : Nat
  lostHalfWidth : Nat
  deliveryLimit : Nat
  silenceLimit : Nat
  fairness : Nat
  holdWaitLimit : Nat
  learningSpan : Nat
  deriving DecidableEq, Repr

/-- A station's tuning fields (1.2). -/
structure Tuning where
  guardVol : Nat
  approach : Nat
  lead : Nat
  clearance : Nat
  exitTimeout : Nat
  arrivalTimeout : Nat
  pauseLimit : Nat
  autoReceive : Bool
  policy : SilentPolicy
  replyCode : Nat
  deriving DecidableEq, Repr

/-- A station's link record (8.1). -/
structure LinkRecord where
  state : LinkState
  proven : Bool
  outCause : Option OutCause
  missed : Nat
  remote : Bool
  launchDoor : Bool
  receiveDoor : Bool
  pollWait : Nat
  deriving DecidableEq, Repr

/-- The moved marks of a sequence (7.1). -/
structure Marks where
  mainline : Bool
  outlet : Bool
  kicker : Bool
  inlet : Bool
  deriving DecidableEq, Repr

/-- A station's sequence slot (7.1). The last six fields are the model's own (notes/assumptions/19.md). -/
structure Slot where
  kind : Option SequenceKind
  state : SlotState
  bound : Option Nat
  step : Option SeqStep
  resume : Option SeqStep
  pausePending : Option PauseCause
  pauseCause : Option PauseCause
  abortPending : Option AbortCause
  cause : Option SeqOutcome
  marks : Marks
  holdWait : Nat
  passage : Nat
  pause : Nat
  lastOutcome : Option SeqOutcome
  barred : Option Nat
  /-- The ACCEPTED reply to the RX3 CLOSE has been handled: the readiness deadline no longer stands (R136). -/
  closeAccepted : Bool
  /-- The bound record took its LAUNCH_EXIT trip during the restore tail (R133, R147). -/
  exitInTail : Bool
  /-- The step at which the forward steps ended (R150). -/
  failStep : Option SeqStep
  /-- The role and outcome of the valve step that failed, for cause VALVE_FAILED (R150). -/
  failValve : Option (Role × ValveOutcome)
  /-- During the follower watch of R138: the records whose hold front was last seen at or above P_s − A_r. -/
  closing : List Nat
  /-- The slot has entered WAIT_HOLD, for the first time or again, since the counts last ran: an expiry of the hold-wait
  limit that is due was another wait's, which had ended (R132). -/
  heldAnew : Bool
  deriving DecidableEq, Repr

/-- A station fault record (R150). -/
structure FaultRecord where
  outcome : SeqOutcome
  cause : SeqOutcome
  kind : SequenceKind
  tag : Nat
  failStep : Option SeqStep
  failValve : Option (Role × ValveOutcome)
  restore : Option (SeqStep × Role × ValveOutcome)
  unrestored : List Role
  time : Nat
  deriving DecidableEq, Repr

/-- A station: its definition (1.2), segment-meter entry (R9), link record (8.1), command queue (R107), sequence slot
(7.1), fault record and TRAP_FAULT flag (R150), and changed flag (R184). -/
structure Station where
  num : Nat
  address : Nat
  position : Nat
  hasLauncher : Bool
  hasReceiver : Bool
  service : Service
  tuning : Tuning
  segmentMeter : Option Nat
  link : LinkRecord
  /-- The numbers of the valves whose commands are QUEUED, the head first (R107). -/
  queue : List Nat
  slot : Slot
  trapFault : Bool
  fault : Option FaultRecord
  changed : Bool
  deriving DecidableEq, Repr

/-- A detector: its definition (1.3) and its record (5.1). -/
structure Detector where
  num : Nat
  station : Nat
  slot : Nat
  kind : DetectorKind
  position : Nat
  latching : Bool
  profile : Nat
  rearmVolume : Nat
  state : DetectorState
  awaited : Option Nat
  inRearmSet : Bool
  confirmStart : Option Nat
  /-- Line Clock seconds since the confirmation start (R12, R99). -/
  confirmCount : Nat
  spurious : Nat
  suspect : Bool
  lastMatched : Option Nat
  deriving DecidableEq, Repr

/-- A valve's outstanding command (6.1, 6.3). -/
structure Command where
  phase : Phase
  target : Target
  origin : Origin
  queuedTime : Nat
  /-- Line Clock seconds since the command entered the queue, while it is QUEUED (R12, R113). -/
  queuedCount : Nat
  carried : Bool
  /-- The lapse marks set, the first set first (R111). -/
  marks : List LapseMark
  strokeStart : Option Nat
  /-- Line Clock seconds since the stroke start (R12, R112). -/
  strokeCount : Nat
  deriving DecidableEq, Repr

/-- A valve: its definition (1.4) and its record (6.1). -/
structure Valve where
  num : Nat
  station : Nat
  role : Role
  position : Nat
  guardVol : Nat
  strokeTimeout : Nat
  debounced : Debounced
  pendingReport : Option PositionCode
  command : Option Command
  lastOutcome : Option ValveOutcome
  permit : Bool
  /-- The records counted at the last evaluation (R119): the hold count is their number, the hold flag is set while
  there is one. -/
  holders : List Nat
  struck : Bool
  deriving DecidableEq, Repr

/-- A meter: its definition (1.5) and its record (3.2). -/
structure Meter where
  num : Nat
  station : Nat
  maxRate : Nat
  holdTime : Nat
  state : MeterState
  totalizer : Option Nat
  baseTime : Option Nat
  rate : Nat
  provisional : Nat
  debt : Nat
  implausible : Nat
  extrapolated : Nat
  deriving DecidableEq, Repr

/-- A record's flags (2.13). -/
structure PigFlags where
  clamped : Bool
  early : Bool
  valveStrike : Bool
  destinationPassed : Bool
  endOfLine : Bool
  fixClamped : Bool
  changed : Bool
  deriving DecidableEq, Repr

/-- A pig record (2.1). -/
structure Pig where
  tag : Nat
  state : PigState
  launchStation : Option Nat
  destination : Nat
  position : Nat
  residue : Nat
  slip : Nat
  learning : Bool
  fixPosition : Option Nat
  fixKind : Option FixKind
  fixDetector : Option Nat
  fixTime : Option Nat
  pointer : Option Nat
  overdue : Bool
  misses : Nat
  flags : PigFlags
  launchTime : Nat
  deriving DecidableEq, Repr

/-- What a poll carries (R155). -/
inductive Carried where
  | nothing
  | valve (v : Nat)
  | rearm (d : Nat)
  deriving DecidableEq, Repr

/-- What a frame arriving for the slot in progress, or its expiry, comes to. -/
inductive SlotFate where
  /-- The report is judged (R154). -/
  | awaited
  /-- The station entered OUT while the slot waits: a frame is discarded (R153). -/
  | stationOut
  /-- LINK_RESET abandoned the slot: a frame is discarded, and the link is free when the timeout expires (R165). -/
  | abandoned
  deriving DecidableEq, Repr

/-- The poll slot in progress (8.1). -/
structure PollSlot where
  station : Nat
  item : Carried
  /-- The reply timeout the slot started with, in ms (R153). -/
  timeout : Nat
  fate : SlotFate
  deriving DecidableEq, Repr

/-- The Station Link: the arbiter (8.1), the sampled LINK_RATE pins and the poll frame last sent. -/
structure Link where
  lastServed : Option Nat
  slot : Option PollSlot
  linkRate : BitVec 2
  txFrame : List Byte
  deriving DecidableEq, Repr

/-- The request port (chapter 9), and what it last drove on SDO. -/
structure Port where
  busy : Bool
  held : Option (List Byte)
  readPosition : Nat
  overrun : Bool
  discard : Bool
  /-- The model's own: the bytes the part drove on SDO in the last SEL_N assertion; past them, and all through a request
  assertion (R166), it drives zero bytes (notes/assumptions/10.md). -/
  sdo : List Byte
  deriving DecidableEq, Repr

/-- The Attention Unit's stored causes and masks, by the bits of R190. -/
structure Attention where
  alerts : BitVec 9
  notes : BitVec 2
  alertMasks : BitVec 9
  noteMasks : BitVec 4
  globalAlertMask : Bool
  globalNoteMask : Bool
  deriving DecidableEq, Repr

/-- A timer's expiry that a Line Clock second has made due (R12). -/
inductive Expiry where
  | meterStale (meter : Nat)
  | stroke (valve : Nat)
  | delivery (valve : Nat)
  | confirmation (detector : Nat)
  | holdWait (station : Nat)
  | launchExit (station : Nat)
  | arrival (station : Nat)
  | pause (station : Nat)
  deriving DecidableEq, Repr

/-- The whole state of the part, with its queue of waiting commands. Every table is in rising order of its number. -/
structure State where
  lineState : LineState
  stations : List Station
  detectors : List Detector
  valves : List Valve
  meters : List Meter
  /-- Tolerance profiles 0 to 3 (1.7). -/
  profiles : List Profile
  params : Parameters
  /-- The commit fault record: check and item (R14). -/
  commitFault : Option (Nat × Nat)
  /-- The MAINLINE detectors by mainline index (R15). -/
  index : List Nat
  pigs : List Pig
  /-- The Train List's tags, head first (R23). -/
  train : List Nat
  /-- The train revision (R178). -/
  revision : Nat
  /-- The Line Clock (R48). -/
  clock : Nat
  link : Link
  port : Port
  attention : Attention
  /-- The level of the LINE_TRIP input: asserted or not (R123). -/
  lineTrip : Bool
  /-- The model's own: the expiries the last Line Clock second made due and nothing has taken (notes/assumptions/4.md). -/
  due : List Expiry
  /-- The model's own: how many free choices have been drawn (notes/assumptions/6.md). -/
  choices : Nat
  /-- The waiting commands, first in, first out. -/
  pending : List Instr
  deriving DecidableEq, Repr

/-- Why a step stops with a fault. The manual lets nothing stop the part (a refused request is answered, an error is
state), so there is no reason: no meaning raises one. -/
inductive Fault where
  deriving DecidableEq, Repr

/-- Why a step has no meaning. -/
inductive Refusal where
  /-- Raised only by an arm of exec whose command has no meaning yet; none is left. Safe: the model stops. -/
  | notModelled (mnemonic : String)
  deriving DecidableEq, Repr

/-- The profile every profile number holds after power-on (R10, R19). -/
def Profile.reset : Profile := { base := 2000, growth := 15, cap := 20000 }

/-- The line parameters after power-on (1.8, R19). -/
def Parameters.reset : Parameters :=
  { spacing := 10000, holdProfile := 0, lostHalfWidth := 50000, deliveryLimit := 60, silenceLimit := 3, fairness := 8,
    holdWaitLimit := 300, learningSpan := 50000 }

/-- No mark set. -/
def Marks.clear : Marks := { mainline := false, outlet := false, kicker := false, inlet := false }

/-- A slot that runs no sequence, with nothing remembered (R16, R125). -/
def Slot.idle : Slot :=
  { kind := none, state := .idle, bound := none, step := none, resume := none, pausePending := none, pauseCause := none,
    abortPending := none, cause := none, marks := Marks.clear, holdWait := 0, passage := 0, pause := 0,
    lastOutcome := none, barred := none, closeAccepted := false, exitInTail := false, failStep := none,
    failValve := none, closing := [], heldAnew := false }

/-- The link record of a station in PROVING, fresh (R152, R161). -/
def LinkRecord.proving : LinkRecord :=
  { state := .proving, proven := false, outCause := none, missed := 0, remote := false, launchDoor := false,
    receiveDoor := false, pollWait := 0 }

/-- The link record a commit gives a station whose service request is OUT (R152). -/
def LinkRecord.hostOut : LinkRecord :=
  { state := .out, proven := false, outCause := some .host, missed := 0, remote := false, launchDoor := false,
    receiveDoor := false, pollWait := 0 }

/-- All flags clear. -/
def PigFlags.clear : PigFlags :=
  { clamped := false, early := false, valveStrike := false, destinationPassed := false, endOfLine := false,
    fixClamped := false, changed := false }

/-- The link after power-on (R152): idle, last-served none. The sampled rate is DESIGN CHOICE 0, unsafe
(notes/assumptions/14.md). -/
def Link.reset : Link := { lastServed := none, slot := none, linkRate := 0, txFrame := [] }

/-- The port after power-on (R171). -/
def Port.reset : Port :=
  { busy := false, held := none, readPosition := 0, overrun := false, discard := false, sdo := [] }

/-- The Attention Unit after power-on (R188). -/
def Attention.reset : Attention :=
  { alerts := 0, notes := 0, alertMasks := 0, noteMasks := 0, globalAlertMask := false, globalNoteMask := false }

/-- The machine right after power-on (R19, R47, R48, R152, R171, R188), with LINE_TRIP released (DESIGN CHOICE, unsafe,
notes/assumptions/14.md) and nothing waiting. -/
def State.reset : State :=
  { lineState := .unconfigured, stations := [], detectors := [], valves := [], meters := [],
    profiles := [Profile.reset, Profile.reset, Profile.reset, Profile.reset], params := Parameters.reset,
    commitFault := none, index := [], pigs := [], train := [], revision := 0, clock := 0, link := Link.reset,
    port := Port.reset, attention := Attention.reset, lineTrip := false, due := [], choices := 0, pending := [] }

end Sys2Proof.Machine
end

