-- ==== Sys2Proof/Machine/Ops.lean ====
section
/-! DEFINITION. The named operations over the tables, the Train List and the Attention Unit that every block uses: look
an item up, change it (setting the changed flag where the manual says the change is one the host is told of), raise a
cause, join and leave the train, and put steps that one moment leaves unordered into a free order. -/

namespace Sys2Proof.Machine

/-- Where the Line Clock and the 32-bit volumes saturate (R48, 3.2). -/
def maxWord : Nat := 4294967295

/-! ### Tables -/

/-- Puts an item into a table in rising order of its number; an item of the same number stays behind it. -/
def insertByKey {α : Type} (key : α → Nat) (a : α) : List α → List α
  | [] => [a]
  | b :: l => if key a ≤ key b then a :: b :: l else b :: insertByKey key a l

/-- The defined station of a number, or none. -/
def State.station (s : State) (k : Nat) : Option Station := s.stations.find? fun x => x.num == k

/-- The defined detector of a number, or none. -/
def State.detector (s : State) (d : Nat) : Option Detector := s.detectors.find? fun x => x.num == d

/-- The defined valve of a number, or none. -/
def State.valve (s : State) (v : Nat) : Option Valve := s.valves.find? fun x => x.num == v

/-- The defined meter of a number, or none. -/
def State.meter (s : State) (m : Nat) : Option Meter := s.meters.find? fun x => x.num == m

/-- The live record of a tag, or none (R28: tag 0 names no record). -/
def State.pig (s : State) (t : Nat) : Option Pig := s.pigs.find? fun x => x.tag == t

/-- Changes the station of a number. -/
def State.modStation (s : State) (k : Nat) (f : Station → Station) : State :=
  { s with stations := s.stations.map fun x => if x.num = k then f x else x }

/-- Changes the detector of a number. -/
def State.modDetector (s : State) (d : Nat) (f : Detector → Detector) : State :=
  { s with detectors := s.detectors.map fun x => if x.num = d then f x else x }

/-- Changes the valve of a number. -/
def State.modValve (s : State) (v : Nat) (f : Valve → Valve) : State :=
  { s with valves := s.valves.map fun x => if x.num = v then f x else x }

/-- Changes the meter of a number. -/
def State.modMeter (s : State) (m : Nat) (f : Meter → Meter) : State :=
  { s with meters := s.meters.map fun x => if x.num = m then f x else x }

/-- Changes the record of a tag. -/
def State.modPig (s : State) (t : Nat) (f : Pig → Pig) : State :=
  { s with pigs := s.pigs.map fun x => if x.tag = t then f x else x }

/-- The numbers of the defined stations, rising. -/
def State.stationNums (s : State) : List Nat := s.stations.map Station.num

/-- The detectors a station owns, in rising number. -/
def State.detectorsOf (s : State) (k : Nat) : List Detector := s.detectors.filter fun d => d.station == k

/-- The valves of a station, in rising number. -/
def State.valvesOf (s : State) (k : Nat) : List Valve := s.valves.filter fun v => v.station == k

/-- A station's valve of a role; a station has at most one (R6). -/
def State.roleValve (s : State) (k : Nat) (r : Role) : Option Valve :=
  s.valves.find? fun v => v.station == k && v.role == r

/-- A station's detector of a kind; of the trap kinds a station has at most one (R5). -/
def State.kindDetector (s : State) (k : Nat) (c : DetectorKind) : Option Detector :=
  s.detectors.find? fun d => d.station == k && d.kind == c

/-- A station's meter; a station has at most one (R7). -/
def State.meterOf (s : State) (k : Nat) : Option Meter := s.meters.find? fun m => m.station == k

/-! ### Causes and changed flags -/

/-- Raises an alert cause (R181). -/
def State.raise (s : State) (c : AlertCause) : State :=
  let a := s.attention
  { s with attention := { a with alerts := a.alerts ||| BitVec.ofNat 9 (2 ^ c.ctorIdx) } }

/-- Raises a sticky note cause (R182). -/
def State.note (s : State) (c : NoteCause) : State :=
  let a := s.attention
  { s with attention := { a with notes := a.notes ||| BitVec.ofNat 2 (2 ^ c.ctorIdx) } }

/-- Sets a station's changed flag (R184). -/
def State.touch (s : State) (k : Nat) : State := s.modStation k fun x => { x with changed := true }

/-- Sets a station's changed flag where something of it has changed. -/
def State.touchIf (s : State) (b : Bool) (k : Nat) : State := if b then s.touch k else s

/-- Changes a detector's record; a change of its state, awaited record, re-arm set membership, spurious count or SUSPECT
sets its station's changed flag (R92, R97, R100, R184). -/
def State.updDetector (s : State) (d : Nat) (f : Detector → Detector) : State :=
  match s.detector d with
  | none => s
  | some x =>
    let y := f x
    (s.modDetector d f).touchIf
      (decide ((x.state, x.awaited, x.inRearmSet, x.spurious, x.suspect) ≠
        (y.state, y.awaited, y.inRearmSet, y.spurious, y.suspect))) x.station

/-- Changes a valve's record; a change of its debounced state, permit, hold flag, hold count or struck field sets its
station's changed flag (R106, R118, R119, R122, R184). -/
def State.updValve (s : State) (v : Nat) (f : Valve → Valve) : State :=
  match s.valve v with
  | none => s
  | some x =>
    let y := f x
    (s.modValve v f).touchIf
      (decide ((x.debounced, x.permit, x.holders.length, x.struck) ≠
        (y.debounced, y.permit, y.holders.length, y.struck))) x.station

/-- Changes a meter's record; a change of its state sets its station's changed flag (3.2, R184). -/
def State.updMeter (s : State) (m : Nat) (f : Meter → Meter) : State :=
  match s.meter m with
  | none => s
  | some x => (s.modMeter m f).touchIf (decide (x.state ≠ (f x).state)) x.station

/-- Changes a station's link record; a change of its link state, proven field, OUT cause or flags sets the changed flag,
a change of the missed count or poll wait alone does not (R152). -/
def State.updLink (s : State) (k : Nat) (f : LinkRecord → LinkRecord) : State :=
  match s.station k with
  | none => s
  | some x =>
    let a := x.link
    let b := f a
    (s.modStation k fun y => { y with link := f y.link }).touchIf
      (decide ((a.state, a.proven, a.outCause, a.remote, a.launchDoor, a.receiveDoor) ≠
        (b.state, b.proven, b.outCause, b.remote, b.launchDoor, b.receiveDoor))) k

/-- Changes a station's sequence slot; a change of its state, step, pending fields, cause, last outcome or barred tag
sets the changed flag (R125). -/
def State.updSlot (s : State) (k : Nat) (f : Slot → Slot) : State :=
  match s.station k with
  | none => s
  | some x =>
    let a := x.slot
    let b := f a
    (s.modStation k fun y => { y with slot := f y.slot }).touchIf
      (decide ((a.state, a.step, a.pausePending, a.abortPending) ≠ (b.state, b.step, b.pausePending, b.abortPending)) ||
        decide ((a.cause, a.lastOutcome, a.barred) ≠ (b.cause, b.lastOutcome, b.barred))) k

/-! ### Reading with a stand-in

A rule is reached only with the item it names defined; these give a total reading. -/

/-- A station's sequence slot; of an undefined station, an idle one. -/
def State.slotOf (s : State) (k : Nat) : Slot := ((s.station k).map Station.slot).getD Slot.idle

/-- A station's link state; of an undefined station, OUT. -/
def State.linkStateOf (s : State) (k : Nat) : LinkState := ((s.station k).map fun x => x.link.state).getD .out

/-- A station's position P_s. -/
def State.stationPos (s : State) (k : Nat) : Nat := ((s.station k).map Station.position).getD 0

/-- A record's position. -/
def State.pigPos (s : State) (t : Nat) : Nat := ((s.pig t).map Pig.position).getD 0

/-- Whether a station is SILENT or OUT, so that its detectors are blind (R92). -/
def State.stationBlind (s : State) (k : Nat) : Bool :=
  decide (s.linkStateOf k = .silent) || decide (s.linkStateOf k = .out)

/-- Whether a sequence is active in the station's slot (R124). -/
def State.seqActive (s : State) (k : Nat) : Bool := decide ((s.slotOf k).state ≠ .idle)

/-- Whether a record is bound to an active sequence of a station (R121, R126). -/
def State.boundAt (s : State) (k t : Nat) : Bool := s.seqActive k && decide ((s.slotOf k).bound = some t)

/-- The station whose active sequence a record is bound to, or none. -/
def State.boundStation (s : State) (t : Nat) : Option Nat := s.stationNums.find? fun k => s.boundAt k t

/-! ### The Train List -/

/-- The member immediately ahead of a record in the Train List: its leader. -/
def aheadOf : List Nat → Nat → Option Nat
  | a :: b :: l, t => if b = t then some a else aheadOf (b :: l) t
  | _, _ => none

/-- The member immediately behind a record in the Train List. -/
def behindOf : List Nat → Nat → Option Nat
  | a :: b :: l, t => if a = t then some b else behindOf (b :: l) t
  | _, _ => none

/-- The members a record joining at X stands behind: those at or ahead of X (R24). -/
def State.membersAhead (s : State) (x : Nat) : List Nat := s.train.takeWhile fun t => decide (x ≤ s.pigPos t)

/-- The members a record joining at X stands ahead of (R24). -/
def State.membersBehind (s : State) (x : Nat) : List Nat := s.train.dropWhile fun t => decide (x ≤ s.pigPos t)

/-- A record joins the Train List at entry position X (R24), and the train revision rises, wrapping at 255 (R178). -/
def State.joinTrain (s : State) (t x : Nat) : State :=
  { s with train := s.membersAhead x ++ t :: s.membersBehind x, revision := (s.revision + 1) % 256 }

/-- A record leaves the Train List and the others close up (R25); the revision rises where it was a member (R178). -/
def State.leaveTrain (s : State) (t : Nat) : State :=
  if t ∈ s.train then { s with train := s.train.filter (· ≠ t), revision := (s.revision + 1) % 256 } else s

/-- The Lost Set (R22, R26): the records in state LOST, read in rising tag order. -/
def State.lostSet (s : State) : List Pig := s.pigs.filter fun p => p.state == .lost

/-! ### A free order -/

/-- A list's items in the order the free value picks them (R58): the first argument bounds the recursion, the second is
the choice counter. A list of at most one item needs no choice. -/
def freeOrder {α : Type} : Nat → Nat → List α → List α
  | 0, _, l => l
  | _ + 1, _, [] => []
  | _ + 1, _, [a] => [a]
  | n + 1, c, a :: b :: l =>
    let i := Config.pickNext c % (l.length + 2)
    ((a :: b :: l)[i]?).toList ++ freeOrder n (c + 1) ((a :: b :: l).eraseIdx i)

/-- The choices a free order of a list draws. -/
def choicesOf {α : Type} (l : List α) : Nat := l.length - 1

/-- A list in a free order, and the state with the choices drawn counted. -/
def State.inFreeOrder {α : Type} (s : State) (l : List α) : List α × State :=
  (freeOrder l.length s.choices l, { s with choices := s.choices + choicesOf l })

end Sys2Proof.Machine
end

