-- ==== Sys2Proof/Machine/Geometry.lean ====
section
/-! DEFINITION. The arithmetic of the line: its ends and segments (R1), segment rates (R63), windows and early bands
(R65), trip-time estimates (R66), hold intervals (R67), valve zones (R119) and the ETA (R64). All of it is computed from
the state at the moment of use; none of it is stored. -/

namespace Sys2Proof.Machine

/-- Line start: the position of the lowest-numbered station (R1). -/
def State.lineStart (s : State) : Nat := (s.stations.head?.map Station.position).getD 0

/-- Line end: the position of the highest-numbered station (R1). -/
def State.lineEnd (s : State) : Nat := (s.stations.getLast?.map Station.position).getD 0

/-- The station naming the segment that contains a position (R1): from a station's position up to the next station's,
the last segment taking in line end. -/
def segmentIn : List Station → Nat → Option Station
  | a :: b :: l, x =>
    if a.position ≤ x ∧ (x < b.position ∨ (l = [] ∧ x = b.position)) then some a else segmentIn (b :: l) x
  | _, _ => none

/-- The number of the meter serving a position (R1, R9). -/
def State.meterAt (s : State) (x : Nat) : Option Nat := (segmentIn s.stations x).bind Station.segmentMeter

/-- The segment rate at a position (R63): the meter's last rate while it is LIVE or EXTRAPOLATING, else 0. -/
def State.segmentRate (s : State) (x : Nat) : Nat :=
  match (s.meterAt x).bind s.meter with
  | some m =>
    match m.state with
    | .live => m.rate
    | .extrapolating => m.rate
    | .baselinePending => 0
    | .stale => 0
    | .failed => 0
  | none => 0

/-- The detector of a mainline index (R15). -/
def State.indexed (s : State) (i : Nat) : Option Detector := (s.index[i]?).bind s.detector

/-- The mainline index of a detector (R15). -/
def State.indexOf (s : State) (d : Nat) : Option Nat := s.index.findIdx? (· == d)

/-- The first mainline detector beyond a position (R34, R37, R87). -/
def State.firstBeyond (s : State) (x : Nat) : Option Nat :=
  s.index.findIdx? fun d => decide (x < ((s.detector d).map Detector.position).getD 0)

/-- The mainline detector after the one of an index: the index one above, absent after the last (R15). -/
def State.indexAfter (s : State) (i : Nat) : Option Nat := if i + 1 < s.index.length then some (i + 1) else none

/-- A tolerance profile by its number (1.7). -/
def State.profile (s : State) (i : Nat) : Profile := s.profiles.getD i Profile.reset

/-- The half-width a profile gives a distance since the last fix (1.7): B, grown by g per mille, held at C. -/
def Profile.halfWidth (p : Profile) (distance : Nat) : Nat := min (p.base + distance * p.growth / 1000) p.cap

/-- The half-width W at a detector for a record's last fix position (R65). -/
def State.windowHalf (s : State) (d : Detector) (p : Pig) : Nat :=
  (s.profile d.profile).halfWidth (d.position - p.fixPosition.getD 0)

/-- Window open (R65): the position is at or beyond the window's upstream edge. -/
def State.windowOpen (s : State) (d : Detector) (p : Pig) : Bool :=
  decide (d.position ≤ p.position + s.windowHalf d p)

/-- Overdue (R65): the position is beyond the window's downstream edge. -/
def State.beyondWindow (s : State) (d : Detector) (p : Pig) : Bool :=
  decide (d.position + s.windowHalf d p < p.position)

/-- The estimate lies in the window (R65, R73). -/
def State.inWindow (s : State) (d : Detector) (p : Pig) (q : Nat) : Bool :=
  decide (d.position ≤ q + s.windowHalf d p) && decide (q ≤ d.position + s.windowHalf d p)

/-- The estimate lies in the early band, whose ends below 0 are taken as 0 (R65, R73). -/
def State.inEarlyBand (s : State) (d : Detector) (p : Pig) (q : Nat) : Bool :=
  decide (d.position - 2 * s.windowHalf d p ≤ q) && decide (q < d.position - s.windowHalf d p)

/-- The trip-time estimate Q (R66): never below 0. -/
def State.tripEstimate (s : State) (d : Detector) (pos age : Nat) : Nat := pos - s.segmentRate d.position * age

/-- The hold half-width W_h of a tracked record (R67). -/
def State.holdHalf (s : State) (p : Pig) : Nat :=
  (s.profile s.params.holdProfile).halfWidth (p.position - p.fixPosition.getD 0)

/-- A record's hold interval (R21, R67): by the hold profile while it is tracked, by the lost hold half-width while it is
LOST, none otherwise. A lower end below 0 is taken as 0. -/
def State.holdInterval (s : State) (p : Pig) : Option (Nat × Nat) :=
  match p.state with
  | .inLine => some (p.position - s.holdHalf p, p.position + s.holdHalf p)
  | .unconfirmed => some (p.position - s.holdHalf p, p.position + s.holdHalf p)
  | .lost => some (p.position - s.params.lostHalfWidth, p.position + s.params.lostHalfWidth)
  | .staged => none
  | .trapped => none
  | .launchFailed => none

/-- A record's hold front: the upper end of its hold interval (R67). -/
def State.holdFront (s : State) (p : Pig) : Option Nat := (s.holdInterval p).map Prod.snd

/-- Two closed intervals meet (R119): they share a litre. -/
def meets (a b : Nat × Nat) : Bool := decide (a.1 ≤ b.2) && decide (b.1 ≤ a.2)

/-- A mainline valve's zone (R119). -/
def Valve.zone (v : Valve) : Nat × Nat := (v.position - v.guardVol, v.position + v.guardVol)

/-- No estimate (R64). -/
def noEta : Nat := 65535

/-- A record's ETA (R64). -/
def State.eta (s : State) (p : Pig) : Nat :=
  match p.pointer.bind s.indexed with
  | none => noEta
  | some d =>
    if d.position ≤ p.position then 0
    else
      let r := s.segmentRate p.position
      if r = 0 then noEta
      else
        let divisor := r * (1000 - p.slip)
        min (((d.position - p.position) * 1000 + divisor - 1) / divisor) 65534

end Sys2Proof.Machine
end

