-- ==== Sys2Proof/Machine/Flags.lean ====
section
/-! DEFINITION. Every flag computation: a record's flags after a fix or an advance (R44, R45, R61, R83), CHANGED (2.13),
the derived note causes (R182), the levels of ALERT_N and NOTE_N (R185) and the port flags (R171, R190). -/

namespace Sys2Proof.Machine

/-- Gives a record new flags; a change of any flag other than CHANGED sets CHANGED (2.13). -/
def Pig.withFlags (p : Pig) (g : PigFlags) : Pig :=
  let others (f : PigFlags) : PigFlags := { f with changed := false }
  { p with flags := { g with changed := p.flags.changed || g.changed || decide (others g ≠ others p.flags) } }

/-- Sets a record's CHANGED flag (R183). -/
def Pig.markChanged (p : Pig) : Pig := { p with flags := { p.flags with changed := true } }

/-- Whether a position is past a record's destination (R45). -/
def State.passedDestination (s : State) (p : Pig) (pos : Nat) : Bool := decide (s.stationPos p.destination < pos)

/-- The flags a fix leaves, from its result (R83): whether it was made from the early band, whether the neighbour clamp
or line end moved it, and the position it gives. -/
def State.fixFlags (s : State) (p : Pig) (early moved : Bool) (pos : Nat) : PigFlags :=
  { clamped := false, early := early, valveStrike := p.flags.valveStrike,
    destinationPassed := s.passedDestination p pos, endOfLine := decide (pos = s.lineEnd), fixClamped := moved,
    changed := true }

/-- The flags an advance leaves (R61): it sets, and clears none. -/
def State.advanceFlags (s : State) (p : Pig) (bound : Bool) (pos : Nat) : PigFlags :=
  { p.flags with
    clamped := p.flags.clamped || bound
    endOfLine := p.flags.endOfLine || decide (pos = s.lineEnd)
    destinationPassed := p.flags.destinationPassed || s.passedDestination p pos }

/-- Derived note cause RECORD_CHANGED (R182). -/
def State.recordChanged (s : State) : Bool := s.pigs.any fun p => p.flags.changed

/-- Derived note cause STATION_CHANGED (R182). -/
def State.stationChanged (s : State) : Bool := s.stations.any fun k => k.changed

/-- The four note causes by their bits: PASSAGE, SEQUENCE_DONE, RECORD_CHANGED, STATION_CHANGED (R182, R190). -/
def State.noteCauses (s : State) : BitVec 4 :=
  s.attention.notes.setWidth 4 ||| (if s.recordChanged then 4 else 0) ||| (if s.stationChanged then 8 else 0)

/-- ALERT_N is low (R185). -/
def State.alertLow (s : State) : Bool :=
  !s.attention.globalAlertMask && decide (s.attention.alerts &&& ~~~s.attention.alertMasks ≠ 0)

/-- NOTE_N is low (R185). -/
def State.noteLow (s : State) : Bool :=
  !s.attention.globalNoteMask && decide (s.noteCauses &&& ~~~s.attention.noteMasks ≠ 0)

/-- Port flag ALERT_PENDING: some alert cause is set, whatever the masks (R171). -/
def State.alertPending (s : State) : Bool := decide (s.attention.alerts ≠ 0)

/-- Port flag NOTE_PENDING: some note cause is present, whatever the masks (R171). -/
def State.notePending (s : State) : Bool := decide (s.noteCauses ≠ 0)

/-- The port flags byte (R190): OVERRUN bit 0, DISCARDED bit 1, ALERT_PENDING bit 2, NOTE_PENDING bit 3. -/
def portFlags (overrun discarded alert note : Bool) : Byte :=
  (if overrun then 1 else 0) ||| (if discarded then 2 else 0) ||| (if alert then 4 else 0) ||| (if note then 8 else 0)

end Sys2Proof.Machine
end

