-- ==== Sys2Proof/Machine/HoldMap.lean ====
section
/-! DEFINITION. The Hold Map: which records hold a mainline valve (R119, R121), re-evaluation (R120) and strikes
(R122). -/

namespace Sys2Proof.Machine

/-- Whether a record is counted in a valve's hold (R119): its hold interval meets the zone, and it is not the record
bound to the active sequence of the valve's own station (R121). -/
def State.countedAt (s : State) (v : Valve) (t : Nat) : Bool :=
  match (s.pig t).bind s.holdInterval with
  | none => false
  | some iv => meets iv v.zone && !s.boundAt v.station t

/-- The records counted in a mainline valve's hold, afresh (R119): Train List and Lost Set. -/
def State.holdersNow (s : State) (v : Valve) : List Nat :=
  if v.role = .mainline then (s.train ++ s.lostSet.map Pig.tag).filter (s.countedAt v) else []

/-- Whether a valve's hold is active (R119): its count is above 0. -/
def Valve.held (v : Valve) : Bool := decide (v.holders ≠ [])

/-- A debounced state in which a held valve is struck (R122): CLOSED, MOVING or FAULT. -/
def Debounced.notOpen : Debounced → Bool
  | .closed => true
  | .moving => true
  | .fault => true
  | .unknown => false
  | .opened => false

/-- Gives VALVE_STRIKE to records (R46, R122). -/
def State.strikeRecords (s : State) (tags : List Nat) : State :=
  tags.foldl (fun s t => s.modPig t fun p => p.withFlags { p.flags with valveStrike := true }) s

/-- Stores a valve's counted records and tests it for a strike (R122). At the start of a strike every counted record
receives VALVE_STRIKE; while it lasts, each record that joins the hold does; the alert is raised with either. -/
def State.applyHold (s : State) (v : Valve) (holders : List Nat) : State :=
  let struck := decide (v.role = .mainline) && decide (holders ≠ []) && v.debounced.notOpen
  let joined := if v.struck then holders.filter fun t => decide (t ∉ v.holders) else holders
  let s1 := s.updValve v.num fun x => { x with holders := holders, struck := struck }
  if struck = true ∧ joined ≠ [] then (s1.strikeRecords joined).raise .valveStrike else s1

/-- Re-evaluates one valve's hold (R119, R120). -/
def State.reevalValve (s : State) (v : Nat) : State :=
  match s.valve v with
  | none => s
  | some x => if x.role = .mainline then s.applyHold x (s.holdersNow x) else s

/-- Tests one valve for a strike with the records it holds (R106, R122). -/
def State.strikeTest (s : State) (v : Nat) : State :=
  match s.valve v with
  | none => s
  | some x => if x.role = .mainline then s.applyHold x x.holders else s

/-- Re-evaluates every mainline valve (R120). A valve whose zone no changed interval meets keeps its records. -/
def State.reevalAll (s : State) : State := (s.valves.map Valve.num).foldl State.reevalValve s

/-- Re-evaluates the mainline valves of one station (R120, R121). -/
def State.reevalStation (s : State) (k : Nat) : State := ((s.valvesOf k).map Valve.num).foldl State.reevalValve s

/-- Whether the hold of a station's MAINLINE valve is active, as the sequence's gates read it (R132, R135). -/
def State.mainlineHeld (s : State) (k : Nat) : Bool := ((s.roleValve k .mainline).map Valve.held).getD false

end Sys2Proof.Machine
end

