-- ==== Sys2Proof/Machine/Valves.lean ====
section
/-! DEFINITION. Valve Control's shared operations: close permission (R117), a command's entry into its station's queue
and its end (R109, R112, R116), and the Trap Sequencer's offer (R109). -/

namespace Sys2Proof.Machine

/-- The debounced state equals a command's target (R109). -/
def Debounced.at : Debounced → Target → Bool
  | .opened, .toOpen => true
  | .closed, .toClose => true
  | _, _ => false

/-- Whether the last accepted report of a station showed REMOTE (R117, R157). -/
def State.remoteShown (s : State) (k : Nat) : Bool := ((s.station k).map fun x => x.link.remote).getD false

/-- A CLOSE lacks the host's permit, or the station is not shown REMOTE (R108, R109, R110). -/
def State.closeInhibited (s : State) (v : Valve) : Bool := !v.permit || !s.remoteShown v.station

/-- A CLOSE has close permission (R117). -/
def State.closePermitted (s : State) (v : Valve) : Bool := !v.held && !s.closeInhibited v

/-- A command that has just entered QUEUED (R109). -/
def Command.fresh (t : Target) (o : Origin) (clock : Nat) : Command :=
  { phase := .queued, target := t, origin := o, queuedTime := clock, queuedCount := 0, carried := false, marks := [],
    strokeStart := none, strokeCount := 0 }

/-- A command enters QUEUED at the tail of its station's queue (R109). -/
def State.enqueue (s : State) (v : Valve) (t : Target) (o : Origin) : State :=
  (s.modValve v.num fun x => { x with command := some (Command.fresh t o s.clock) }).modStation v.station
    fun k => { k with queue := k.queue ++ [v.num] }

/-- A command ends (R112, R116): its outcome is recorded, its fields become absent, it leaves the queue, and the
station's changed flag is set. -/
def State.endCommand (s : State) (v : Valve) (o : ValveOutcome) : State :=
  (s.modValve v.num fun x => { x with command := none, lastOutcome := some o }).modStation v.station
    fun k => { k with queue := k.queue.filter (· ≠ v.num), changed := true }

/-- Whether a station is OUT, or SILENT with silent policy REFUSE, so that it takes no offer (R109). -/
def State.takesNoOffer (s : State) (k : Nat) : Bool :=
  match s.station k with
  | none => true
  | some x => decide (x.link.state = .out) || (decide (x.link.state = .silent) && decide (x.tuning.policy = .refuse))

/-- How the Trap Sequencer's offer ends at once, or none where it is queued (R109's table, in its order). -/
def State.offerEnds (s : State) (v : Valve) (t : Target) : Option ValveOutcome :=
  if s.lineTrip then some .inhibited
  else if s.takesNoOffer v.station then some .undelivered
  else if v.debounced.at t then some .already
  else if t = .toClose ∧ v.held = true then some .held
  else if t = .toClose ∧ s.closeInhibited v = true then some .inhibited
  else none

/-- The Trap Sequencer offers a command (R109): the state after it, and the outcome where it ended at once. -/
def State.offer (s : State) (v : Valve) (t : Target) : State × Option ValveOutcome :=
  match s.offerEnds v t with
  | some o => (s.endCommand v o, some o)
  | none => (s.enqueue v t .sequence, none)

/-- How the head of a queue fails the test made as a poll is built, or none where it passes (R110, in its order). -/
def State.sendTest (s : State) (v : Valve) (t : Target) : Option ValveOutcome :=
  if v.debounced.at t then some .already
  else if t = .toClose ∧ v.held = true then some .held
  else if t = .toClose ∧ s.closeInhibited v = true then some .inhibited
  else none

/-- How a TRAVELLING command's stroke is found ended by the debounced state (R112). -/
def strokeEnds (d : Debounced) (t : Target) : Option ValveOutcome :=
  if d.at t then some .done else if d = .fault then some .fault else none

/-- The outcome a lapse mark gives a command no longer carried (R111). -/
def LapseMark.outcome : LapseMark → ValveOutcome
  | .lapsed => .undelivered
  | .lineTripped => .inhibited

/-- Sets a lapse mark behind those set before it (R111: the one set first gives the outcome). -/
def Command.mark (c : Command) (m : LapseMark) : Command :=
  if m ∈ c.marks then c else { c with marks := c.marks ++ [m] }

end Sys2Proof.Machine
end

