-- ==== Sys2Proof/Machine/Rearm.lean ====
section
/-! DEFINITION. The re-arm tests of latching detectors (R97). -/

namespace Sys2Proof.Machine

/-- A TRIPPED latching detector is due for its re-arm (R97). -/
def State.rearmDue (s : State) (d : Detector) : Bool :=
  match d.awaited with
  | none => true
  | some t =>
    match d.kind with
    | .mainline => decide (t ∉ s.train) || decide (d.position + d.rearmVolume ≤ s.pigPos t)
    | .launchExit => decide (t ∉ s.train) || decide (s.stationPos d.station + d.rearmVolume ≤ s.pigPos t)
    | .trapArrival => false

/-- The re-arm test of a detector (R97): found due, it joins its station's re-arm set. -/
def State.rearmTest (s : State) (d : Nat) : State :=
  match s.detector d with
  | none => s
  | some x =>
    if x.latching = true ∧ x.state = .tripped ∧ x.inRearmSet = false ∧ s.rearmDue x = true then
      s.updDetector d fun y => { y with inRearmSet := true }
    else s

/-- The re-arm test of every detector that awaits a record, at a change of that record (R97). -/
def State.rearmAwaiting (s : State) (t : Nat) : State :=
  ((s.detectors.filter fun d => d.awaited == some t).map Detector.num).foldl State.rearmTest s

end Sys2Proof.Machine
end

