-- ==== Sys2Proof/Machine/Sequencer.lean ====
section
/-! DEFINITION. The Trap Sequencer's engine (chapter 7): the step lists, the gates, the readiness deadline, the boundary
at which a pause takes effect, valve steps and what their outcomes do, the restore tail, the end of a sequence, and how
a valve command's end reaches the slot; the record at the end is as R149 tabulates it. The forward steps and the restore
tail are each run down a list of steps, so a run of steps that end at once (ALREADY) is one recursion on that list. The
engine's functions take how a sequence ends as an argument (Ending): the end of a launch may hand a record's change on,
which may make a receive go on or end, and such a receive ends by `State.endSlot`, its record keeping its state. -/

namespace Sys2Proof.Machine

/-! ### Steps -/

/-- The launch steps after the check L1 (7.4). -/
def launchSteps : List SeqStep := [.l2, .l3, .l4, .l5, .l6, .l7, .l8]

/-- The receive steps after the check RX1 (7.5). -/
def receiveSteps : List SeqStep := [.rx2, .rx3, .rx4, .rx5, .rx6]

/-- The restore steps in the order of R146; a sequence sets marks only on the valves of its own kind. -/
def restoreSteps : List SeqStep := [.restoreMainline, .restoreKicker, .restoreInlet, .restoreOutlet]

/-- The forward steps of a kind of sequence. -/
def forwardSteps : SequenceKind → List SeqStep
  | .launch => launchSteps
  | .receive => receiveSteps

/-- The steps from a step on. -/
def stepsFrom (p : SeqStep) (l : List SeqStep) : List SeqStep := l.dropWhile fun q => decide (q ≠ p)

/-- The steps after a step. -/
def stepsAfter (p : SeqStep) (l : List SeqStep) : List SeqStep := (stepsFrom p l).tail

/-- The valve a step commands and its target (R124, R146); none for a check or a wait. -/
def SeqStep.action : SeqStep → Option (Role × Target)
  | .l1 => none
  | .l2 => some (.launchOutlet, .toOpen)
  | .l3 => some (.launchKicker, .toOpen)
  | .l4 => some (.mainline, .toClose)
  | .l5 => none
  | .l6 => some (.mainline, .toOpen)
  | .l7 => some (.launchKicker, .toClose)
  | .l8 => some (.launchOutlet, .toClose)
  | .rx1 => none
  | .rx2 => some (.receiveInlet, .toOpen)
  | .rx3 => some (.mainline, .toClose)
  | .rx4 => none
  | .rx5 => some (.mainline, .toOpen)
  | .rx6 => some (.receiveInlet, .toClose)
  | .restoreMainline => some (.mainline, .toOpen)
  | .restoreKicker => some (.launchKicker, .toClose)
  | .restoreInlet => some (.receiveInlet, .toClose)
  | .restoreOutlet => some (.launchOutlet, .toClose)

/-- Whether a step moves its valve away from its start position, so that acceptance sets the mark (R131). -/
def SeqStep.movesAway : SeqStep → Bool
  | .l2 => true | .l3 => true | .l4 => true | .rx2 => true | .rx3 => true
  | .l1 => false | .l5 => false | .l6 => false | .l7 => false | .l8 => false
  | .rx1 => false | .rx4 => false | .rx5 => false | .rx6 => false
  | .restoreMainline => false | .restoreKicker => false | .restoreInlet => false | .restoreOutlet => false

/-- Whether a step returns its valve, so that DONE or ALREADY clears the mark (R131, R146). -/
def SeqStep.returns : SeqStep → Bool
  | .l6 => true | .l7 => true | .l8 => true | .rx5 => true | .rx6 => true
  | .restoreMainline => true | .restoreKicker => true | .restoreInlet => true | .restoreOutlet => true
  | .l1 => false | .l2 => false | .l3 => false | .l4 => false | .l5 => false
  | .rx1 => false | .rx2 => false | .rx3 => false | .rx4 => false

/-- Whether a step is a restore step (7.9). -/
def SeqStep.isRestore (p : SeqStep) : Bool := decide (p ∈ restoreSteps)

/-- A valve step succeeds with DONE or ALREADY (R131). -/
def ValveOutcome.succeeds (o : ValveOutcome) : Bool := decide (o = .done) || decide (o = .already)

/-- The moved mark of a role. -/
def Marks.get (m : Marks) : Role → Bool
  | .mainline => m.mainline
  | .launchOutlet => m.outlet
  | .launchKicker => m.kicker
  | .receiveInlet => m.inlet

/-- The marks with one role's set or cleared. -/
def Marks.put (m : Marks) (r : Role) (b : Bool) : Marks :=
  match r with
  | .mainline => { m with mainline := b }
  | .launchOutlet => { m with outlet := b }
  | .launchKicker => { m with kicker := b }
  | .receiveInlet => { m with inlet := b }

/-- Whether a step's valve is marked. -/
def SeqStep.marked (p : SeqStep) (m : Marks) : Bool := (p.action.map fun a => m.get a.1).getD false

/-- The marks after a step's success: a returning step clears its valve's mark (R131, R146). -/
def SeqStep.clearMark (p : SeqStep) (m : Marks) : Marks :=
  match p.action with
  | some a => if p.returns then m.put a.1 false else m
  | none => m

/-- The roles still marked, in role order (R147, R150). -/
def Marks.roles (m : Marks) : List Role :=
  [Role.mainline, .launchOutlet, .launchKicker, .receiveInlet].filter m.get

/-- The sequence outcome an abort-pending cause becomes (R144). -/
def AbortCause.outcome : AbortCause → SeqOutcome
  | .aborted => .aborted
  | .notReady => .notReady

/-- Whether an outcome raises SEQUENCE_FAILED and is written to the fault record (7.10). -/
def SeqOutcome.failed : SeqOutcome → Bool
  | .launched => false
  | .received => false
  | .aborted => false
  | .notSecure => true
  | .pauseLapsed => true
  | .holdLapsed => true
  | .notReady => true
  | .launchTimeout => true
  | .arrivalTimeout => true
  | .valveFailed => true
  | .restoreFailed => true

/-! ### Gates, deadline and followers -/

/-- The record bound to a slot, where it is live. -/
def State.boundPig (s : State) (k : Nat) : Option Pig := (s.slotOf k).bound.bind s.pig

/-- The records ahead of and behind a bound record, or, for a LOST one, those it would join between (R135). -/
def State.boundNeighbours (s : State) (p : Pig) : Option Nat × Option Nat :=
  if p.state = .lost then ((s.membersAhead p.position).getLast?, (s.membersBehind p.position).head?)
  else (aheadOf s.train p.tag, behindOf s.train p.tag)

/-- The clearance gate's "ahead" (R135): the record ahead stands beyond the MAINLINE valve's zone. -/
def State.clearAhead (s : State) (k : Nat) (ahead : Option Nat) : Bool :=
  match ahead, s.roleValve k .mainline with
  | some t, some v => decide (v.position + v.guardVol < s.pigPos t)
  | _, _ => true

/-- The clearance gate's "behind" (R135): the hold front of the record behind is short of the bound record's position
less C_r. -/
def State.clearBehind (s : State) (k : Nat) (p : Pig) (behind : Option Nat) : Bool :=
  match (behind.bind s.pig).bind s.holdFront, s.station k with
  | some front, some x => decide (front + x.tuning.clearance < p.position)
  | _, _ => true

/-- The clearance gate is open (R135). -/
def State.clearanceOpen (s : State) (k : Nat) : Bool :=
  match s.boundPig k with
  | none => true
  | some p => s.clearAhead k (s.boundNeighbours p).1 && s.clearBehind k p (s.boundNeighbours p).2

/-- Whether a front stands at or above P_s − A_r of a station (R136, R138). -/
def State.atDeadline (s : State) (k front : Nat) : Bool :=
  match s.station k with
  | none => false
  | some x => decide (x.position ≤ front + x.tuning.approach)

/-- The readiness deadline stands over a receive (R136): from its start to the ACCEPTED reply to its RX3 CLOSE, the
setting of abort-pending or the fixing of its cause. -/
def Slot.deadlineStands (x : Slot) : Bool :=
  decide (x.kind = some .receive) && decide (x.state ≠ .idle) && decide (x.abortPending = none) &&
    decide (x.cause = none) && !x.closeAccepted

/-- The readiness deadline stands and is reached (R136). -/
def State.deadlineReached (s : State) (k : Nat) : Bool :=
  (s.slotOf k).deadlineStands &&
    match (s.boundPig k).bind s.holdFront with
    | none => false
    | some f => s.atDeadline k f

/-- The records other than the bound one whose hold front stands at or above P_s − A_r (R138). -/
def State.closingNow (s : State) (k : Nat) : List Nat :=
  (s.pigs.filter fun p => decide ((s.slotOf k).bound ≠ some p.tag) &&
    match s.holdFront p with
    | none => false
    | some f => s.atDeadline k f).map Pig.tag

/-- Whether a record stands below P_s, as a follower does (R138). -/
def State.standsBelow (s : State) (k t : Nat) : Bool := decide (s.pigPos t < s.stationPos k)

/-- The follower watch runs from the end of RX3 to the end of RX4 (R138). -/
def Slot.watching (x : Slot) : Bool :=
  decide (x.kind = some .receive) && decide (x.step = some .rx4) && decide (x.cause = none) &&
    (decide (x.state = .waitPassage) || decide (x.state = .paused))

/-- Stores the closing records; raises FOLLOWER_CLOSING where a follower among them was not there before (R138). -/
def State.followerLook (s : State) (k : Nat) (before : List Nat) : State :=
  let now := s.closingNow k
  let s1 := s.modStation k fun x => { x with slot := { x.slot with closing := now } }
  if now.any fun t => decide (t ∉ before) && s.standsBelow k t then s1.raise .followerClosing else s1

/-- The follower watch's look at a change (R138). -/
def State.followerWatch (s : State) (k : Nat) : State :=
  if (s.slotOf k).watching then s.followerLook k (s.slotOf k).closing else s

/-! ### The end of a sequence -/

/-- The record whose state the end of a launch changes (R35, R148 step 1): a STAGED one, for every outcome but LAUNCHED. -/
def State.givenUp (s : State) (k : Nat) (o : SeqOutcome) : Option Nat :=
  match (s.slotOf k).kind, s.boundPig k with
  | some .launch, some p => if p.state = .staged ∧ o ≠ .launched then some p.tag else none
  | _, _ => none

/-- The record of a launch that is given up becomes LAUNCH_FAILED (R35, R148 step 1). -/
def State.recordAtEnd (s : State) (t : Nat) : State :=
  s.modPig t fun p => { p.markChanged with state := .launchFailed }

/-- The fault record of an ended sequence (R150). -/
def Slot.faultRecord (x : Slot) (o : SeqOutcome) (restore : Option (SeqStep × Role × ValveOutcome)) (clock : Nat) :
    FaultRecord :=
  { outcome := o, cause := if o = .restoreFailed then x.cause.getD o else o, kind := x.kind.getD .launch,
    tag := x.bound.getD 0, failStep := x.failStep.or x.step, failValve := x.failValve, restore := restore,
    unrestored := if o = .restoreFailed then x.marks.roles else [], time := clock }

/-- The slot a sequence leaves (R148 steps 3 and 4). -/
def Slot.ended (x : Slot) (o : SeqOutcome) : Slot :=
  { Slot.idle with
    lastOutcome := some o
    barred := if x.kind = some .receive ∧ o ≠ .received then x.bound else x.barred }

/-- How a sequence ends: at a station, with an outcome, and with the restore command that failed, if one did. -/
abbrev Ending := State → Nat → SeqOutcome → Option (SeqStep × Role × ValveOutcome) → State

/-- A sequence ends with an outcome, its record seen to (R148 steps 2 to 6). This is all of a receive's end. -/
def State.endSlot (s : State) (k : Nat) (o : SeqOutcome) (restore : Option (SeqStep × Role × ValveOutcome)) : State :=
  let x := s.slotOf k
  let s1 := s.updSlot k fun y => y.ended o
  let s2 := s1.reevalStation k
  let s3 := if o.failed then s2.modStation k fun y =>
      { y with fault := some (x.faultRecord o restore s.clock), trapFault := y.trapFault || decide (o = .restoreFailed),
               changed := true }
    else s2
  let s4 := s3.note .sequenceDone
  if o.failed then s4.raise .sequenceFailed else s4

/-! ### The restore tail -/

/-- A slot enters PAUSED at a boundary, the step its resume point (R140). -/
def Slot.pausedAt (x : Slot) (p : SeqStep) (c : PauseCause) : Slot :=
  { x with state := .paused, pauseCause := some c, resume := some p, step := some p, pause := 0, pausePending := none }

/-- A slot leaves PAUSED, or a wait, for a step in a state; in WAIT_HOLD it waits anew (R132). -/
def Slot.at (x : Slot) (p : SeqStep) (st : SlotState) : Slot :=
  { x with state := st, step := some p, resume := none, pauseCause := none,
           heldAnew := x.heldAnew || decide (st = .waitHold) }

/-- A step offers its command (R131, R146). A station whose sequence runs has the valve (R14 checks 5 and 6); where it
had not, the offer would end UNDELIVERED (notes/assumptions/26.md). -/
def State.offerStep (s : State) (k : Nat) (p : SeqStep) : State × Option ValveOutcome :=
  match p.action with
  | none => (s, some .undelivered)
  | some a =>
    match s.roleValve k a.1 with
    | none => (s, some .undelivered)
    | some v => s.offer v a.2

/-- The role a step commands; of a step that commands none, MAINLINE. -/
def SeqStep.role (p : SeqStep) : Role := (p.action.map Prod.fst).getD .mainline

/-- The outcome of a restore tail that has cleared every mark (R147). -/
def Slot.tailOutcome (x : Slot) : SeqOutcome :=
  if x.kind = some .launch ∧ x.exitInTail = true then .launched else x.cause.getD .aborted

/-- Runs the restore tail over the restore steps that are left (R146, R147). A step whose valve is not marked is passed
over; at the boundary before a marked one, pause-pending TRIP acts. -/
def State.runRestoreBy (e : Ending) (k : Nat) : List SeqStep → State → State
  | [], s => e s k (s.slotOf k).tailOutcome none
  | p :: rest, s =>
    if p.marked (s.slotOf k).marks = false then State.runRestoreBy e k rest s
    else
      match (s.slotOf k).pausePending with
      | some c => s.updSlot k fun x => x.pausedAt p c
      | none =>
        let s1 := s.updSlot k fun x => x.at p .restoring
        match s1.offerStep k p with
        | (s2, none) => s2
        | (s2, some o) =>
          if o.succeeds then
            State.runRestoreBy e k rest (s2.updSlot k fun x => { x with marks := p.clearMark x.marks })
          else e s2 k .restoreFailed (some (p, p.role, o))

/-- What a slot holds pending as its restore tail begins: a HOST pause-pending is cleared (R140), and while LINE_TRIP is
asserted the tail is to pause at its first boundary, a slot that was PAUSED included (R145, R146). -/
def Slot.tailPending (x : Slot) (trip : Bool) : Option PauseCause :=
  if trip then some .trip else if x.pausePending = some .host then none else x.pausePending

/-- The forward steps end with a cause and the restore tail begins (R146); what the fault record needs of the failure is
kept (R150). -/
def State.beginTailBy (s : State) (e : Ending) (k : Nat) (cause : SeqOutcome)
    (failValve : Option (Role × ValveOutcome)) : State :=
  State.runRestoreBy e k restoreSteps (s.updSlot k fun x =>
    { x with cause := some cause, abortPending := none, resume := none, pauseCause := none,
             pausePending := x.tailPending s.lineTrip,
             failStep := x.step, failValve := failValve })

/-! ### Cutting a step short -/

/-- The valve of a slot's current step, where it has a command outstanding. -/
def State.stepValve (s : State) (k : Nat) : Option Valve :=
  ((s.slotOf k).step.bind SeqStep.action).bind fun a => (s.roleValve k a.1).bind fun v =>
    if v.command.isSome then some v else none

/-- A valve step with its command outstanding is cut short (R144): a command not yet carried is withdrawn and the end
acts at once; otherwise the end waits as abort-pending. -/
def State.cutShortBy (s : State) (e : Ending) (k : Nat) (v : Valve) (c : AbortCause) : State :=
  match v.command with
  | none => s
  | some cmd =>
    if cmd.phase = .queued ∧ cmd.carried = false then (s.endCommand v .withdrawn).beginTailBy e k c.outcome none
    else s.updSlot k fun x => { x with abortPending := some c }

/-- The readiness deadline is reached (R136): the alert is raised, and the attempt is abandoned. -/
def State.abandonBy (s : State) (e : Ending) (k : Nat) : State :=
  let s1 := s.raise .notReady
  let x := s1.slotOf k
  match s1.stepValve k with
  | some v =>
    if x.state = .stepping ∧ (x.step = some .rx2 ∨ x.step = some .rx3) then s1.cutShortBy e k v .notReady
    else s1.beginTailBy e k .notReady none
  | none => s1.beginTailBy e k .notReady none

/-! ### The forward steps -/

/-- The outcome of a sequence whose last forward step has succeeded (7.10). -/
def SequenceKind.success : SequenceKind → SeqOutcome
  | .launch => .launched
  | .receive => .received

/-- The state a slot waits in at a step before it may offer its command, or none where the gates let it (R132, R135). -/
def State.gate (s : State) (k : Nat) (p : SeqStep) : Option SlotState :=
  if p = .rx3 ∧ s.clearanceOpen k = false then some .waitClearance
  else if (p = .l4 ∨ p = .rx3) ∧ s.mainlineHeld k = true then some .waitHold
  else none

/-- What the success of a forward step does besides going on: a returning step clears its valve's mark (R131), and the
end of RX3 begins the follower watch (R138). -/
def State.stepSucceeded (s : State) (k : Nat) (p : SeqStep) : State :=
  let s1 := s.updSlot k fun x => { x with marks := p.clearMark x.marks }
  if p = .rx3 then s1.followerLook k [] else s1

/-- Runs the forward steps that are left, from a step boundary (R124): the readiness deadline is tested (R136), a pending
pause takes effect (R140), or the next step is performed (R131 to R137). -/
def State.runForwardBy (e : Ending) (k : Nat) : List SeqStep → State → State
  | [], s => e s k (((s.slotOf k).kind.map SequenceKind.success).getD .aborted) none
  | p :: rest, s =>
    if s.deadlineReached k then s.abandonBy e k
    else
      match (s.slotOf k).pausePending with
      | some c => s.updSlot k fun x => x.pausedAt p c
      | none =>
        if p.action = none then s.updSlot k fun x => { x.at p .waitPassage with passage := 0 }
        else
          match s.gate k p with
          | some st => s.updSlot k fun x => x.at p st
          | none =>
            let s1 := s.updSlot k fun x => x.at p .stepping
            match s1.offerStep k p with
            | (s2, none) => s2
            | (s2, some o) =>
              if o.succeeds then State.runForwardBy e k rest (s2.stepSucceeded k p)
              else if o = .held ∧ (p = .l4 ∨ p = .rx3) then s2.updSlot k fun x => x.at p .waitHold
              else s2.beginTailBy e k .valveFailed (some (p.role, o))

/-- Goes on from a boundary at which a step is the next action; a restore step goes on with the tail. -/
def State.goOnAtBy (s : State) (e : Ending) (k : Nat) (p : SeqStep) : State :=
  if p.isRestore then State.runRestoreBy e k (stepsFrom p restoreSteps) s
  else State.runForwardBy e k (stepsFrom p (((s.slotOf k).kind.map forwardSteps).getD [])) s

/-! ### A change of a record that stands in no collection -/

/-- The opening of the clearance gate reaches a slot waiting on it (R135). -/
def State.clearanceGateBy (s : State) (e : Ending) (k : Nat) : State :=
  match (s.slotOf k).state, (s.slotOf k).step with
  | .waitClearance, some p => if s.clearanceOpen k then s.goOnAtBy e k p else s
  | _, _ => s

/-- A station's receive is re-examined (R29): the readiness deadline first (R136), then the clearance gate (R135), then the
follower watch (R138). -/
def State.reviewReceive (s : State) (k : Nat) : State :=
  if (s.slotOf k).kind = some .receive then
    (if s.deadlineReached k then s.abandonBy State.endSlot k else s.clearanceGateBy State.endSlot k).followerWatch k
  else s

/-- A change of a record's state to STAGED or LAUNCH_FAILED is handed on (R29). Neither state has a hold interval, so the
Hold Map has no zone to re-evaluate; Detector Control makes its tests (R97), and the receives are re-examined. -/
def State.handAside (s : State) (t : Nat) : State :=
  let s1 := s.rearmAwaiting t
  s1.stationNums.foldl State.reviewReceive s1

/-- A sequence ends with an outcome (R148); a launch that is given up hands its record's change on as it is made (R29). -/
def State.endSequence (s : State) (k : Nat) (o : SeqOutcome) (restore : Option (SeqStep × Role × ValveOutcome)) : State :=
  match s.givenUp k o with
  | none => s.endSlot k o restore
  | some t => ((s.recordAtEnd t).handAside t).endSlot k o restore

/-! ### The engine, with a sequence's end -/

/-- Runs the restore tail (R146, R147). -/
def State.runRestore (k : Nat) (l : List SeqStep) (s : State) : State := State.runRestoreBy State.endSequence k l s

/-- The forward steps end with a cause and the restore tail begins (R146). -/
def State.beginTail (s : State) (k : Nat) (cause : SeqOutcome) (failValve : Option (Role × ValveOutcome)) : State :=
  s.beginTailBy State.endSequence k cause failValve

/-- A valve step with its command outstanding is cut short (R144). -/
def State.cutShort (s : State) (k : Nat) (v : Valve) (c : AbortCause) : State := s.cutShortBy State.endSequence k v c

/-- The readiness deadline is reached (R136). -/
def State.abandon (s : State) (k : Nat) : State := s.abandonBy State.endSequence k

/-- Runs the forward steps that are left, from a step boundary (R124). -/
def State.runForward (k : Nat) (l : List SeqStep) (s : State) : State := State.runForwardBy State.endSequence k l s

/-- Goes on from a boundary at which a step is the next action. -/
def State.goOnAt (s : State) (k : Nat) (p : SeqStep) : State := s.goOnAtBy State.endSequence k p

/-- The opening of the clearance gate reaches a slot waiting on it (R135). -/
def State.clearanceGate (s : State) (k : Nat) : State := s.clearanceGateBy State.endSequence k

/-! ### Outcomes of valve commands -/

/-- A restore command has ended (R146, R147). -/
def State.restoreOutcome (s : State) (k : Nat) (p : SeqStep) (o : ValveOutcome) : State :=
  if o.succeeds then
    State.runRestore k (stepsAfter p restoreSteps) (s.updSlot k fun x => { x with marks := p.clearMark x.marks })
  else s.endSequence k .restoreFailed (some (p, p.role, o))

/-- Goes on from the boundary after a forward step. -/
def State.goOnAfter (s : State) (k : Nat) (p : SeqStep) : State :=
  State.runForward k (stepsAfter p (((s.slotOf k).kind.map forwardSteps).getD [])) s

/-- The outcome of a forward step's command (R131, R144). -/
def State.forwardOutcome (s : State) (k : Nat) (p : SeqStep) (o : ValveOutcome) : State :=
  match (s.slotOf k).abortPending with
  | some c =>
    let s1 := if o.succeeds then s.updSlot k fun x => { x with marks := p.clearMark x.marks } else s
    s1.beginTail k c.outcome none
  | none =>
    if o.succeeds then (s.stepSucceeded k p).goOnAfter k p
    else if o = .held ∧ (p = .l4 ∨ p = .rx3) then s.updSlot k fun x => x.at p .waitHold
    else s.beginTail k .valveFailed (some (p.role, o))

/-- The outcome of a sequence's command reaches its slot (R116). -/
def State.slotOutcome (s : State) (k : Nat) (o : ValveOutcome) : State :=
  match (s.slotOf k).state, (s.slotOf k).step with
  | .restoring, some p => s.restoreOutcome k p o
  | .stepping, some p => s.forwardOutcome k p o
  | _, _ => s

/-- A valve's command ends with an outcome, which is handed to its origin (R116). -/
def State.finishCommand (s : State) (v : Nat) (o : ValveOutcome) : State :=
  match s.valve v with
  | none => s
  | some x =>
    match x.command with
    | none => s
    | some c =>
      match c.origin with
      | .host => s.endCommand x o
      | .sequence => (s.endCommand x o).slotOutcome x.station o

/-- A command as its station accepts it (R111). -/
def Command.accepted (c : Command) (clock : Nat) : Command :=
  { c with phase := .travelling, carried := false, marks := [], strokeStart := some clock, strokeCount := 0 }

/-- A station's reply ACCEPTED is handled for a carried command (R111): it leaves the queue and is TRAVELLING; a sequence
step that moves its valve away sets its mark (R131), and the acceptance of the RX3 CLOSE ends the readiness deadline's
span (R136). -/
def State.acceptCommand (s : State) (x : Valve) (c : Command) : State :=
  let s1 := (s.modValve x.num fun y => { y with command := some (c.accepted s.clock) }).modStation x.station
    fun k => { k with queue := k.queue.filter (· ≠ x.num) }
  match c.origin, (s.slotOf x.station).step with
  | .sequence, some p =>
    s1.updSlot x.station fun y =>
      { y with marks := if p.movesAway then y.marks.put x.role true else y.marks,
               closeAccepted := y.closeAccepted || decide (p = .rx3) }
  | _, _ => s1

/-- A TRAVELLING command is tested for its end against the debounced state (R112). -/
def State.strokeTest (s : State) (v : Nat) : State :=
  match s.valve v with
  | none => s
  | some x =>
    match x.command with
    | none => s
    | some c =>
      if c.phase = .travelling then
        match strokeEnds x.debounced c.target with
        | none => s
        | some o => s.finishCommand v o
      else s

/-! ### Starting a sequence -/

/-- The slot of a sequence that has just started (R127, R128): every pending field clear but the TRIP that R145 sets while
LINE_TRIP is asserted. -/
def Slot.started (x : Slot) (kind : SequenceKind) (p : SeqStep) (tag : Nat) (barred : Option Nat) (trip : Bool) : Slot :=
  { Slot.idle with
    kind := some kind
    state := .stepping
    bound := some tag
    step := some p
    pausePending := if trip then some .trip else none
    lastOutcome := x.lastOutcome
    barred := barred }

/-- A valve of a role is debounced in a state. -/
def State.roleIs (s : State) (k : Nat) (r : Role) (d : Debounced) : Bool :=
  match s.roleValve k r with
  | none => false
  | some v => decide (v.debounced = d)

/-- The launcher holds a record: STAGED or LAUNCH_FAILED with this launch station (R30). -/
def State.launcherRecord (s : State) (k : Nat) (st : PigState) : Option Pig :=
  s.pigs.find? fun p => p.state == st && p.launchStation == some k

/-- The receiver holds a TRAPPED record (R30). -/
def State.receiverOccupied (s : State) (k : Nat) : Bool :=
  s.pigs.any fun p => p.state == .trapped && p.destination == k

/-- The check L1 (R130). -/
def State.launcherSecure (s : State) (k : Nat) : Bool :=
  match s.station k with
  | none => false
  | some x => x.link.launchDoor && x.link.remote && s.roleIs k .launchOutlet .closed && s.roleIs k .launchKicker .closed &&
      s.roleIs k .mainline .opened

/-- The check RX1 (R134). -/
def State.receiverSecure (s : State) (k : Nat) : Bool :=
  match s.station k with
  | none => false
  | some x => x.link.receiveDoor && x.link.remote && s.roleIs k .receiveInlet .closed && s.roleIs k .mainline .opened &&
      !s.receiverOccupied k

/-- A launch sequence starts and performs L1 (R127, R130). -/
def State.startLaunch (s : State) (k tag : Nat) : State :=
  let s1 := (s.updSlot k fun x => x.started .launch .l1 tag x.barred s.lineTrip).reevalStation k
  if s1.launcherSecure k then State.runForward k launchSteps s1 else s1.endSequence k .notSecure none

/-- A receive sequence starts (R128, R129): the readiness deadline is tested, and RX1 is performed (R134, R136). -/
def State.startReceive (s : State) (k tag : Nat) (barred : Option Nat) : State :=
  let s1 := (s.updSlot k fun x => x.started .receive .rx1 tag barred s.lineTrip).reevalStation k
  if s1.deadlineReached k then s1.abandon k
  else if s1.receiverSecure k then State.runForward k receiveSteps s1
  else s1.endSequence k .notSecure none

/-- A valve the station's sequences claim has a command outstanding (R126, R31 check 11). -/
def State.claimedBusy (s : State) (k : Nat) : Bool := (s.valvesOf k).any fun v => v.command.isSome

end Sys2Proof.Machine
end

