-- ==== Sys2Proof/Machine/Records.lean ====
section
/-! DEFINITION. What happens to a pig record and who is told: handing a change on to the Hold Map, Detector Control and the
Trap Sequencer (R29), the pointer and overdue-pending (R68, R69, R81), fixes and their clamp (R82 to R87), loss (R27),
trapping (R38), the release's advance of one record (R59 to R61). -/

namespace Sys2Proof.Machine

/-! ### Handing a change on -/

/-- The end of a station's hold reaches a slot waiting on it (R132, R135): the wait ends at a step boundary. -/
def State.holdGate (s : State) (k : Nat) : State :=
  match (s.slotOf k).state, (s.slotOf k).step with
  | .waitHold, some p => if s.mainlineHeld k then s else s.goOnAt k p
  | _, _ => s

/-- The Trap Sequencer re-examines a station (R4, R29): the readiness deadline first (R136), then the gates a wait is on
(R132, R135), then the follower watch (R138). -/
def State.examine (s : State) (k : Nat) : State :=
  (if s.deadlineReached k then s.abandon k else (s.clearanceGate k).holdGate k).followerWatch k

/-- The Trap Sequencer re-examines every station. -/
def State.examineAll (s : State) : State := s.stationNums.foldl State.examine s

/-- A change of a record's position, state or hold interval is handed on (R29). The three blocks act on different state
and need no order among them. -/
def State.handOn (s : State) (t : Nat) : State := ((s.reevalAll).rearmAwaiting t).examineAll

/-! ### The pointer -/

/-- An excused miss (R81): the pointer moves to the detector after, and nothing is blamed. -/
def State.excuse (s : State) (t : Nat) : State :=
  s.modPig t fun p => { p.markChanged with pointer := p.pointer.bind s.indexAfter, overdue := false }

/-- The test of R68 at a detector: a record beyond its window that is not overdue-pending becomes so, and the change is
handed on. -/
def State.overdueTest (s : State) (d : Detector) (p : Pig) : State :=
  if p.overdue = false ∧ s.beyondWindow d p = true then (s.modPig p.tag fun q => { q with overdue := true }).handOn p.tag
  else s

/-- Tests a record against the window at its pointed detector and excuses it past blind stations (R68, R69). The first
argument bounds the recursion by the number of detectors there are to pass. -/
def State.settleFor : Nat → Nat → State → State
  | 0, _, s => s
  | n + 1, t, s =>
    match s.pig t with
    | none => s
    | some p =>
      match p.pointer.bind s.indexed with
      | none => s
      | some d =>
        if t ∈ s.train then
          let s1 := s.overdueTest d p
          if (p.overdue || s.beyondWindow d p) = true ∧ s.stationBlind d.station = true then
            State.settleFor n t (s1.excuse t)
          else s1
        else s

/-- The test of R68 and R69 for one record. -/
def State.settle (s : State) (t : Nat) : State := State.settleFor (s.index.length + 1) t s

/-- A station has become SILENT or OUT (R69): every overdue-pending record pointing at a detector of it is excused, head
to tail. -/
def State.excuseAt (s : State) (k : Nat) : State :=
  s.train.foldl (fun s t =>
    match (s.pig t).bind fun p => if p.overdue then p.pointer.bind s.indexed else none with
    | none => s
    | some d => if d.station = k then s.settle t else s) s

/-! ### Fixes -/

/-- A position clamped between a record's neighbours in the Train List (R82): behind, absent, is 0; ahead, absent, is
line end. -/
def State.clampFix (s : State) (t x : Nat) : Nat :=
  max (((behindOf s.train t).map s.pigPos).getD 0) (min x (((aheadOf s.train t).map s.pigPos).getD s.lineEnd))

/-- What a fix is made from. -/
structure Evidence where
  kind : FixKind
  /-- The last fix position it leaves. -/
  place : Nat
  detector : Option Nat
  pointer : Option Nat
  early : Bool

/-- A record's fields after a fix (R34, R82, R83, R85, R87): placed at a position the clamp has given, from an unclamped
one. -/
def State.fixed (s : State) (p : Pig) (e : Evidence) (unclamped pos : Nat) : Pig :=
  { p with
    state := .inLine
    position := pos
    residue := 0
    fixPosition := some e.place
    fixKind := some e.kind
    fixDetector := e.detector
    fixTime := some s.clock
    pointer := e.pointer
    overdue := false
    misses := 0
    flags := s.fixFlags p e.early (decide (pos ≠ unclamped)) pos }

/-- Applies a fix to a record that stands in the Train List, and hands it on (R82, R83). -/
def State.applyFix (s : State) (t x : Nat) (e : Evidence) : State :=
  let pos := s.clampFix t x
  ((s.modPig t fun p => s.fixed p e x pos).handOn t).settle t

/-! ### Loss, trapping and misses -/

/-- A record enters LOST (R27). -/
def State.lose (s : State) (t : Nat) : State :=
  (((s.leaveTrain t).modPig t fun p =>
    { p.markChanged with state := .lost, residue := 0, pointer := none, overdue := false }).raise .pigLost).handOn t

/-- A record enters TRAPPED (R38). -/
def State.trap (s : State) (t : Nat) : State :=
  ((s.leaveTrain t).modPig t fun p =>
    { p with state := .trapped, position := s.stationPos p.destination, residue := 0, pointer := none, overdue := false,
             flags := { p.flags with destinationPassed := false, endOfLine := false, clamped := false, changed := true } }).handOn t

/-- An evidenced miss (R80): the first makes the record UNCONFIRMED, a second in a row makes it LOST. -/
def State.miss (s : State) (t : Nat) : State :=
  let s1 := s.modPig t fun p =>
    { p.markChanged with pointer := p.pointer.bind s.indexAfter, overdue := false, misses := p.misses + 1,
                         state := .unconfirmed }
  match s.pig t with
  | none => s
  | some p => if p.misses = 0 then (s1.handOn t).settle t else s1.lose t

/-! ### The advance -/

/-- The limit of a record's advance (R60): line end, and a leader's position less the minimum spacing, never below where
the record stands. -/
def State.advanceLimit (s : State) (p : Pig) : Nat :=
  match aheadOf s.train p.tag with
  | none => s.lineEnd
  | some l => min s.lineEnd (max p.position (s.pigPos l - s.params.spacing))

/-- A record after its advance by a release (R59, R60, R61). -/
def State.advanced (s : State) (p : Pig) (release : Nat) : Pig :=
  let total := release * (1000 - p.slip) + p.residue
  let candidate := p.position + total / 1000
  let limit := s.advanceLimit p
  if limit < candidate then
    { p.withFlags (s.advanceFlags p true limit) with position := limit, residue := 0 }
  else
    { p.withFlags (s.advanceFlags p false candidate) with position := candidate, residue := total % 1000 }

/-- Advances one record of a pass (R59 to R62); a record whose position is left unchanged hands on nothing. -/
def State.advance (s : State) (release t : Nat) : State :=
  match s.pig t with
  | none => s
  | some p =>
    let q := s.advanced p release
    let s1 := s.modPig t fun _ => q
    if q.position = p.position then s1 else (s1.handOn t).settle t

/-- The members of a meter's pass, head to tail (R58): the Train List records standing in its segments. -/
def State.passMembers (s : State) (m : Nat) : List Nat :=
  s.train.filter fun t => decide (s.meterAt (s.pigPos t) = some m)

/-- Applies a release of a meter (R58); a release of 0 is not applied (R62). -/
def State.applyRelease (s : State) (m release : Nat) : State :=
  if release = 0 then s else (s.passMembers m).foldl (fun s t => s.advance release t) s

end Sys2Proof.Machine
end

