-- ==== Sys2Proof/Machine/Detectors.lean ====
section
/-! DEFINITION. Detector Control (chapter 5): what a report shows (R71, R93, R94), a detector's new state, the spurious
count and SUSPECT (R100), the reply to a REARM (R98) and the lapse of a confirmation (R99). -/

namespace Sys2Proof.Machine

/-- What a report shows for a detector slot (5.3, R191): a passage count 0 to 7, ARMED, TRIPPED or FAULT. -/
inductive Shown where
  | count (n : Nat)
  | armed
  | tripped
  | fault
  deriving DecidableEq, Repr

/-- A station's reply to the command a poll carried (R191). -/
inductive Reply where
  | none | accepted | refusedLocal | refusedFault | unknownTarget
  deriving DecidableEq, Repr

/-- A report field of the wrong form, as R93 and R94 read it. -/
def Shown.readAs (latching : Bool) : Shown → Shown
  | .count n => if latching then .fault else .count n
  | .armed => if latching then .armed else .count 0
  | .tripped => if latching then .tripped else .fault
  | .fault => .fault

/-- How many new trips a report shows for a detector, against its state before the report (R71). -/
def Detector.newTrips (d : Detector) (sh : Shown) : Nat :=
  match sh.readAs d.latching, d.state with
  | .tripped, .armed => 1
  | .count n, .armed => n
  | .count n, .unknown => n
  | _, _ => 0

/-- A latching detector enters ARMED (R94): awaited record none, out of the re-arm set, no confirmation. -/
def Detector.arm (d : Detector) : Detector :=
  { d with state := .armed, awaited := none, inRearmSet := false, confirmStart := none, confirmCount := 0 }

/-- A detector enters FAULTED: out of the re-arm set, no confirmation, its awaited record kept (R94, R96, R98). -/
def Detector.fail (d : Detector) : Detector :=
  { d with state := .faulted, inRearmSet := false, confirmStart := none, confirmCount := 0 }

/-- A detector's record after a report (R93, R94, R96); the last argument is the record its trip of this stage was given
to. A detector entering TRIPPED is then tested for its re-arm. -/
def Detector.afterReport (d : Detector) (sh : Shown) (taker : Option Nat) : Detector :=
  match d.state, sh.readAs d.latching with
  | .out, _ => d
  | _, .fault => d.fail
  | .unknown, .count _ => d.arm
  | .armed, .count _ => d.arm
  | .faulted, .count _ => d.arm
  | .tripped, .count _ => d.arm
  | .rearming, .count _ => d.arm
  | .unknown, .armed => d.arm
  | .armed, .armed => d.arm
  | .tripped, .armed => d.arm
  | .rearming, .armed => d.arm
  | .faulted, .armed => d.arm
  | .unknown, .tripped => { d with state := .tripped }
  | .armed, .tripped => { d with state := .tripped, awaited := taker }
  | .tripped, .tripped => d
  | .rearming, .tripped => d
  | .faulted, .tripped => { d with state := .tripped }

/-- The last step of a detector's part of the stage (R70 step 4, R94, R97). -/
def State.detectorReads (s : State) (d : Nat) (sh : Shown) (taker : Option Nat) : State :=
  (s.updDetector d fun x => x.afterReport sh taker).rearmTest d

/-- A spurious trip at a detector (R75, R100): the count rises to at most 3; SUSPECT is set, with its alert, when it
reaches 3. -/
def State.spurious (s : State) (d : Nat) : State :=
  match s.detector d with
  | none => s
  | some x =>
    let suspect := x.suspect || decide (x.spurious = 2)
    let s1 := s.updDetector d fun y => { y with spurious := min (y.spurious + 1) 3, suspect := suspect }
    if suspect = true ∧ x.suspect = false then s1.raise .detectorSuspect else s1

/-- A match or a recovery at a detector (R72, R77, R100): the reference names the record; count and SUSPECT clear. -/
def State.matchedAt (s : State) (d t : Nat) : State :=
  s.updDetector d fun y => { y with lastMatched := some t, spurious := 0, suspect := false }

/-- The reply to a carried REARM (R98). -/
def State.rearmReply (s : State) (d : Nat) (r : Reply) : State :=
  match s.detector d with
  | none => s
  | some x =>
    if x.state = .tripped ∧ x.inRearmSet = true then
      match r with
      | .accepted => s.updDetector d fun y =>
          { y with state := .rearming, inRearmSet := false, confirmStart := some s.clock, confirmCount := 0 }
      | .refusedFault => s.updDetector d Detector.fail
      | .unknownTarget => s.updDetector d Detector.fail
      | .refusedLocal => s
      | .none => s
    else s

/-- The lapse of a confirmation (R99): TRIPPED with awaited record none, in the re-arm set at once. -/
def State.confirmationLapses (s : State) (d : Nat) : State :=
  (s.updDetector d fun y => { y with state := .tripped, awaited := none, confirmStart := none, confirmCount := 0 }).rearmTest d

/-- The detector record a commit sets (R16, R91). -/
def Detector.committed (d : Detector) : Detector :=
  { d with state := .unknown, awaited := none, inRearmSet := false, confirmStart := none, confirmCount := 0, spurious := 0,
           suspect := false, lastMatched := none }

/-- The detector record LINK_RESET leaves (R91): a member of a re-arm set stays TRIPPED in it, any other enters UNKNOWN. -/
def Detector.linkReset (d : Detector) : Detector :=
  if d.inRearmSet then d else { d with state := .unknown, confirmStart := none, confirmCount := 0 }

end Sys2Proof.Machine
end

