-- ==== Sys2Proof/Machine/Flow.lean ====
section
/-! DEFINITION. The Flow Integrator's meter records (chapter 3): baseline (R50), delta and plausibility (R51, R52, R53),
release and reconciliation (R54, R55), and how an outage begins (R56). Its seconds stand in
Sys2Proof/Machine/Timing.lean. -/

namespace Sys2Proof.Machine

/-- The totalizer's modulus (R51). -/
def totalizerModulus : Nat := 4294967296

/-- The delta D of a totalizer against the held one (R51). -/
def totalizerDelta (new old : Nat) : Nat := (new + totalizerModulus - old) % totalizerModulus

/-- The elapsed time t since a meter's base time, taken as 1 where it is 0 (R51). -/
def State.elapsed (s : State) (m : Meter) : Nat := max 1 (s.clock - m.baseTime.getD 0)

/-- A report's delta is plausible (R51): D is at most the maximum rate times t. -/
def State.plausible (s : State) (m : Meter) (d : Nat) : Bool := decide (d ≤ m.maxRate * s.elapsed m)

/-- The baseline a report sets (R50). -/
def Meter.baselined (m : Meter) (totalizer clock : Nat) : Meter :=
  { m with state := .live, totalizer := some totalizer, baseTime := some clock, implausible := 0 }

/-- The release of a plausible report with delta D (R54): what is left of the excess over V_p after the debt is repaid. -/
def Meter.release (m : Meter) (d : Nat) : Nat :=
  if m.provisional ≤ d then (d - m.provisional) - min (d - m.provisional) m.debt else 0

/-- The debt after a plausible report with delta D (R54). -/
def Meter.debtAfter (m : Meter) (d : Nat) : Nat :=
  if m.provisional ≤ d then m.debt - min (d - m.provisional) m.debt else min (m.debt + (m.provisional - d)) maxWord

/-- The meter record after a plausible report (R54, R55). -/
def Meter.reconciled (m : Meter) (totalizer clock d t : Nat) : Meter :=
  { m with state := .live, totalizer := some totalizer, baseTime := some clock, rate := min (d / t) 65535,
           provisional := 0, debt := m.debtAfter d, implausible := 0, extrapolated := 0 }

/-- The meter record after its second consecutive implausible report (R53). -/
def Meter.failedNow (m : Meter) : Meter :=
  { m with state := .failed, provisional := 0, debt := 0, extrapolated := 0 }

/-- An implausible report (R52, R53). -/
def State.implausible (s : State) (m : Meter) : State :=
  if m.implausible = 0 then s.updMeter m.num fun x => { x with implausible := 1 }
  else (s.updMeter m.num Meter.failedNow).raise .meterFailed

/-- The delta and plausibility test, and what follows it (R50 for LIVE, EXTRAPOLATING and STALE). -/
def State.measure (s : State) (m : Meter) (totalizer : Nat) : State :=
  let d := totalizerDelta totalizer (m.totalizer.getD 0)
  let t := s.elapsed m
  if s.plausible m d then
    (s.updMeter m.num fun x => x.reconciled totalizer s.clock d t).applyRelease m.num (m.release d)
  else s.implausible m

/-- The meter stage of an accepted report (R50). -/
def State.meterStage (s : State) (m : Meter) (totalizer : Nat) : State :=
  match m.state with
  | .baselinePending => s.updMeter m.num fun x => x.baselined totalizer s.clock
  | .live => s.measure m totalizer
  | .extrapolating => s.measure m totalizer
  | .stale => s.measure m totalizer
  | .failed => s

/-- A LIVE meter's station misses a reply or enters OUT (R56): an outage begins; a meter in another state is unchanged. -/
def Meter.outage (m : Meter) : Meter :=
  match m.state with
  | .live =>
    if m.holdTime = 0 then { m with state := .stale, provisional := 0 }
    else { m with state := .extrapolating, extrapolated := 0 }
  | .baselinePending => m
  | .extrapolating => m
  | .stale => m
  | .failed => m

/-- The outage of a station's meter, where it has one (R56, R159, R161). -/
def State.stationOutage (s : State) (k : Nat) : State :=
  match s.meterOf k with
  | none => s
  | some m => s.updMeter m.num Meter.outage

/-- The meter record REBASE_METER leaves, and the one a commit sets (R16, R49, R57). -/
def Meter.rebased (m : Meter) : Meter :=
  { m with state := .baselinePending, totalizer := none, baseTime := none, rate := 0, provisional := 0, debt := 0,
           implausible := 0, extrapolated := 0 }

end Sys2Proof.Machine
end

