-- ==== Sys2Proof/Machine/Matcher.lean ====
section
/-! DEFINITION. The Passage Matcher (chapter 4): the choice of record for a trip (R72 to R76), matches and slip learning
(R77, R82, R89, R90), recovery (R74, R85), the launch fix (R84), exit and arrival trips (R35, R133, R137), the decision
of overdue records (R78, R79) and the detector stage of a report (R70). -/

namespace Sys2Proof.Machine

/-! ### Slip learning -/

/-- The conditions of slip learning, tested on the record before its fix (R89). -/
def State.learns (s : State) (p : Pig) (d : Detector) (q : Nat) : Bool :=
  p.learning && (decide (p.fixKind = some .passage) || decide (p.fixKind = some .launch)) && !p.flags.clamped &&
    decide (s.params.learningSpan ≤ d.position - p.fixPosition.getD 0) && decide (p.fixPosition.getD 0 < q)

/-- The observed slip, clamped into 0 to 250 (R90). -/
def observedSlip (slip run estimated : Nat) : Nat := min (1000 - (1000 - slip) * run / estimated) 250

/-- The new slip: a quarter of the way toward the observed one (R90). -/
def learnedSlip (slip run estimated : Nat) : Nat := (3 * slip + observedSlip slip run estimated + 2) / 4

/-- A record's slip after a matched passage at a detector (R89, R90). -/
def State.slipAfter (s : State) (p : Pig) (d : Detector) (q : Nat) : Nat :=
  if s.learns p d q then learnedSlip p.slip (d.position - p.fixPosition.getD 0) (q - p.fixPosition.getD 0) else p.slip

/-! ### Mainline trips -/

/-- What a passage fix is made from (R82). -/
def State.passageEvidence (s : State) (d : Detector) (early : Bool) : Evidence :=
  { kind := .passage, place := d.position, detector := some d.num,
    pointer := (s.indexOf d.num).bind s.indexAfter, early := early }

/-- A trip matches a record (R77): passage fix, learning, reference, note. -/
def State.matchTrip (s : State) (d : Detector) (p : Pig) (q : Nat) (early : Bool) : State :=
  let slip := s.slipAfter p d q
  let x := d.position + (p.position - q)
  let e := s.passageEvidence d early
  (((s.matchedAt d.num p.tag).note .passage).modPig p.tag fun y => { y with slip := slip }).applyFix p.tag x e

/-- A trip recovers a LOST record (R74, R77, R85). -/
def State.recover (s : State) (d : Detector) (p : Pig) (age : Nat) : State :=
  let q := s.tripEstimate d p.position age
  let x := d.position + (p.position - q)
  let e := s.passageEvidence d false
  (((s.matchedAt d.num p.tag).note .passage).joinTrain p.tag x).applyFix p.tag x e

/-- The LOST record a trip would recover (R74): the greatest frozen position not above P_d plus the lost hold half-width,
the lower tag between equals. -/
def State.recoverable (s : State) (d : Detector) : Option Pig :=
  s.lostSet.foldl (fun best p =>
    if d.position + s.params.lostHalfWidth < p.position then best
    else
      match best with
      | none => some p
      | some b => if b.position < p.position then some p else best) none

/-- A trip at a non-latching detector is a duplicate of the last match (R72). -/
def State.isDuplicate (s : State) (d : Detector) : Bool :=
  !d.latching &&
    match d.lastMatched.bind s.pig with
    | none => false
    | some p => decide (p.position < d.position + d.rearmVolume)

/-- The expected record at a detector (R73): the foremost Train List record pointing at it. -/
def State.expected (s : State) (d : Detector) : Option Pig :=
  match s.indexOf d.num with
  | none => none
  | some i => (s.train.find? fun t => ((s.pig t).bind Pig.pointer) == some i).bind s.pig

/-- A trip no expected record takes is offered to the Lost Set (R74), and else is spurious (R75). -/
def State.offerLost (s : State) (d : Detector) (age : Nat) : State × Option Nat :=
  match s.recoverable d with
  | some p => (s.recover d p age, some p.tag)
  | none => (s.spurious d.num, none)

/-- One trip at a MAINLINE detector (R72 to R75): the state after it, and the record it was given to. -/
def State.mainlineTrip (s : State) (n age : Nat) : State × Option Nat :=
  match s.detector n with
  | none => (s, none)
  | some d =>
    if s.isDuplicate d then (s, none)
    else
      match s.expected d with
      | none => s.offerLost d age
      | some p =>
        let q := s.tripEstimate d p.position age
        if s.inWindow d p q then (s.matchTrip d p q false, some p.tag)
        else if s.inEarlyBand d p q then (s.matchTrip d p q true, some p.tag)
        else s.offerLost d age

/-! ### Trap trips -/

/-- The launch fix of a record in a launcher (R34, R84). -/
def State.launchFix (s : State) (k : Nat) (d : Detector) (t age : Nat) : State :=
  let place := s.stationPos k
  let x := place + s.segmentRate place * age
  (s.joinTrain t x).applyFix t x
    { kind := .launch, place := place, detector := some d.num, pointer := s.firstBeyond place, early := false }

/-- Where in its sequence a slot would take a LAUNCH_EXIT trip (R133): the exit wait, PAUSED at resume point L5, or the
restore tail. -/
def Slot.takesExit (x : Slot) : Bool :=
  decide (x.kind = some .launch) &&
    ((decide (x.state = .waitPassage) && decide (x.step = some .l5)) ||
      (decide (x.state = .paused) && decide (x.resume = some .l5)) || decide (x.state = .restoring) ||
      (decide (x.state = .paused) && (x.resume.map SeqStep.isRestore).getD false))

/-- What taking the LAUNCH_EXIT trip does to the sequence (R133). -/
def State.exitTaken (s : State) (k : Nat) : State :=
  let x := s.slotOf k
  match x.state with
  | .waitPassage => s.goOnAfter k .l5
  | .paused =>
    if x.resume = some .l5 then s.updSlot k fun y => { y with resume := some .l6, step := some .l6 }
    else s.updSlot k fun y => { y with exitInTail := true }
  | _ => s.updSlot k fun y => { y with exitInTail := true }

/-- One LAUNCH_EXIT trip (R35, R71, R133). -/
def State.exitTrip (s : State) (n age : Nat) : State × Option Nat :=
  match s.detector n with
  | none => (s, none)
  | some d =>
    let k := d.station
    match (s.slotOf k).takesExit, (s.boundPig k).filter fun p => p.state == .staged with
    | true, some p => ((s.launchFix k d p.tag age).exitTaken k, some p.tag)
    | _, _ =>
      match s.launcherRecord k .staged, s.launcherRecord k .launchFailed with
      | none, some p => (s.launchFix k d p.tag age, some p.tag)
      | _, _ => (s.spurious n, none)

/-- Where in its sequence a slot takes a TRAP_ARRIVAL trip (R137): the arrival wait, or PAUSED at resume point RX4. -/
def Slot.takesArrival (x : Slot) : Bool :=
  decide (x.kind = some .receive) &&
    ((decide (x.state = .waitPassage) && decide (x.step = some .rx4)) ||
      (decide (x.state = .paused) && decide (x.resume = some .rx4)))

/-- One TRAP_ARRIVAL trip (R38, R71, R137). -/
def State.arrivalTrip (s : State) (n : Nat) : State × Option Nat :=
  match s.detector n with
  | none => (s, none)
  | some d =>
    let k := d.station
    match (s.slotOf k).takesArrival, s.boundPig k with
    | true, some p =>
      let s1 := s.trap p.tag
      ((if (s.slotOf k).state = .waitPassage then s1.goOnAfter k .rx4
        else s1.updSlot k fun y => { y with resume := some .rx5, step := some .rx5 }), some p.tag)
    | _, _ => (s.spurious n, none)

/-! ### The detector stage -/

/-- One trip at a detector of any kind (R70 step 2). -/
def State.trip (s : State) (d : Detector) (age : Nat) : State × Option Nat :=
  match d.kind with
  | .launchExit => s.exitTrip d.num age
  | .mainline => s.mainlineTrip d.num age
  | .trapArrival => s.arrivalTrip d.num

/-- A report's trips at one detector, one after another (R76); the record the last one was given to. A latching
detector's report shows at most one. -/
def State.trips (s : State) (d : Detector) (age : Nat) : Nat → State × Option Nat
  | 0 => (s, none)
  | n + 1 => (State.trips s d age n).1.trip d age

/-- Whether a record left overdue is decided as a miss, from the detector before the report and what the report shows
(R79); otherwise it is excused. -/
def decidesMiss (d : Detector) (sh : Shown) : Bool :=
  match d.state, sh.readAs d.latching with
  | .armed, .count _ => true
  | .armed, .armed => true
  | _, _ => false

/-- Decides one record that was overdue-pending at a detector when the stage began, if it still is (R78, R79). -/
def State.decideRecord (d : Detector) (sh : Shown) (i : Nat) (s : State) (t : Nat) : State :=
  match s.pig t with
  | none => s
  | some p =>
    if p.overdue = true ∧ p.pointer = some i ∧ t ∈ s.train then
      if decidesMiss d sh then s.miss t else (s.excuse t).settle t
    else s

/-- The records overdue-pending at a mainline detector, head to tail (R78). -/
def State.overdueAt (s : State) (i : Nat) : List Nat :=
  s.train.filter fun t =>
    match s.pig t with
    | none => false
    | some p => p.overdue && decide (p.pointer = some i)

/-- A detector's part of the stage (R70): its trips, the decisions at it, its new state. The detector is as it stood
before the report; the records to decide are those overdue-pending when the stage began. -/
def State.detectorPart (s : State) (d : Detector) (sh : Shown) (age : Nat) (pending : List Nat) : State :=
  let r := s.trips d age (d.newTrips sh)
  let s1 :=
    match d.kind, s.indexOf d.num with
    | .mainline, some i => pending.foldl (State.decideRecord d sh i) r.1
    | _, _ => r.1
  s1.detectorReads d.num sh r.2

/-- A station's detectors in the order of the stage (R70): LAUNCH_EXIT, MAINLINE by increasing index, TRAP_ARRIVAL. -/
def State.stageOrder (s : State) (k : Nat) : List Detector :=
  let own := s.detectorsOf k
  own.filter (·.kind == .launchExit) ++ (s.index.filterMap fun d => own.find? (·.num == d)) ++
    own.filter (·.kind == .trapArrival)

/-- The detector stage of an accepted report (R70): what it shows for each slot, with the age of its latest trip. -/
def State.detectorStage (s : State) (k : Nat) (shown : Nat → Shown × Nat) : State :=
  let parts := (s.stageOrder k).map fun d => (d, ((s.indexOf d.num).map s.overdueAt).getD [])
  parts.foldl (fun s (x : Detector × List Nat) => s.detectorPart x.1 (shown x.1.slot).1 (shown x.1.slot).2 x.2) s

end Sys2Proof.Machine
end

