-- ==== Sys2Proof/Machine/Link.lean ====
section
/-! DEFINITION. The Station Link (chapter 8): the CRC (R192), poll and report frames (R191), what ends a slot (R153, R154),
the stages of an accepted report (R105, R106, R111, R156, R157), proving (R158), missed replies (R159), SILENT (R160),
OUT and PROVING (R161; the detectors are kept, R103), the arbiter (R163, R164) and the building of a poll (R110, R155). -/

namespace Sys2Proof.Machine

/-! ### CRC -/

/-- One bit into the CRC register (R192): x^16 + x^12 + x^5 + 1, most significant bit first. -/
def crcBit (r : BitVec 16) (b : Bool) : BitVec 16 := if r.msb != b then (r <<< 1) ^^^ 4129#16 else r <<< 1

/-- The bits of a byte, most significant first. -/
def byteBits (x : Byte) : List Bool := [7, 6, 5, 4, 3, 2, 1, 0].map fun i => x.getLsbD i

/-- The CRC-16 of some bytes (R192): the register starts at all ones and is not inverted at the end. -/
def crc16 (bytes : List Byte) : BitVec 16 := (bytes.flatMap byteBits).foldl crcBit 65535#16

/-- Some bytes with their CRC behind them, high byte first (R192). -/
def withCrc (bytes : List Byte) : List Byte := bytes ++ bytes2 (crc16 bytes)

/-! ### Report frames -/

/-- What a decodable report's body says (R191). -/
structure Report where
  reply : Reply
  remote : Bool
  launchDoor : Bool
  receiveDoor : Bool
  /-- For each reported slot: what it shows and the age of its latest trip. -/
  detectors : List (Nat × Shown × Nat)
  /-- For each reported role: its position code. -/
  valves : List (Role × PositionCode)
  totalizer : Option Nat
  deriving DecidableEq, Repr

/-- The valve roles in role number order. -/
def allRoles : List Role := [.mainline, .launchOutlet, .launchKicker, .receiveInlet]

/-- A reply code; one above 4 is read as NONE (R191). -/
def replyOf (b : Byte) : Reply :=
  match b.toNat with
  | 1 => .accepted
  | 2 => .refusedLocal
  | 3 => .refusedFault
  | 4 => .unknownTarget
  | _ => .none

/-- A state byte (R191): 0 to 7 a passage count, 8 ARMED, 9 TRIPPED, 10 and above FAULT. -/
def shownOf (b : Byte) : Shown :=
  if b.toNat ≤ 7 then .count b.toNat else if b.toNat = 8 then .armed else if b.toNat = 9 then .tripped else .fault

/-- A valve code; one above 3 is read as FAULT (R191). -/
def positionOf (b : Byte) : PositionCode :=
  match b.toNat with
  | 0 => .opened
  | 1 => .closed
  | 2 => .moving
  | _ => .fault

/-- The slots a slot list reports (R191). -/
def reportedSlots (b : Byte) : List Nat := (List.range 6).filter fun n => b.getLsbD n

/-- The roles a role list reports (R191). -/
def reportedRoles (b : Byte) : List Role := allRoles.filter fun r => b.getLsbD r.ctorIdx

/-- Whether a role list says that a totalizer is carried (R191). -/
def carriesTotalizer (b : Byte) : Bool := b.getLsbD 4

/-- The body length a slot list and a role list ask for (R191). -/
def bodyLength (slots roles : Byte) : Nat :=
  4 + 2 * (reportedSlots slots).length + (reportedRoles roles).length + 4 * (if carriesTotalizer roles then 1 else 0)

/-- Whether a report's body can be decoded (R191). -/
def decodable (body : List Byte) : Bool :=
  decide (4 ≤ body.length) && decide ((body.getD 2 0).toNat < 64) && decide ((body.getD 3 0).toNat < 32) &&
    decide (body.length = bodyLength (body.getD 2 0) (body.getD 3 0))

/-- The contents of a decodable body (R191). -/
def reportOf (body : List Byte) : Report :=
  let flags := body.getD 1 0
  let slots := reportedSlots (body.getD 2 0)
  let roles := reportedRoles (body.getD 3 0)
  let valvesFrom := 4 + 2 * slots.length
  { reply := replyOf (body.getD 0 0)
    remote := flags.getLsbD 0
    launchDoor := flags.getLsbD 1
    receiveDoor := flags.getLsbD 2
    detectors := slots.zipIdx.map fun x =>
      (x.1, shownOf (body.getD (4 + 2 * x.2) 0), (body.getD (5 + 2 * x.2) 0).toNat)
    valves := roles.zipIdx.map fun x => (x.1, positionOf (body.getD (valvesFrom + x.2) 0))
    totalizer :=
      if carriesTotalizer (body.getD 3 0) then some (word4At body (valvesFrom + roles.length)).toNat else none }

/-- Judges a whole frame for a station of a link address (R154): the CRC, the address, the decoding; none for a bad
frame. -/
def judge (address : Nat) (frame : List Byte) : Option Report :=
  let covered := frame.take ((frame.getD 1 0).toNat + 2)
  if bytes2 (crc16 covered) ≠ (frame.drop covered.length).take 2 then none
  else if (frame.getD 0 0).toNat ≠ address then none
  else if decodable (covered.drop 2) then some (reportOf (covered.drop 2))
  else none

/-- What a report shows for a slot, with the age of its latest trip. -/
def Report.shown (r : Report) (slot : Nat) : Shown × Nat :=
  ((r.detectors.find? fun x => x.1 == slot).map Prod.snd).getD (.fault, 0)

/-- The position code a report shows for a role. -/
def Report.position (r : Report) (role : Role) : Option PositionCode :=
  (r.valves.find? fun x => x.1 == role).map Prod.snd

/-- A report lists exactly the slots, roles and meter of the station's definitions (R154, R158). -/
def State.listsMatch (s : State) (k : Nat) (r : Report) : Bool :=
  decide (r.detectors.map Prod.fst = (List.range 6).filter fun n => (s.detectorsOf k).any (·.slot == n)) &&
    decide (r.valves.map Prod.fst = allRoles.filter fun x => (s.valvesOf k).any (·.role == x)) &&
    decide (r.totalizer.isSome = (s.meterOf k).isSome)

/-! ### A station's state -/

/-- Ends every QUEUED command of a station with an outcome, the head first (R115). -/
def State.endQueued (s : State) (k : Nat) (o : ValveOutcome) : State :=
  (((s.station k).map Station.queue).getD []).foldl (fun s v => s.finishCommand v o) s

/-- A station enters OUT with a cause (R161). -/
def State.enterOut (s : State) (k : Nat) (c : OutCause) : State :=
  let s1 := s.updLink k fun x => { x with state := .out, outCause := some c }
  ((s1.stationOutage k).excuseAt k).endQueued k .undelivered

/-- A station enters PROVING (R161). -/
def State.enterProving (s : State) (k : Nat) : State := s.updLink k fun _ => LinkRecord.proving

/-- The silent policy of a station (1.2). -/
def State.refusesSilent (s : State) (k : Nat) : Bool :=
  ((s.station k).map fun x => decide (x.tuning.policy = .refuse)).getD false

/-- A station becomes SILENT (R160). -/
def State.becomeSilent (s : State) (k : Nat) : State :=
  let s1 := (s.updLink k fun x => { x with state := .silent }).excuseAt k
  let s2 := if s1.refusesSilent k then s1.endQueued k .undelivered else s1
  s2.raise .stationSilent

/-! ### Replies -/

/-- A command that is not carried any more (R111). -/
def Command.notCarried (c : Command) : Command := { c with carried := false }

/-- The reply NONE, or no reply, to a carried valve command (R111, R144): it is no longer carried; a lapse mark ends it,
and so does the end its sequence's slot holds pending. DESIGN CHOICE (notes/assumptions/35.md): where both stand, the lapse
mark gives the outcome, as R111 has it, and not the WITHDRAWN of R144's table. -/
def State.replyNone (s : State) (v : Nat) : State :=
  match s.valve v with
  | none => s
  | some x =>
    match x.command with
    | none => s
    | some c =>
      let s1 := s.modValve v fun y => { y with command := some c.notCarried }
      match c.marks.head? with
      | some m => s1.finishCommand v m.outcome
      | none =>
        if c.origin = .sequence ∧ (s.slotOf x.station).abortPending.isSome = true then s1.finishCommand v .withdrawn
        else s1

/-- The outcome a refusal gives a carried command. DESIGN CHOICE (notes/assumptions/32.md): R111's table gives REFUSED, R123
gives INHIBITED to a command with the mark LINE_TRIPPED; the first mark decides, as R111 has it for NONE. -/
def Command.refusal (c : Command) : ValveOutcome := if c.marks.head? = some .lineTripped then .inhibited else .refused

/-- A station's reply to a carried valve command (R111, R123). -/
def State.valveReply (s : State) (v : Nat) (r : Reply) : State :=
  match s.valve v with
  | none => s
  | some x =>
    match x.command with
    | none => s
    | some c =>
      if c.carried = false then s
      else
        match r with
        | .none => s.replyNone v
        | .accepted => (s.acceptCommand x c).strokeTest v
        | .refusedLocal => s.finishCommand v c.refusal
        | .refusedFault => s.finishCommand v c.refusal
        | .unknownTarget => s.finishCommand v c.refusal

/-- The reply goes to what the slot carried (R156 stage 5). -/
def State.commandReply (s : State) (item : Carried) (r : Reply) : State :=
  match item with
  | .nothing => s
  | .valve v => s.valveReply v r
  | .rearm d => s.rearmReply d r

/-- The silence test (R159): an ACTIVE or PROVING station whose missed count has reached the silence limit becomes
SILENT. -/
def State.silenceTest (s : State) (k : Nat) : State :=
  match s.station k with
  | none => s
  | some x =>
    if (x.link.state = .active ∨ x.link.state = .proving) ∧ s.params.silenceLimit ≤ x.link.missed then s.becomeSilent k
    else s

/-- A missed reply (R159). -/
def State.missedReply (s : State) (k : Nat) (item : Carried) : State :=
  let s1 := s.updLink k fun x => { x with missed := min (x.missed + 1) 255 }
  ((s1.stationOutage k).commandReply item .none).silenceTest k

/-! ### The stages of an accepted report -/

/-- The debounced state of a position code (R105). -/
def PositionCode.debounced : PositionCode → Debounced
  | .opened => .opened
  | .closed => .closed
  | .moving => .moving
  | .fault => .fault

/-- A valve's record after a report's position code (R105). -/
def Valve.afterCode (x : Valve) (c : PositionCode) : Valve :=
  { x with debounced := if x.pendingReport = some c then c.debounced else x.debounced, pendingReport := some c }

/-- One valve's part of the valve stage (R105); a change of the debounced state is handed on (R106). -/
def State.valvePart (s : State) (v : Nat) (c : PositionCode) : State :=
  match s.valve v with
  | none => s
  | some x =>
    let s1 := s.updValve v fun y => y.afterCode c
    if (x.afterCode c).debounced = x.debounced then s1 else (s1.strokeTest v).strikeTest v

/-- The valve stage (R105, R156 stage 3). DESIGN CHOICE (notes/assumptions/34.md): the valves are taken in role order, the
order of their entries in the frame (R191); no rule gives an order of work. -/
def State.valveStage (s : State) (k : Nat) (r : Report) : State :=
  r.valves.foldl (fun s x =>
    match s.roleValve k x.1 with
    | none => s
    | some v => s.valvePart v.num x.2) s

/-- The link record after the flags stage (R157). -/
def LinkRecord.withFlags (x : LinkRecord) (r : Report) : LinkRecord :=
  { x with remote := r.remote, launchDoor := r.launchDoor, receiveDoor := r.receiveDoor }

/-- The meter stage of a report (R156 stage 1). -/
def State.reportMeter (s : State) (k : Nat) (r : Report) : State :=
  match s.meterOf k, r.totalizer with
  | some m, some t => s.meterStage m t
  | _, _ => s

/-- The link record of a station whose report is accepted (R156). -/
def LinkRecord.heard (x : LinkRecord) : LinkRecord :=
  { x with missed := 0, state := if x.state = .silent then .active else x.state }

/-- An accepted report is processed (R156). -/
def State.processReport (s : State) (k : Nat) (item : Carried) (r : Report) : State :=
  let s1 := (s.updLink k LinkRecord.heard).reportMeter k r
  let s2 := (s1.detectorStage k r.shown).valveStage k r
  (s2.updLink k fun x => x.withFlags r).commandReply item r.reply

/-- A good reply from an unproven station matches its configuration (R158). -/
def LinkRecord.nowProven (x : LinkRecord) : LinkRecord := { x with proven := true, state := .active }

/-- A frame that ends a slot awaiting its report is judged (R154, R158, R159). -/
def State.judged (s : State) (k : Nat) (item : Carried) (frame : List Byte) : State :=
  match s.station k with
  | none => s
  | some x =>
    match judge x.address frame with
    | none => s.missedReply k item
    | some r =>
      if x.link.proven then
        if s.listsMatch k r then s.processReport k item r else s.missedReply k item
      else if s.listsMatch k r then (s.updLink k LinkRecord.nowProven).processReport k item r
      else (s.commandReply item .none).enterOut k .mismatch

/-- The link with no slot in progress. -/
def State.freeLink (s : State) : State := { s with link := { s.link with slot := none } }

/-- What the slot in progress becomes. -/
def State.setFate (s : State) (f : SlotFate) : State :=
  { s with link := { s.link with slot := s.link.slot.map fun p => { p with fate := f } } }

/-! ### The arbiter -/

/-- Something is in play at a station (R163): a command, a re-arm, a sequence, a record near one of its detectors, or an
extrapolating meter. -/
def State.inPlay (s : State) (x : Station) : Bool :=
  decide (x.queue ≠ []) || (s.detectorsOf x.num).any (·.inRearmSet) || decide (x.slot.state ≠ .idle) ||
    (s.train.any fun t =>
      match s.pig t with
      | none => false
      | some p =>
        match p.pointer.bind s.indexed with
        | none => false
        | some d => decide (d.station = x.num) && (p.overdue || s.windowOpen d p)) ||
    ((s.meterOf x.num).map fun m => decide (m.state = .extrapolating)).getD false

/-- A station is hot (R163). -/
def State.hot (s : State) (x : Station) : Bool :=
  (decide (x.link.state = .proving) || decide (x.link.state = .active)) && s.inPlay x

/-- The stations that are hot or cold (R163): those not OUT. -/
def State.polled (s : State) : List Station := s.stations.filter fun x => decide (x.link.state ≠ .out)

/-- The first of some rising numbers after the last-served one, counting round (R164). -/
def firstAfter (last : Option Nat) (l : List Nat) : Option Nat :=
  match last with
  | none => l.head?
  | some n => (l.find? fun k => decide (n < k)).or l.head?

/-- The station whose poll wait has reached F (R164 point 1): the greatest wait, and of equal waits the lower number. -/
def State.fairest (s : State) : Option Station :=
  s.polled.foldl (fun best x =>
    if x.link.pollWait < s.params.fairness then best
    else
      match best with
      | none => some x
      | some b => if b.link.pollWait < x.link.pollWait then some x else best) none

/-- The station of the next slot (R164), or none where no station is hot or cold. -/
def State.chosen (s : State) : Option Nat :=
  match s.fairest with
  | some x => some x.num
  | none =>
    (firstAfter s.link.lastServed ((s.polled.filter s.hot).map Station.num)).or
      (firstAfter s.link.lastServed ((s.polled.filter fun x => !s.hot x).map Station.num))

/-- A station's poll wait as a slot is given to a station (R164). -/
def Station.waited (x : Station) (k : Nat) : Station :=
  if x.link.state = .out then x
  else { x with link := { x.link with pollWait := if x.num = k then 0 else min (x.link.pollWait + 1) 255 } }

/-- A slot is given to a station (R164). -/
def State.serve (s : State) (k : Nat) : State :=
  { s with stations := s.stations.map fun x => x.waited k, link := { s.link with lastServed := some k } }

/-! ### Building a poll -/

/-- A command that a poll carries (R110). -/
def Command.nowCarried (c : Command) : Command := { c with carried := true }

/-- Tests the head of a station's queue until one passes, which is carried, or the queue is empty (R110). The first
argument bounds the recursion; it is never used up (notes/assumptions/24.md). -/
def State.testHeads : Nat → Nat → State → State × Option Nat
  | 0, _, s => (s, none)
  | n + 1, k, s =>
    match ((s.station k).bind fun x => x.queue.head?).bind s.valve with
    | none => (s, none)
    | some v =>
      match v.command with
      | none => (s, none)
      | some c =>
        match s.sendTest v c.target with
        | some o => State.testHeads n k (s.finishCommand v.num o)
        | none => (s.modValve v.num fun y => { y with command := some c.nowCarried }, some v.num)

/-- The lowest-slot member of a station's re-arm set (R155). -/
def State.rearmHead (s : State) (k : Nat) : Option Detector :=
  (List.range 6).findSome? fun n => (s.detectorsOf k).find? fun d => d.inRearmSet && d.slot == n

/-- What a poll of a station carries (R155), and the state after the send-time tests. -/
def State.chooseItem (s : State) (k : Nat) : State × Carried :=
  match State.testHeads 32 k s with
  | (s1, some v) => (s1, .valve v)
  | (s1, none) =>
    match s1.rearmHead k with
    | some d => (s1, .rearm d.num)
    | none => (s1, .nothing)

/-- The command and target bytes of a poll frame (R191). -/
def State.pollBytes (s : State) (item : Carried) : List Byte :=
  match item with
  | .nothing => [0, 0]
  | .valve v =>
    match s.valve v with
    | none => [0, 0]
    | some x =>
      match x.command with
      | none => [0, 0]
      | some c => [if c.target = .toOpen then 1 else 2, BitVec.ofNat 8 x.role.ctorIdx]
  | .rearm d => [3, BitVec.ofNat 8 (((s.detector d).map Detector.slot).getD 0)]

/-- The reply timeout of a code, in ms (1.2). -/
def replyTimeoutOf (code : Nat) : Nat := 20 * 2 ^ code

/-- A poll slot begins for a chosen station (R153, R155, R164). -/
def State.startSlot (s : State) (k : Nat) : State :=
  let r := (s.serve k).chooseItem k
  let x := r.1.station k
  let frame := withCrc (BitVec.ofNat 8 ((x.map Station.address).getD 0) :: r.1.pollBytes r.2)
  let slot : PollSlot :=
    { station := k, item := r.2, timeout := replyTimeoutOf ((x.map fun y => y.tuning.replyCode).getD 0), fate := .awaited }
  { r.1 with link := { r.1.link with slot := some slot, txFrame := frame } }

end Sys2Proof.Machine
end

