-- ==== Sys2Proof/Machine/Responses.lean ====
section
/-! DEFINITION. Responses (R167, R171, R190): the status codes, the encoding of a response's fields, the data of every
request that returns some (R173 to R179, R186), and the building of the held response. What the manual leaves open of the
layout is in notes/assumptions/11.md. -/

namespace Sys2Proof.Machine

/-- The numeric value of a status (R190). -/
def Status.code : Status → Nat
  | .ok => 0
  | .okClamped => 1
  | .badLength => 16
  | .unknownRequest => 17
  | .badField => 18
  | .notConfigured => 19
  | .configLocked => 20
  | .commitFault => 21
  | .noSuch => 22
  | .existing => 23
  | .full => 24
  | .wrongState => 25
  | .busyValve => 26
  | .seqOwned => 27
  | .seqActive => 28
  | .held => 29
  | .inhibited => 30
  | .tripped => 31
  | .silent => 32
  | .trapOccupied => 33
  | .trapFault => 34
  | .guard => 35

/-! ### Encoding -/

/-- A number as some bytes, most significant first. -/
def beBytes (width value : Nat) : List Byte := (List.range width).reverse.map fun i => BitVec.ofNat 8 (value / 256 ^ i)

/-- Some of a response's fields: the presence bits of those that may be absent, and the bytes of all (R190). -/
structure Fields where
  present : List Bool
  bytes : List Byte
  deriving DecidableEq, Repr

/-- A field that is always present. -/
def Fields.one (width value : Nat) : Fields := { present := [], bytes := beBytes width value }

/-- A field that may be absent; absent, its bytes are 0. -/
def Fields.may (width : Nat) (value : Option Nat) : Fields :=
  { present := [value.isSome], bytes := beBytes width (value.getD 0) }

/-- A flag that is always present. -/
def Fields.flag (b : Bool) : Fields := Fields.one 1 b.toNat

/-- Fields one after another. -/
def Fields.all (l : List Fields) : Fields := { present := l.flatMap Fields.present, bytes := l.flatMap Fields.bytes }

/-- A list of varying length: a count byte and its entries, each with some presence bits, and clear bits for the places
beyond the entries up to the list's largest size. -/
def Fields.list (largest bitsEach : Nat) (l : List Fields) : Fields :=
  { present := l.flatMap Fields.present ++ List.replicate ((largest - l.length) * bitsEach) false,
    bytes := BitVec.ofNat 8 l.length :: l.flatMap Fields.bytes }

/-- A list that may be absent as a whole. -/
def Fields.mayList (l : Option (List Fields)) : Fields :=
  { present := [l.isSome], bytes := BitVec.ofNat 8 (l.getD []).length :: (l.getD []).flatMap Fields.bytes }

/-- Eight presence bits as a byte, the first in bit 0. -/
def presenceByte (l : List Bool) : Byte := BitVec.ofNat 8 (l.foldr (fun b n => b.toNat + 2 * n) 0)

/-- Presence bits as bytes; the first argument bounds the recursion by the number of bits. -/
def presenceBytes : Nat → List Bool → List Byte
  | 0, _ => []
  | _ + 1, [] => []
  | n + 1, b :: l => presenceByte ((b :: l).take 8) :: presenceBytes n ((b :: l).drop 8)

/-- The data of a response: presence bytes, then the fields' bytes (R190). -/
def Fields.data (f : Fields) : List Byte := presenceBytes f.present.length f.present ++ f.bytes

/-! ### The held response -/

/-- The port flags byte of a response built now (R171); a response held and unread is dropped by the request (R170). -/
def State.flagsNow (s : State) : Byte :=
  portFlags s.port.overrun (s.port.discard || s.port.held.isSome) s.alertPending s.notePending

/-- A response frame (R190). -/
def responseFrame (st : Status) (flags : Byte) (data : List Byte) : List Byte :=
  BitVec.ofNat 8 (data.length + 2) :: BitVec.ofNat 8 st.code :: flags :: data

/-- The port after a request assertion, holding its response (R167 steps 5 and 6); during the assertion SDO was driven with
zero bytes (R166). -/
def Port.holding (frame : List Byte) : Port :=
  { busy := false, held := some frame, readPosition := 0, overrun := false, discard := false, sdo := [] }

/-- Builds the response to the request in hand from the state as the request has left it (R167). -/
def State.respond (s : State) (st : Status) (data : List Byte) : State :=
  { s with port := .holding (responseFrame st s.flagsNow data) }

/-! ### Data of the reads -/

/-- The fields of one profile. -/
def Profile.fields (p : Profile) : Fields := .all [.one 4 p.base, .one 1 p.growth, .one 4 p.cap]

/-- The eight line parameters (1.8). -/
def Parameters.fields (p : Parameters) : Fields :=
  .all [.one 4 p.spacing, .one 1 p.holdProfile, .one 4 p.lostHalfWidth, .one 2 p.deliveryLimit, .one 2 p.silenceLimit,
    .one 1 p.fairness, .one 2 p.holdWaitLimit, .one 4 p.learningSpan]

/-- The data of READ_LINE_STATUS (R173). R190 does not say whether a record that is absent as a whole has one presence bit:
DESIGN CHOICE (notes/assumptions/11.md), each of the two fields of the commit fault record has its own. -/
def State.lineStatusData (s : State) : List Byte :=
  (Fields.all ([.one 1 s.lineState.ctorIdx, .may 1 (s.commitFault.map Prod.fst), .may 1 (s.commitFault.map Prod.snd),
    .one 1 s.stations.length, .one 1 s.detectors.length, .one 1 s.valves.length, .one 1 s.meters.length,
    .may 1 (if s.lineState = .ready then some s.index.length else none)] ++ s.profiles.map Profile.fields ++
    [s.params.fields, .one 1 s.pigs.length, .one 1 s.revision, .flag s.lineTrip, .one 4 s.clock])).data

/-- A field of a running part: absent in UNCONFIGURED (R174). -/
def State.run (s : State) (width value : Nat) : Fields := .may width (if s.lineState = .ready then some value else none)

/-- A field of a running part that may be absent in READY too. -/
def State.runMay (s : State) (width : Nat) (value : Option Nat) : Fields :=
  .may width (if s.lineState = .ready then value else none)

/-- A flag of a running part. -/
def State.runFlag (s : State) (b : Bool) : Fields := s.run 1 b.toNat

/-- A list of a running part. -/
def State.runList (s : State) (l : List Fields) : Fields := .mayList (if s.lineState = .ready then some l else none)

/-- The definition part of READ_STATION (R175). -/
def Station.definitionFields (x : Station) : Fields :=
  let t := x.tuning
  .all [.one 1 x.address, .one 4 x.position, .flag x.hasLauncher, .flag x.hasReceiver, .one 1 x.service.ctorIdx,
    .one 4 t.guardVol, .one 4 t.approach, .one 4 t.lead, .one 4 t.clearance, .one 2 t.exitTimeout,
    .one 2 t.arrivalTimeout, .one 2 t.pauseLimit, .flag t.autoReceive, .one 1 t.policy.ctorIdx, .one 1 t.replyCode,
    .may 1 x.segmentMeter]

/-- The link record part of READ_STATION (R175). -/
def State.linkFields (s : State) (x : LinkRecord) : Fields :=
  .all [s.run 1 x.state.ctorIdx, s.runFlag x.proven, s.runMay 1 (x.outCause.map OutCause.ctorIdx), s.run 1 x.missed,
    s.runFlag x.remote, s.runFlag x.launchDoor, s.runFlag x.receiveDoor, s.run 1 x.pollWait]

/-- The command queue part of READ_STATION (R175): valve number, target, whether carried. -/
def State.queueFields (s : State) (x : Station) : Fields :=
  s.runList (x.queue.map fun v =>
    let c := (s.valve v).bind Valve.command
    .all [.one 1 v, .one 1 ((c.map fun y => y.target.ctorIdx).getD 0), .flag ((c.map Command.carried).getD false)])

/-- The re-arm set of a station in slot order (R95, R175). -/
def State.rearmSet (s : State) (k : Nat) : List Detector :=
  (List.range 6).flatMap fun n => (s.detectorsOf k).filter fun d => d.inRearmSet && d.slot == n

/-- The re-arm set part of READ_STATION (R175). -/
def State.rearmFields (s : State) (k : Nat) : Fields := s.runList ((s.rearmSet k).map fun d => .one 1 d.num)

/-- The number of a pending field (7.1), whose first value is clear. -/
def pendingNumber {α : Type} (number : α → Nat) : Option α → Nat
  | none => 0
  | some a => number a + 1

/-- The sequence slot part of READ_STATION (R175). DESIGN CHOICE (notes/assumptions/11.md): a barred tag that is none is sent
as an absent field, for R190 speaks of absent fields only, and each moved mark takes a byte of its own. -/
def State.slotFields (s : State) (x : Slot) : Fields :=
  .all [s.runMay 1 (x.kind.map SequenceKind.ctorIdx), s.run 1 x.state.ctorIdx, s.runMay 2 x.bound,
    s.runMay 1 (x.step.map SeqStep.ctorIdx), s.runMay 1 (x.resume.map SeqStep.ctorIdx),
    s.run 1 (pendingNumber PauseCause.ctorIdx x.pausePending), s.runMay 1 (x.pauseCause.map PauseCause.ctorIdx),
    s.run 1 (pendingNumber AbortCause.ctorIdx x.abortPending), s.runMay 1 (x.cause.map SeqOutcome.ctorIdx),
    s.runFlag x.marks.mainline, s.runFlag x.marks.outlet, s.runFlag x.marks.kicker, s.runFlag x.marks.inlet,
    s.run 2 x.holdWait, s.run 2 x.passage, s.run 2 x.pause, s.runMay 1 (x.lastOutcome.map SeqOutcome.ctorIdx),
    s.runMay 2 x.barred]

/-- The fault record part of READ_STATION (R150, R175). DESIGN CHOICE (notes/assumptions/11.md), since R175 and R190 give no
layout for either: a record absent as a whole clears the presence bit of each of its fields, and the unrestored valves
are four yes-or-no bytes in role order, not a list, each with the presence bit of the record. -/
def faultFields (f : Option FaultRecord) : Fields :=
  let role (r : Role) : Fields := .may 1 (f.map fun x => (decide (r ∈ x.unrestored)).toNat)
  let restore := f.bind FaultRecord.restore
  let failValve := f.bind FaultRecord.failValve
  .all [.may 1 (f.map fun x => x.outcome.ctorIdx), .may 1 (f.map fun x => x.cause.ctorIdx),
    .may 1 (f.map fun x => x.kind.ctorIdx), .may 2 (f.map FaultRecord.tag),
    .may 1 ((f.bind FaultRecord.failStep).map SeqStep.ctorIdx), .may 1 (failValve.map fun x => x.1.ctorIdx),
    .may 1 (failValve.map fun x => x.2.ctorIdx), .may 1 (restore.map fun x => x.1.ctorIdx),
    .may 1 (restore.map fun x => x.2.1.ctorIdx), .may 1 (restore.map fun x => x.2.2.ctorIdx),
    role .mainline, role .launchOutlet, role .launchKicker, role .receiveInlet, .may 4 (f.map FaultRecord.time)]

/-- The data of READ_STATION (R175), the changed flag last. -/
def State.stationData (s : State) (x : Station) : List Byte :=
  (Fields.all [x.definitionFields, s.linkFields x.link, s.queueFields x, s.rearmFields x.num, s.slotFields x.slot,
    .flag x.trapFault, faultFields x.fault, .flag x.changed]).data

/-- The data of READ_DETECTOR (R176). DESIGN CHOICE (notes/assumptions/11.md): the position of a detector that is not MAINLINE,
which 1.3 gives to MAINLINE only, is sent as present and is the 0 that R5 makes it; an awaited record or a last matched
reference that is none is sent as an absent field; and the station's link state, which R92 has the read report, is the one
yes-or-no field SILENT or OUT of R176's list. -/
def State.detectorData (s : State) (d : Detector) : List Byte :=
  (Fields.all [.one 1 d.station, .one 1 d.slot, .one 1 d.kind.ctorIdx, .one 4 d.position, .flag d.latching,
    .one 1 d.profile, .one 4 d.rearmVolume, s.run 1 d.state.ctorIdx, s.runFlag (s.stationBlind d.station),
    s.runFlag d.inRearmSet, s.runMay 2 d.awaited, s.runMay 4 d.confirmStart, s.run 1 d.spurious, s.runFlag d.suspect,
    s.runMay 2 d.lastMatched, s.runMay 1 (s.indexOf d.num)]).data

/-- The number of a valve's command phase (6.1): NONE, QUEUED, TRAVELLING. -/
def Valve.phaseNumber (v : Valve) : Nat :=
  match v.command with
  | none => 0
  | some c => c.phase.ctorIdx + 1

/-- The number of a close permit (R189): ON 0, OFF 1. -/
def Valve.permitNumber (v : Valve) : Nat := if v.permit then 0 else 1

/-- The data of READ_VALVE (R176). DESIGN CHOICE (notes/assumptions/11.md): the position and the guard of a valve that is not
MAINLINE, which 1.4 gives to MAINLINE only, are sent as present and are the 0 that R6 makes them; each lapse mark takes a byte of
its own. -/
def State.valveData (s : State) (v : Valve) : List Byte :=
  let c := v.command
  let marked (m : LapseMark) : Bool := (c.map fun x => decide (m ∈ x.marks)).getD false
  (Fields.all [.one 1 v.station, .one 1 v.role.ctorIdx, .one 4 v.position, .one 4 v.guardVol, .one 2 v.strokeTimeout,
    s.run 1 v.debounced.ctorIdx, s.runMay 1 (v.pendingReport.map PositionCode.ctorIdx), s.run 1 v.phaseNumber,
    s.runMay 1 (c.map fun x => x.target.ctorIdx), s.runMay 1 (c.map fun x => x.origin.ctorIdx), s.runMay 4 (c.map Command.queuedTime),
    s.runFlag ((c.map Command.carried).getD false), s.runFlag (marked .lapsed), s.runFlag (marked .lineTripped),
    s.runMay 4 (c.bind Command.strokeStart), s.runMay 1 (v.lastOutcome.map ValveOutcome.ctorIdx), s.run 1 v.permitNumber,
    s.runFlag v.held, s.run 1 v.holders.length, s.runFlag v.struck]).data

/-- The stations whose segments a meter serves (R1, R9): the highest-numbered station names no segment. -/
def State.segmentsOf (s : State) (m : Nat) : List Nat :=
  (s.stations.dropLast.filter fun x => x.segmentMeter == some m).map Station.num

/-- The data of READ_METER (R176). -/
def State.meterData (s : State) (m : Meter) : List Byte :=
  (Fields.all [.one 1 m.station, .one 2 m.maxRate, .one 2 m.holdTime,
    .list 24 0 ((s.segmentsOf m.num).map fun k => .one 1 k), s.run 1 m.state.ctorIdx, s.runMay 4 m.totalizer,
    s.runMay 4 m.baseTime, s.run 2 m.rate, s.run 4 m.provisional, s.run 4 m.debt, s.run 1 m.implausible,
    s.run 2 m.extrapolated]).data

/-- A record's flags in the order of 2.1. -/
def PigFlags.fields (g : PigFlags) : Fields :=
  .all [.flag g.clamped, .flag g.early, .flag g.valveStrike, .flag g.destinationPassed, .flag g.endOfLine,
    .flag g.fixClamped, .flag g.changed]

/-- The data of READ_PIG (R177). -/
def State.pigData (s : State) (p : Pig) : List Byte :=
  let d := p.pointer.bind s.indexed
  let bound := s.boundStation p.tag
  (Fields.all [.one 2 p.tag, .one 1 p.state.ctorIdx, .may 1 p.launchStation, .one 1 p.destination, .one 4 p.position,
    .one 2 p.residue, .one 1 p.slip, .flag p.learning, .may 4 p.fixPosition, .may 1 (p.fixKind.map FixKind.ctorIdx),
    .may 1 p.fixDetector, .may 4 p.fixTime, .may 1 p.pointer, .flag p.overdue, .one 1 p.misses, p.flags.fields,
    .one 4 p.launchTime, .may 1 (d.map Detector.num), .may 4 (d.map Detector.position),
    .may 4 (d.map fun x => s.windowHalf x p), .may 4 ((s.holdInterval p).map Prod.fst),
    .may 4 ((s.holdInterval p).map Prod.snd), .one 2 (s.eta p), .flag bound.isSome, .may 1 bound]).data

/-- One entry of LIST_TRAIN (R179). -/
def State.trainEntry (s : State) (t : Nat) : Fields :=
  let p := s.pig t
  .all [.one 2 t, .one 1 ((p.map fun x => x.state.ctorIdx).getD 0), .one 4 ((p.map Pig.position).getD 0),
    .may 1 (((p.bind Pig.pointer).bind s.indexed).map Detector.num)]

/-- The data of LIST_TRAIN (R179): up to 14 entries from a start index. -/
def State.trainData (s : State) (start : Nat) : List Byte :=
  (Fields.all [.one 1 s.train.length, .one 1 s.revision, .one 1 start,
    .list 14 1 (((s.train.drop start).take 14).map s.trainEntry)]).data

/-- The data of LIST_ALL (R179). DESIGN CHOICE (notes/assumptions/11.md): the number of live records is the list's count byte
(R190), and no field of its own before it. -/
def State.allData (s : State) : List Byte :=
  (Fields.list 32 0 (s.pigs.map fun p => .all [.one 2 p.tag, .one 1 p.state.ctorIdx])).data

/-- The global masks as a byte (R190). -/
def Attention.globalBits (a : Attention) : Nat := a.globalAlertMask.toNat + 2 * a.globalNoteMask.toNat

/-- The data of READ_ATTENTION (R186). -/
def State.attentionData (s : State) : List Byte :=
  let a := s.attention
  (Fields.all [.one 2 a.alerts.toNat, .one 1 s.noteCauses.toNat, .one 2 a.alertMasks.toNat, .one 1 a.noteMasks.toNat,
    .one 1 a.globalBits, .list 32 0 ((s.pigs.filter fun p => p.flags.changed).map fun p => .one 2 p.tag),
    .list 24 0 ((s.stations.filter fun k => k.changed).map fun k => .one 1 k.num)]).data

/-- The causes that ACK_ALERT's data give (R187). -/
def State.causesData (s : State) : List Byte :=
  (Fields.all [.one 2 s.attention.alerts.toNat, .one 1 s.noteCauses.toNat]).data

end Sys2Proof.Machine
end

