-- ==== Sys2Proof/Machine/Operands.lean ====
section
/-! DEFINITION. The operands of requests: the order of checks (R167, R172), the values of selector bytes and the ranges of
numbers (R189), and the clamping of tuning values (R2, R5 to R7, R10, R11, R20). -/

namespace Sys2Proof.Machine

/-- The status of the first check that fails, or none where all pass (R167 step 4). -/
def firstRefusal : List (Bool × Status) → Option Status
  | [] => none
  | c :: l => if c.1 then some c.2 else firstRefusal l

/-- What a request that passes its checks does: the state it leaves, its status and its data. -/
structure Taken where
  state : State
  status : Status
  data : List Byte

/-- A request is taken (R167): the first check that fails is answered and changes nothing outside the port; otherwise the
request acts and is answered. -/
def State.ask (s : State) (checks : List (Bool × Status)) (t : Taken) : Host.Outcome State Fault Refusal :=
  match firstRefusal checks with
  | some st => .next (s.respond st [])
  | none => .next (t.state.respond t.status t.data)

/-- Taken, answered OK with no data. -/
def Taken.ok (s : State) : Taken := { state := s, status := .ok, data := [] }

/-- OK, or OK_CLAMPED where a value was clamped (R172). -/
def okOrClamped (clamped : Bool) : Status := if clamped then .okClamped else .ok

/-- Taken, answered OK or OK_CLAMPED with no data. -/
def Taken.clamped (b : Bool) (s : State) : Taken := { state := s, status := okOrClamped b, data := [] }

/-- Taken, answered OK with data. -/
def Taken.withData (s : State) (data : List Byte) : Taken := { state := s, status := .ok, data := data }

/-! ### Ranges and selectors -/

/-- A nonzero reserved field. -/
def nonzero (b : Byte) : Bool := decide (b ≠ 0)

/-- A station number outside 1 to 24. -/
def badStation (b : Byte) : Bool := decide (b.toNat = 0) || decide (24 < b.toNat)

/-- A byte above the largest value of its field. -/
def above (b : Byte) (largest : Nat) : Bool := decide (largest < b.toNat)

/-- A position above 4,000,000,000 L. -/
def badPosition (x : BitVec 32) : Bool := decide (4000000000 < x.toNat)

/-- Tag 0 (R28, R172). -/
def badTag (t : BitVec 16) : Bool := decide (t.toNat = 0)

/-- The Line State is READY. -/
def State.ready (s : State) : Bool := decide (s.lineState = .ready)

/-- A byte of a field of two values, no and yes (R189). -/
def yes (b : Byte) : Bool := decide (b.toNat = 1)

/-- A detector kind (R189); a byte above 2 is refused first. -/
def kindOf (b : Byte) : DetectorKind :=
  match b.toNat with
  | 0 => .mainline
  | 1 => .launchExit
  | _ => .trapArrival

/-- A valve role (R189); a byte above 3 is refused first. -/
def roleOf (b : Byte) : Role :=
  match b.toNat with
  | 0 => .mainline
  | 1 => .launchOutlet
  | 2 => .launchKicker
  | _ => .receiveInlet

/-- A command's target (R189): 0 OPEN, 1 CLOSE. -/
def targetOf (b : Byte) : Target := if b.toNat = 0 then .toOpen else .toClose

/-! ### Clamping -/

/-- A value at the nearer end of a range. -/
def clampTo (lo hi v : Nat) : Nat := max lo (min v hi)

/-- The tuning fields of a DEFINE_STATION frame as given (R189). -/
def StationTuning.given (f : StationFrame) : Tuning :=
  { guardVol := f.guardVol.toNat, approach := f.approach.toNat, lead := f.lead.toNat, clearance := f.clearance.toNat,
    exitTimeout := f.exitTimeout.toNat, arrivalTimeout := f.arrivalTimeout.toNat, pauseLimit := f.pauseLimit.toNat,
    autoReceive := f.flags.getLsbD 3, policy := if f.flags.getLsbD 4 then .refuse else .queue,
    replyCode := f.replyCode.toNat }

/-- A station's tuning fields in their ranges (1.2, R2): L_r is clamped up to A_r after A_r. -/
def Tuning.inRange (t : Tuning) : Tuning :=
  { t with
    guardVol := min t.guardVol 500000
    approach := min t.approach 2000000
    lead := max (min t.approach 2000000) (min t.lead 4000000)
    clearance := min t.clearance 2000000
    exitTimeout := clampTo 10 3600 t.exitTimeout
    arrivalTimeout := clampTo 10 7200 t.arrivalTimeout
    pauseLimit := min t.pauseLimit 3600 }

/-- The values of a SET_PROFILE frame as given. -/
def ProfileValues.given (f : ProfileFrame) : Profile :=
  { base := f.base.toNat, growth := f.growth.toNat, cap := f.cap.toNat }

/-- A profile in its ranges (R10): C first to at most 1,000,000 and then up to B. -/
def Profile.inRange (p : Profile) : Profile :=
  { base := min p.base 65535, growth := min p.growth 200, cap := max (min p.base 65535) (min p.cap 1000000) }

/-- The values of a SET_LINE_PARAMETERS frame as given. -/
def ParameterValues.given (f : ParametersFrame) : Parameters :=
  { spacing := f.spacing.toNat, holdProfile := f.holdProfile.toNat, lostHalfWidth := f.lostHalfWidth.toNat,
    deliveryLimit := f.deliveryLimit.toNat, silenceLimit := f.silenceLimit.toNat, fairness := f.fairness.toNat,
    holdWaitLimit := f.holdWaitLimit.toNat, learningSpan := f.learningSpan.toNat }

/-- The line parameters in their ranges (1.8, R11). -/
def Parameters.inRange (p : Parameters) : Parameters :=
  { p with
    spacing := min p.spacing 100000
    lostHalfWidth := min p.lostHalfWidth 1000000
    deliveryLimit := clampTo 5 600 p.deliveryLimit
    silenceLimit := clampTo 1 15 p.silenceLimit
    fairness := clampTo 2 24 p.fairness
    holdWaitLimit := min p.holdWaitLimit 3600
    learningSpan := clampTo 1000 10000000 p.learningSpan }

/-- A record's slip in its range (R20). -/
def slipInRange (slip : Nat) : Nat := min slip 250

/-- A valve's guard in its range (R6). -/
def guardInRange (g : Nat) : Nat := min g 500000

/-- A valve's stroke timeout in its range (R6). -/
def strokeInRange (t : Nat) : Nat := clampTo 5 900 t

/-- A meter's maximum rate in its range (R7). -/
def rateInRange (r : Nat) : Nat := max 1 r

/-- A meter's hold time in its range (R7). -/
def holdTimeInRange (h : Nat) : Nat := min h 600

/-- A detector's re-arm volume in its range (R5). -/
def rearmInRange (x : Nat) : Nat := min x 200000

end Sys2Proof.Machine
end

