-- ==== Sys2Proof/Machine/Line.lean ====
section
/-! DEFINITION. The line requests (chapter 1): definitions and their tuning, segment meters, profiles, line parameters,
COMMIT_LINE, OPEN_LINE, CLEAR_LINE and READ_LINE_STATUS (R173). -/

namespace Sys2Proof.Machine

/-! ### Stations -/

/-- A station as DEFINE_STATION adds it (R2, R184): its running part is blank until the commit (notes/assumptions/23.md). -/
def newStation (f : StationFrame) : Station :=
  { num := f.station.toNat, address := f.address.toNat, position := f.position.toNat, hasLauncher := f.flags.getLsbD 0,
    hasReceiver := f.flags.getLsbD 1, service := if f.flags.getLsbD 2 then .outOfService else .inService,
    tuning := (StationTuning.given f).inRange, segmentMeter := none, link := LinkRecord.hostOut, queue := [],
    slot := Slot.idle, trapFault := false, fault := none, changed := false }

/-- Reserved bits of the station flags (R189). -/
def badStationFlags (f : StationFrame) : Bool := decide (32 ≤ f.flags.toNat)

/-- The checks of the DEFINE form (R2). -/
def State.defineStationChecks (s : State) (f : StationFrame) : List (Bool × Status) :=
  [(s.ready, .configLocked),
   (nonzero f.form || badStation f.station || decide (f.address.toNat = 0) || above f.address 31 ||
      badPosition f.position || above f.replyCode 7 || nonzero f.reserved || badStationFlags f, .badField),
   (f.flags.getLsbD 3 && !f.flags.getLsbD 1, .badField),
   (s.stations.any fun x => x.num == f.station.toNat || x.address == f.address.toNat, .existing)]

/-- DEFINE_STATION, DEFINE form (R2). -/
def execDefineStationDefine (f : StationFrame) (s : State) : Host.Outcome State Fault Refusal :=
  let t := StationTuning.given f
  s.ask (s.defineStationChecks f)
    (.clamped (decide (t.inRange ≠ t)) { s with stations := insertByKey Station.num (newStation f) s.stations })

/-- The checks of the TUNE form (R3). -/
def State.tuneStationChecks (s : State) (f : StationFrame) : List (Bool × Status) :=
  let x := s.station f.station.toNat
  [(badStation f.station || above f.replyCode 7 || nonzero f.reserved || badStationFlags f, .badField),
   (x.isNone, .noSuch),
   (f.flags.getLsbD 3 && !(x.map Station.hasReceiver).getD false, .badField)]

/-- Sets a mark on a valve's command, or ends a command that is not carried, when QUEUED commands are withdrawn (R113,
R115, R123). -/
def State.withdrawQueued (s : State) (m : LapseMark) (v : Nat) : State :=
  match (s.valve v).bind Valve.command with
  | none => s
  | some c =>
    if c.carried then s.modValve v fun y => { y with command := some (c.mark m) } else s.finishCommand v m.outcome

/-- Withdraws every QUEUED command of a station, the head first (R115, R123). -/
def State.withdrawQueue (s : State) (m : LapseMark) (k : Nat) : State :=
  (((s.station k).map Station.queue).getD []).foldl (fun s v => s.withdrawQueued m v) s

/-- What new tuning does in READY (R4), given the tuning before: the sequencer re-examines the station, and a SILENT
station whose policy has become REFUSE loses its QUEUED commands. -/
def State.retuned (s : State) (x : Station) : State :=
  let s1 := s.examine x.num
  if x.link.state = .silent ∧ x.tuning.policy = .queue ∧ s.refusesSilent x.num = true then s1.withdrawQueue .lapsed x.num
  else s1

/-- DEFINE_STATION, TUNE form (R3, R4). -/
def execDefineStationTune (f : StationFrame) (s : State) : Host.Outcome State Fault Refusal :=
  let t := StationTuning.given f
  let k := f.station.toNat
  let s1 := s.modStation k fun x => { x with tuning := t.inRange }
  let s2 :=
    match s.station k with
    | none => s1
    | some x => if s.ready then s1.retuned x else s1
  s.ask (s.tuneStationChecks f) (.clamped (decide (t.inRange ≠ t)) s2)

/-! ### Detectors -/

/-- A detector as DEFINE_DETECTOR adds it (R5). -/
def newDetector (f : DetectorFrame) : Detector :=
  { num := f.detector.toNat, station := f.station.toNat, slot := f.slot.toNat, kind := kindOf f.kind,
    position := f.position.toNat, latching := yes f.latching, profile := f.profile.toNat,
    rearmVolume := rearmInRange f.rearmVolume.toNat, state := .unknown, awaited := none, inRearmSet := false,
    confirmStart := none, confirmCount := 0, spurious := 0, suspect := false, lastMatched := none }

/-- The position is refused for its kind (R5): above 4,000,000,000 for MAINLINE, nonzero for another kind. -/
def badDetectorPosition (f : DetectorFrame) : Bool :=
  if f.kind.toNat = 0 then badPosition f.position else decide (f.position ≠ 0)

/-- The checks of DEFINE_DETECTOR (R5). -/
def State.defineDetectorChecks (s : State) (f : DetectorFrame) : List (Bool × Status) :=
  let x := s.station f.station.toNat
  let c := kindOf f.kind
  [(s.ready, .configLocked),
   (above f.detector 63 || badStation f.station || above f.slot 5 || above f.kind 2 || above f.profile 3 ||
      badDetectorPosition f || above f.latching 1 || nonzero f.reserved, .badField),
   (x.isNone, .noSuch),
   (decide (c = .launchExit) && !(x.map Station.hasLauncher).getD false ||
      decide (c = .trapArrival) && !(x.map Station.hasReceiver).getD false, .badField),
   ((s.detector f.detector.toNat).isSome || (s.detectorsOf f.station.toNat).any (fun d => d.slot == f.slot.toNat) ||
      decide (c ≠ .mainline) && (s.kindDetector f.station.toNat c).isSome, .existing)]

/-- DEFINE_DETECTOR (R5). -/
def execDefineDetector (f : DetectorFrame) (s : State) : Host.Outcome State Fault Refusal :=
  s.ask (s.defineDetectorChecks f)
    (.clamped (decide (rearmInRange f.rearmVolume.toNat ≠ f.rearmVolume.toNat))
      { s with detectors := insertByKey Detector.num (newDetector f) s.detectors })

/-! ### Valves -/

/-- A valve as DEFINE_VALVE adds it (R6). -/
def newValve (f : ValveFrame) : Valve :=
  { num := f.valve.toNat, station := f.station.toNat, role := roleOf f.role, position := f.position.toNat,
    guardVol := guardInRange f.guardVol.toNat, strokeTimeout := strokeInRange f.strokeTimeout.toNat,
    debounced := .unknown, pendingReport := none, command := none, lastOutcome := none, permit := true, holders := [],
    struck := false }

/-- Position or guard refused for the role (R6). -/
def badValvePlace (f : ValveFrame) : Bool :=
  if f.role.toNat = 0 then badPosition f.position else decide (f.position ≠ 0) || decide (f.guardVol ≠ 0)

/-- The checks of the DEFINE form (R6). -/
def State.defineValveChecks (s : State) (f : ValveFrame) : List (Bool × Status) :=
  let x := s.station f.station.toNat
  let r := roleOf f.role
  [(s.ready, .configLocked),
   (nonzero f.form || above f.valve 47 || badStation f.station || above f.role 3 || badValvePlace f ||
      nonzero f.reserved, .badField),
   (x.isNone, .noSuch),
   ((decide (r = .launchOutlet) || decide (r = .launchKicker)) && !(x.map Station.hasLauncher).getD false ||
      decide (r = .receiveInlet) && !(x.map Station.hasReceiver).getD false, .badField),
   ((s.valve f.valve.toNat).isSome || (s.roleValve f.station.toNat r).isSome, .existing)]

/-- Whether a valve's tuning was clamped (R6). -/
def valveClamped (f : ValveFrame) : Bool :=
  decide (guardInRange f.guardVol.toNat ≠ f.guardVol.toNat) ||
    decide (strokeInRange f.strokeTimeout.toNat ≠ f.strokeTimeout.toNat)

/-- DEFINE_VALVE, DEFINE form (R6). -/
def execDefineValveDefine (f : ValveFrame) (s : State) : Host.Outcome State Fault Refusal :=
  s.ask (s.defineValveChecks f)
    (.clamped (valveClamped f) { s with valves := insertByKey Valve.num (newValve f) s.valves })

/-- The checks of the TUNE form (R8). -/
def State.tuneValveChecks (s : State) (f : ValveFrame) : List (Bool × Status) :=
  let x := s.valve f.valve.toNat
  [(above f.valve 47 || nonzero f.reserved, .badField),
   (x.isNone, .noSuch),
   (decide ((x.map Valve.role).getD .mainline ≠ .mainline) && decide (f.guardVol ≠ 0), .badField)]

/-- DEFINE_VALVE, TUNE form (R8): in READY the valve's hold is re-evaluated with the new zone, and a hold that ends
reaches the station's hold gate (R119). -/
def execDefineValveTune (f : ValveFrame) (s : State) : Host.Outcome State Fault Refusal :=
  let v := f.valve.toNat
  let s1 := s.modValve v fun y =>
    { y with guardVol := guardInRange f.guardVol.toNat, strokeTimeout := strokeInRange f.strokeTimeout.toNat }
  let s2 :=
    match s.valve v with
    | none => s1
    | some x => if s.ready then (s1.reevalValve v).holdGate x.station else s1
  s.ask (s.tuneValveChecks f) (.clamped (valveClamped f) s2)

/-! ### Meters -/

/-- A meter as DEFINE_METER adds it (R7). -/
def newMeter (f : MeterFrame) : Meter :=
  { num := f.meter.toNat, station := f.station.toNat, maxRate := rateInRange f.maxRate.toNat,
    holdTime := holdTimeInRange f.holdTime.toNat, state := .baselinePending, totalizer := none, baseTime := none,
    rate := 0, provisional := 0, debt := 0, implausible := 0, extrapolated := 0 }

/-- Whether a meter's tuning was clamped (R7). -/
def meterClamped (f : MeterFrame) : Bool :=
  decide (rateInRange f.maxRate.toNat ≠ f.maxRate.toNat) || decide (holdTimeInRange f.holdTime.toNat ≠ f.holdTime.toNat)

/-- The checks of the DEFINE form (R7). -/
def State.defineMeterChecks (s : State) (f : MeterFrame) : List (Bool × Status) :=
  [(s.ready, .configLocked),
   (nonzero f.form || above f.meter 15 || badStation f.station || nonzero f.reserved, .badField),
   ((s.station f.station.toNat).isNone, .noSuch),
   ((s.meter f.meter.toNat).isSome || (s.meterOf f.station.toNat).isSome, .existing)]

/-- DEFINE_METER, DEFINE form (R7). -/
def execDefineMeterDefine (f : MeterFrame) (s : State) : Host.Outcome State Fault Refusal :=
  s.ask (s.defineMeterChecks f)
    (.clamped (meterClamped f) { s with meters := insertByKey Meter.num (newMeter f) s.meters })

/-- The checks of the TUNE form (R8). -/
def State.tuneMeterChecks (s : State) (f : MeterFrame) : List (Bool × Status) :=
  [(above f.meter 15 || nonzero f.reserved, .badField), ((s.meter f.meter.toNat).isNone, .noSuch)]

/-- DEFINE_METER, TUNE form (R8): the maximum rate is read at the next report, the hold time at the next second. -/
def execDefineMeterTune (f : MeterFrame) (s : State) : Host.Outcome State Fault Refusal :=
  s.ask (s.tuneMeterChecks f)
    (.clamped (meterClamped f) (s.modMeter f.meter.toNat fun y =>
      { y with maxRate := rateInRange f.maxRate.toNat, holdTime := holdTimeInRange f.holdTime.toNat }))

/-! ### Segments, profiles, parameters -/

/-- The checks of SET_SEGMENT_METER (R9). -/
def State.segmentChecks (s : State) (station meter reserved : Byte) : List (Bool × Status) :=
  [(s.ready, .configLocked),
   (badStation station || above meter 15 && decide (meter.toNat ≠ 255) || nonzero reserved, .badField),
   ((s.station station.toNat).isNone || decide (meter.toNat ≠ 255) && (s.meter meter.toNat).isNone, .noSuch)]

/-- SET_SEGMENT_METER (R9): 255 is "none". -/
def execSetSegmentMeter (station meter reserved : Byte) (s : State) : Host.Outcome State Fault Refusal :=
  s.ask (s.segmentChecks station meter reserved)
    (.ok (s.modStation station.toNat fun x =>
      { x with segmentMeter := if meter.toNat = 255 then none else some meter.toNat }))

/-- Whether a record's pointer names a detector of a profile (R10). -/
def State.pointsAtProfile (s : State) (i t : Nat) : Bool :=
  match ((s.pig t).bind Pig.pointer).bind s.indexed with
  | none => false
  | some d => decide (d.profile = i)

/-- The Hold Map and the Trap Sequencer take a change of the hold intervals' arithmetic (R10, R11, R120). -/
def State.holdsChanged (s : State) : State := s.reevalAll.examineAll

/-- What a changed profile does in READY (R10). -/
def State.profileChanged (s : State) (i : Nat) : State :=
  let s1 := (s.train.filter (s.pointsAtProfile i)).foldl State.settle s
  if i = s.params.holdProfile then s1.holdsChanged else s1

/-- SET_PROFILE (R10). -/
def execSetProfile (f : ProfileFrame) (s : State) : Host.Outcome State Fault Refusal :=
  let p := ProfileValues.given f
  let i := f.profile.toNat
  let s1 := { s with profiles := s.profiles.set i p.inRange }
  s.ask [(above f.profile 3 || nonzero f.reserved, .badField)]
    (.clamped (decide (p.inRange ≠ p)) (if s.ready then s1.profileChanged i else s1))

/-- SET_LINE_PARAMETERS (R11). -/
def execSetLineParameters (f : ParametersFrame) (s : State) : Host.Outcome State Fault Refusal :=
  let p := ParameterValues.given f
  let q := p.inRange
  let s1 := { s with params := q }
  let acts := s.ready &&
    (decide (q.holdProfile ≠ s.params.holdProfile) || decide (q.lostHalfWidth ≠ s.params.lostHalfWidth))
  s.ask [(above f.holdProfile 3 || nonzero f.reserved, .badField)]
    (.clamped (decide (q ≠ p)) (if acts then s1.holdsChanged else s1))

/-! ### Commit, open, clear -/

/-- The first station whose position is not greater than that of the station before it (R14 check 2). -/
def firstNotRising : List Station → Option Nat
  | a :: b :: l => if b.position ≤ a.position then some b.num else firstNotRising (b :: l)
  | _ => none

/-- The MAINLINE detectors in rising number. -/
def State.mainlineDetectors (s : State) : List Detector := s.detectors.filter fun d => d.kind == .mainline

/-- A detector outside the line, or level with a lower-numbered one (R14 check 3). -/
def State.misplaced (s : State) (d : Detector) : Bool :=
  decide (d.position < s.lineStart) || decide (s.lineEnd < d.position) ||
    s.mainlineDetectors.any fun e => decide (e.num < d.num) && decide (e.position = d.position)

/-- A station with a launcher that lacks what a launch needs (R14 check 5). -/
def State.lacksLauncher (s : State) (x : Station) : Bool :=
  x.hasLauncher && ((s.roleValve x.num .launchOutlet).isNone || (s.roleValve x.num .launchKicker).isNone ||
    (s.roleValve x.num .mainline).isNone || (s.kindDetector x.num .launchExit).isNone)

/-- A station with a receiver that lacks what a receive needs (R14 check 6). -/
def State.lacksReceiver (s : State) (x : Station) : Bool :=
  x.hasReceiver && ((s.roleValve x.num .receiveInlet).isNone || (s.roleValve x.num .mainline).isNone ||
    (s.kindDetector x.num .trapArrival).isNone)

/-- A MAINLINE valve outside the line (R14 check 7). -/
def State.valveOutside (s : State) (v : Valve) : Bool :=
  decide (v.role = .mainline) && (decide (v.position < s.lineStart) || decide (s.lineEnd < v.position))

/-- The item each of the seven checks of COMMIT_LINE fails on, in their order (R14). -/
def State.commitItems (s : State) : List (Nat × Option Nat) :=
  [(1, if s.stations.length < 2 then some s.stations.length else none),
   (2, firstNotRising s.stations),
   (3, (s.mainlineDetectors.find? s.misplaced).map Detector.num),
   (4, (s.stations.dropLast.find? fun x => x.segmentMeter.isNone).map Station.num),
   (5, (s.stations.find? s.lacksLauncher).map Station.num),
   (6, (s.stations.find? s.lacksReceiver).map Station.num),
   (7, (s.valves.find? s.valveOutside).map Valve.num)]

/-- The check and the item COMMIT_LINE fails on first, or none (R14). -/
def State.commitFailure (s : State) : Option (Nat × Nat) := s.commitItems.findSome? fun c => c.2.map fun i => (c.1, i)

/-- The mainline detector index of the definitions (R15): in rising position. -/
def State.newIndex (s : State) : List Nat :=
  (s.mainlineDetectors.foldl (fun l d => insertByKey Detector.position d l) []).map Detector.num

/-- A station at a commit (R16, R125, R152). -/
def Station.committed (x : Station) : Station :=
  { x with link := if x.service = .inService then LinkRecord.proving else LinkRecord.hostOut, queue := [],
           slot := Slot.idle, changed := true }

/-- A valve at a commit (R16, R104); the Pig Table is empty, so every hold is clear. -/
def Valve.committed (v : Valve) : Valve :=
  { v with debounced := .unknown, pendingReport := none, command := none, lastOutcome := none, permit := true,
           holders := [], struck := false }

/-- A successful COMMIT_LINE (R14, R15, R16, R152). -/
def State.commit (s : State) : State :=
  { s with
    lineState := .ready
    stations := s.stations.map Station.committed
    detectors := s.detectors.map Detector.committed
    valves := s.valves.map Valve.committed
    meters := s.meters.map Meter.rebased
    commitFault := none
    index := s.newIndex
    link := { s.link with lastServed := none, slot := none }
    due := [] }

/-- The checks COMMIT_LINE makes before the seven (R13, R172). -/
def State.commitChecks (s : State) (reserved : Byte) : List (Bool × Status) :=
  [(s.ready, .wrongState), (nonzero reserved, .badField)]

/-- What COMMIT_LINE comes to once it is taken (R14): COMMIT_FAULT with its pair, or the commit. -/
def State.commitTaken (s : State) : Taken :=
  match s.commitFailure with
  | some c => { state := { s with commitFault := some c }, status := .commitFault, data := beBytes 1 c.1 ++ beBytes 1 c.2 }
  | none => .withData s.commit (beBytes 1 s.commit.index.length)

/-- COMMIT_LINE (R14). -/
def execCommitLine (reserved : Byte) (s : State) : Host.Outcome State Fault Refusal :=
  s.ask (s.commitChecks reserved) s.commitTaken

/-- The line is not quiet, so that OPEN_LINE is refused (R17). -/
def State.lineBusy (s : State) : Bool :=
  decide (s.pigs ≠ []) || (s.stations.any fun x => decide (x.slot.state ≠ .idle)) ||
    s.valves.any fun v => v.command.isSome

/-- OPEN_LINE in READY (R17): polling stops, a slot in progress is abandoned, the re-arm sets are emptied. -/
def State.opened (s : State) : State :=
  { s with
    lineState := .unconfigured
    detectors := s.detectors.map fun d => { d with inRearmSet := false }
    link := { s.link with slot := none }
    due := [] }

/-- OPEN_LINE (R17). -/
def execOpenLine (reserved : Byte) (s : State) : Host.Outcome State Fault Refusal :=
  s.ask [(nonzero reserved, .badField), (s.ready && s.lineBusy, .configLocked)]
    (.ok (if s.ready then s.opened else s))

/-- CLEAR_LINE (R18). -/
def execClearLine (reserved : Byte) (s : State) : Host.Outcome State Fault Refusal :=
  s.ask [(s.ready, .configLocked), (nonzero reserved, .badField)]
    (.ok { s with stations := [], detectors := [], valves := [], meters := [], commitFault := none, index := [] })

/-- READ_LINE_STATUS (R173). -/
def execReadLineStatus (reserved : Byte) (s : State) : Host.Outcome State Fault Refusal :=
  s.ask [(nonzero reserved, .badField)] (.withData s s.lineStatusData)

end Sys2Proof.Machine
end

