-- ==== Sys2Proof/Machine/Control.lean ====
section
/-! DEFINITION. The pins RESET_N and LINE_TRIP (R19, R123, R145), LINK_RESET (R165), RESTART (R180), and the port's own
commands: a discarded frame (R169), the two port checks (R167) and a read (R168). -/

namespace Sys2Proof.Machine

/-! ### LINE_TRIP -/

/-- An active slot that is not PAUSED takes pause-pending TRIP (R145). -/
def Slot.tripPending (x : Slot) : Slot :=
  if x.state = .idle ∨ x.state = .paused then x else { x with pausePending := some .trip }

/-- A released LINE_TRIP clears a pause-pending TRIP (R145). -/
def Slot.tripCleared (x : Slot) : Slot := if x.pausePending = some .trip then { x with pausePending := none } else x

/-- LINE_TRIP becomes asserted (R123, R145): the slots' pending pauses first, then the QUEUED commands of every station,
and the alert. -/
def State.assertTrip (s : State) : State :=
  let s1 := { s with lineTrip := true }
  let s2 := s1.stationNums.foldl (fun s k => s.updSlot k Slot.tripPending) s1
  (s2.stationNums.foldl (State.withdrawQueue · .lineTripped ·) s2).raise .lineTrip

/-- LINE_TRIP_ASSERTED (R123): an input already asserted does not become asserted. -/
def execLineTripAsserted (s : State) : Host.Outcome State Fault Refusal := .next (if s.lineTrip then s else s.assertTrip)

/-- LINE_TRIP is released (R123, R145). -/
def State.releaseTrip (s : State) : State :=
  s.stationNums.foldl (fun s k => s.updSlot k Slot.tripCleared) { s with lineTrip := false }

/-- LINE_TRIP_RELEASED (R123, R145). -/
def execLineTripReleased (s : State) : Host.Outcome State Fault Refusal := .next (if s.lineTrip then s.releaseTrip else s)

/-! ### Power-on and RESTART -/

/-- An input still asserted after a reset is taken as becoming asserted then (R123). -/
def State.tripAtReset (s : State) : State := if s.lineTrip then s.assertTrip else s

/-- POWER_ON (R19, R47, R48, R152, R171, R188): every block takes its values after power-on, the LINK_RATE pins are sampled,
and an asserted LINE_TRIP acts. The level of LINE_TRIP, the waiting commands and the choice counter are not the part's. -/
def execPowerOn (linkRate : BitVec 2) (s : State) : Host.Outcome State Fault Refusal :=
  .next { State.reset with
    link := { Link.reset with linkRate := linkRate }
    lineTrip := s.lineTrip
    choices := s.choices
    pending := s.pending : State }.tripAtReset

/-- The port flags of the RESTART response (R180): it never shows OVERRUN. -/
def State.restartFlags (s : State) : Byte :=
  portFlags false (s.port.discard || s.port.held.isSome) s.alertPending s.notePending

/-- The part after RESTART (R180): its response is held; the sampled LINK_RATE stands. -/
def State.restarted (s : State) : State :=
  { State.reset with
    link := { Link.reset with linkRate := s.link.linkRate, txFrame := s.link.txFrame }
    port := .holding (responseFrame .ok s.restartFlags [])
    lineTrip := s.lineTrip
    choices := s.choices
    pending := s.pending : State }.tripAtReset

/-- RESTART (R180): the response is built before it acts. -/
def execRestart (reserved : Byte) (s : State) : Host.Outcome State Fault Refusal :=
  if nonzero reserved then .next (s.respond .badField []) else .next s.restarted

/-! ### LINK_RESET -/

/-- The checks of LINK_RESET (R165). -/
def State.linkResetChecks (s : State) (reserved : Byte) : List (Bool × Status) :=
  [(!s.ready, .notConfigured),
   (nonzero reserved, .badField),
   (s.stations.any fun x => decide (x.slot.state ≠ .idle), .seqActive),
   (s.valves.any fun v => v.command.isSome, .busyValve)]

/-- A station after LINK_RESET (R165). -/
def Station.linkReset (x : Station) : Station :=
  { x with link := if x.service = .inService then LinkRecord.proving else x.link, changed := true }

/-- A valve after LINK_RESET (R104). -/
def Valve.linkReset (v : Valve) : Valve := { v with debounced := .unknown, pendingReport := none, struck := false }

/-- LINK_RESET acts (R165): the slot in progress is abandoned until its timeout. -/
def State.linkReset (s : State) : State :=
  ({ s with
    stations := s.stations.map Station.linkReset
    detectors := s.detectors.map Detector.linkReset
    valves := s.valves.map Valve.linkReset
    link := { s.link with lastServed := none } : State }).setFate .abandoned

/-- LINK_RESET (R165). -/
def execLinkReset (reserved : Byte) (s : State) : Host.Outcome State Fault Refusal :=
  s.ask (s.linkResetChecks reserved) (.ok s.linkReset)

/-! ### The port -/

/-- The port busy with a request it has taken, as a further frame is discarded (R167 steps 1 and 2, R169, R170): a response
held unread is dropped, which sets the discard mark; the overrun mark is set; and SDO was driven with zero bytes. -/
def Port.overran (p : Port) : Port :=
  { busy := true, held := none, readPosition := 0, overrun := true, discard := p.discard || p.held.isSome, sdo := [] }

/-- REQUEST_FRAME_OVERRUN (R169): the port is busy with the next request of the queue, and the mark is set
(notes/assumptions/9.md). -/
def execRequestFrameOverrun (s : State) : Host.Outcome State Fault Refusal := .next { s with port := s.port.overran }

/-- BAD_LENGTH (R166, R167): the request is answered with the status alone. -/
def execBadLength (_frame : List Byte) (s : State) : Host.Outcome State Fault Refusal := .next (s.respond .badLength [])

/-- UNKNOWN_REQUEST (R167). -/
def execUnknownRequest (_frame : List Byte) (s : State) : Host.Outcome State Fault Refusal :=
  .next (s.respond .unknownRequest [])

/-- What a read assertion can clock out (R168): the held response, or a frame of length 0 where none is held or the port
is busy. -/
def Port.readable (p : Port) : Option (List Byte) := if p.busy then none else p.held

/-- The byte driven on SDO at a place of the last assertion (R166, R168): zero where no response byte was sent. -/
def Port.sdoByte (p : Port) (i : Nat) : Byte := p.sdo.getD i 0

/-- The port after a read assertion of some whole bytes (R168). -/
def Port.afterRead (p : Port) (n : Nat) : Port :=
  match p.readable with
  | none => { p with sdo := List.replicate n 0 }
  | some frame =>
    { p with held := if frame.length ≤ n then none else some frame, readPosition := 0,
             sdo := frame.take n ++ List.replicate (n - frame.length) 0 }

/-- READ_RESPONSE (R168): a response read whole is consumed, one read in part stays held. -/
def execReadResponse (clocked : Nat) (s : State) : Host.Outcome State Fault Refusal :=
  .next { s with port := s.port.afterRead clocked }

end Sys2Proof.Machine
end

