-- ==== Sys2Proof/Machine/Pigs.lean ====
section
/-! DEFINITION. The pig requests (chapter 2): LAUNCH (R31 to R33), DECLARE_PIG (R36, R37), AMEND_PIG (R39, R40), FIX_PIG (R86,
R87), DECLARE_LOST (R41), RETIRE_PIG (R42, R43), READ_PIG (R177), LIST_TRAIN and LIST_ALL (R179). -/

namespace Sys2Proof.Machine

/-- The Pig Table holds as many records as it can (R28). -/
def State.tableFull (s : State) : Bool := decide (32 ≤ s.pigs.length)

/-- A record's state, where it is live. -/
def State.pigIs (s : State) (t : Nat) (states : List PigState) : Bool :=
  match s.pig t with
  | none => false
  | some p => decide (p.state ∈ states)

/-- A station without a receiver, or not defined. -/
def State.noReceiver (s : State) (k : Nat) : Bool := !((s.station k).map Station.hasReceiver).getD false

/-! ### LAUNCH -/

/-- The LAUNCH names a LAUNCH_FAILED record at the same launch station, which it reuses (R28, R33). -/
def State.reuses (s : State) (t k : Nat) : Bool :=
  match s.pig t with
  | none => false
  | some p => decide (p.state = .launchFailed) && decide (p.launchStation = some k)

/-- A live record's hold interval meets the launch guard interval (R31 check 13). -/
def State.guardMet (s : State) (k : Nat) : Bool :=
  match s.station k with
  | none => false
  | some x => s.pigs.any fun p =>
    match s.holdInterval p with
    | none => false
    | some iv => meets iv (x.position - x.tuning.guardVol, x.position + x.tuning.guardVol)

/-- The launcher holds a LAUNCH_FAILED record of another tag (R30, R31 check 10). -/
def State.launcherTaken (s : State) (k t : Nat) : Bool :=
  s.pigs.any fun p => p.state == .launchFailed && p.launchStation == some k && p.tag != t

/-- The TRAP_FAULT flag of a station (R150). -/
def State.trapFaultOf (s : State) (k : Nat) : Bool := ((s.station k).map Station.trapFault).getD false

/-- The checks of LAUNCH (R31). -/
def State.launchChecks (s : State) (f : LaunchFrame) : List (Bool × Status) :=
  let t := f.tag.toNat
  let k := f.launch.toNat
  let e := f.destination.toNat
  [(!s.ready, .notConfigured),
   (badTag f.tag || badStation f.launch || badStation f.destination || above f.learning 1 || nonzero f.reserved,
      .badField),
   ((s.station k).isNone || (s.station e).isNone, .noSuch),
   (!((s.station k).map Station.hasLauncher).getD false || s.noReceiver e || decide (s.stationPos e ≤ s.stationPos k),
      .badField),
   ((s.pig t).isSome && !s.reuses t k, .existing),
   (decide (s.linkStateOf k = .silent), .silent),
   (decide (s.linkStateOf k ≠ .active), .wrongState),
   (s.trapFaultOf k, .trapFault),
   (s.seqActive k, .seqActive),
   (s.launcherTaken k t, .trapOccupied),
   (s.claimedBusy k, .busyValve),
   (s.tableFull && !s.reuses t k, .full),
   (s.guardMet k, .guard)]

/-- No flag set but CHANGED (R32, R33, R37). -/
def PigFlags.created : PigFlags := { PigFlags.clear with changed := true }

/-- The record a LAUNCH creates (R32). -/
def State.launchedPig (s : State) (f : LaunchFrame) : Pig :=
  { tag := f.tag.toNat, state := .staged, launchStation := some f.launch.toNat, destination := f.destination.toNat,
    position := s.stationPos f.launch.toNat, residue := 0, slip := slipInRange f.slip.toNat, learning := yes f.learning,
    fixPosition := none, fixKind := none, fixDetector := none, fixTime := none, pointer := none, overdue := false,
    misses := 0, flags := PigFlags.created, launchTime := s.clock }

/-- A LAUNCH_FAILED record as a LAUNCH reuses it (R33). -/
def State.relaunchedPig (s : State) (f : LaunchFrame) (p : Pig) : Pig :=
  { p with state := .staged, destination := f.destination.toNat, slip := slipInRange f.slip.toNat,
           learning := yes f.learning, launchTime := s.clock, misses := 0, flags := PigFlags.created }

/-- The Pig Table with the launched record (R32, R33), whose state is handed on (R29). -/
def State.stage (s : State) (f : LaunchFrame) : State :=
  let s1 := if s.reuses f.tag.toNat f.launch.toNat then s.modPig f.tag.toNat (s.relaunchedPig f)
    else { s with pigs := insertByKey Pig.tag (s.launchedPig f) s.pigs }
  s1.handAside f.tag.toNat

/-- LAUNCH (R31, R127). -/
def execLaunch (f : LaunchFrame) (s : State) : Host.Outcome State Fault Refusal :=
  s.ask (s.launchChecks f)
    (.clamped (decide (slipInRange f.slip.toNat ≠ f.slip.toNat)) ((s.stage f).startLaunch f.launch.toNat f.tag.toNat))

/-! ### DECLARE_PIG -/

/-- A position outside [line start, line end]. -/
def State.offLine (s : State) (x : Nat) : Bool := decide (x < s.lineStart) || decide (s.lineEnd < x)

/-- The checks of DECLARE_PIG (R36). -/
def State.declareChecks (s : State) (f : DeclareFrame) : List (Bool × Status) :=
  let e := f.destination.toNat
  [(!s.ready, .notConfigured),
   (badTag f.tag || s.offLine f.position.toNat || badStation f.destination || above f.learning 1 ||
      nonzero f.reserved, .badField),
   ((s.station e).isNone, .noSuch),
   (s.noReceiver e || decide (s.stationPos e ≤ f.position.toNat), .badField),
   ((s.pig f.tag.toNat).isSome, .existing),
   (s.tableFull, .full)]

/-- The record DECLARE_PIG creates (R37). -/
def State.declaredPig (s : State) (f : DeclareFrame) : Pig :=
  { tag := f.tag.toNat, state := .inLine, launchStation := none, destination := f.destination.toNat,
    position := f.position.toNat, residue := 0, slip := slipInRange f.slip.toNat, learning := yes f.learning,
    fixPosition := some f.position.toNat, fixKind := some .manual, fixDetector := none, fixTime := some s.clock,
    pointer := s.firstBeyond f.position.toNat, overdue := false, misses := 0, flags := PigFlags.created,
    launchTime := s.clock }

/-- DECLARE_PIG acts (R37): the record joins the Train List, and its hold interval is handed on. -/
def State.declare (s : State) (f : DeclareFrame) : State :=
  let s1 := s.joinTrain f.tag.toNat f.position.toNat
  ({ s1 with pigs := insertByKey Pig.tag (s.declaredPig f) s1.pigs }).handOn f.tag.toNat

/-- DECLARE_PIG (R36, R37). -/
def execDeclarePig (f : DeclareFrame) (s : State) : Host.Outcome State Fault Refusal :=
  s.ask (s.declareChecks f) (.clamped (decide (slipInRange f.slip.toNat ≠ f.slip.toNat)) (s.declare f))

/-! ### AMEND_PIG -/

/-- The slip part is present (R189). -/
def hasSlipPart (f : AmendFrame) : Bool := f.parts.getLsbD 0

/-- The learning part is present (R189). -/
def hasLearningPart (f : AmendFrame) : Bool := f.parts.getLsbD 1

/-- The destination part is present (R189). -/
def hasDestinationPart (f : AmendFrame) : Bool := f.parts.getLsbD 2

/-- Bad parts of an AMEND_PIG frame (R39 check 2, R189): none present, a reserved bit, a value for an absent part, or a
value out of range. -/
def badAmendment (f : AmendFrame) : Bool :=
  decide (f.parts.toNat = 0) || decide (8 ≤ f.parts.toNat) || !(hasSlipPart f) && decide (f.slip ≠ 0) ||
    !(hasLearningPart f) && nonzero f.learning || !(hasDestinationPart f) && nonzero f.destination || above f.learning 1 ||
    hasDestinationPart f && badStation f.destination

/-- The record is bound to an active receive (R39 check 5). -/
def State.beingReceived (s : State) (t : Nat) : Bool :=
  match s.boundStation t with
  | none => false
  | some k => decide ((s.slotOf k).kind = some .receive)

/-- Where "downstream of the record" is measured from (R39). -/
def State.amendFrom (s : State) (p : Pig) : Nat :=
  match p.state with
  | .staged => s.stationPos (p.launchStation.getD 0)
  | .launchFailed => s.stationPos (p.launchStation.getD 0)
  | .inLine => p.position
  | .unconfirmed => p.position
  | .lost => p.position
  | .trapped => p.position

/-- A receive active at a station is bound to another tag (R39 check 7). -/
def State.receivesOther (s : State) (k t : Nat) : Bool :=
  s.seqActive k && decide ((s.slotOf k).kind = some .receive) && decide ((s.slotOf k).bound ≠ some t)

/-- The checks of AMEND_PIG (R39). -/
def State.amendChecks (s : State) (f : AmendFrame) : List (Bool × Status) :=
  let t := f.tag.toNat
  let e := f.destination.toNat
  let pos := ((s.pig t).map s.amendFrom).getD 0
  [(!s.ready, .notConfigured),
   (badTag f.tag || badAmendment f || nonzero f.reserved, .badField),
   ((s.pig t).isNone || hasDestinationPart f && (s.station e).isNone, .noSuch),
   (hasDestinationPart f && s.pigIs t [.trapped], .wrongState),
   (hasDestinationPart f && s.beingReceived t, .seqActive),
   (hasDestinationPart f && (s.noReceiver e || decide (s.stationPos e ≤ pos)), .badField),
   (hasDestinationPart f && s.receivesOther e t, .seqActive)]

/-- The flags after an amendment (R40, R45). -/
def amendedFlags (f : AmendFrame) (g : PigFlags) : PigFlags :=
  { g with destinationPassed := g.destinationPassed && !(hasDestinationPart f), changed := true }

/-- A record after its amendment (R40). -/
def amendedPig (f : AmendFrame) (p : Pig) : Pig :=
  { p with slip := if hasSlipPart f then slipInRange f.slip.toNat else p.slip
           learning := if hasLearningPart f then yes f.learning else p.learning
           destination := if hasDestinationPart f then f.destination.toNat else p.destination
           flags := amendedFlags f p.flags }

/-- A tag is barred no more (R129): its record's destination was amended, or it was retired. -/
def State.unbar (s : State) (t : Nat) : State :=
  s.stationNums.foldl (fun s k => s.updSlot k fun x => { x with barred := if x.barred = some t then none else x.barred }) s

/-- AMEND_PIG acts (R40). -/
def State.amend (s : State) (f : AmendFrame) : State :=
  let s1 := s.modPig f.tag.toNat (amendedPig f)
  if hasDestinationPart f then s1.unbar f.tag.toNat else s1

/-- AMEND_PIG (R39, R40). -/
def execAmendPig (f : AmendFrame) (s : State) : Host.Outcome State Fault Refusal :=
  s.ask (s.amendChecks f)
    (.clamped (hasSlipPart f && decide (slipInRange f.slip.toNat ≠ f.slip.toNat)) (s.amend f))

/-! ### FIX_PIG -/

/-- The checks of FIX_PIG (R86). -/
def State.fixChecks (s : State) (f : FixFrame) : List (Bool × Status) :=
  [(!s.ready, .notConfigured),
   (badTag f.tag || s.offLine f.position.toNat || nonzero f.reserved, .badField),
   ((s.pig f.tag.toNat).isNone, .noSuch),
   (s.pigIs f.tag.toNat [.staged, .trapped, .launchFailed], .wrongState)]

/-- The Train List a manual fix acts in (R87): a LOST record joins it at X first. -/
def State.fixJoined (s : State) (t x : Nat) : State := if s.pigIs t [.lost] then s.joinTrain t x else s

/-- The position X' a manual fix gives (R87). -/
def State.fixPlace (s : State) (t x : Nat) : Nat := (s.fixJoined t x).clampFix t x

/-- FIX_PIG acts (R87). -/
def State.manualFix (s : State) (t x : Nat) : State :=
  let place := s.fixPlace t x
  (s.fixJoined t x).applyFix t x
    { kind := .manual, place := place, detector := none, pointer := s.firstBeyond place, early := false }

/-- What FIX_PIG comes to (R87): its data give X'. -/
def State.fixTaken (s : State) (f : FixFrame) : Taken :=
  let t := f.tag.toNat
  let x := f.position.toNat
  { state := s.manualFix t x, status := okOrClamped (decide (s.fixPlace t x ≠ x)), data := beBytes 4 (s.fixPlace t x) }

/-- FIX_PIG (R86, R87). -/
def execFixPig (f : FixFrame) (s : State) : Host.Outcome State Fault Refusal := s.ask (s.fixChecks f) (s.fixTaken f)

/-! ### DECLARE_LOST and RETIRE_PIG -/

/-- The checks of DECLARE_LOST (R41). -/
def State.lostChecks (s : State) (tag : BitVec 16) (reserved : Byte) : List (Bool × Status) :=
  [(!s.ready, .notConfigured),
   (badTag tag || nonzero reserved, .badField),
   ((s.pig tag.toNat).isNone, .noSuch),
   (s.pigIs tag.toNat [.staged, .trapped, .launchFailed], .wrongState)]

/-- DECLARE_LOST (R41): a LOST record is left as it is. -/
def execDeclareLost (tag : BitVec 16) (reserved : Byte) (s : State) : Host.Outcome State Fault Refusal :=
  s.ask (s.lostChecks tag reserved) (.ok (if s.pigIs tag.toNat [.lost] then s else s.lose tag.toNat))

/-- The checks of RETIRE_PIG (R42). -/
def State.retireChecks (s : State) (tag : BitVec 16) (reserved : Byte) : List (Bool × Status) :=
  let t := tag.toNat
  [(!s.ready, .notConfigured),
   (badTag tag || nonzero reserved, .badField),
   ((s.pig t).isNone, .noSuch),
   (s.pigIs t [.staged], .seqActive),
   (s.pigIs t [.inLine, .unconfirmed], .wrongState),
   (s.pigIs t [.trapped, .lost] && (s.boundStation t).isSome, .seqActive)]

/-- A detector whose references to a record are made none (R43). -/
def Detector.forget (t : Nat) (d : Detector) : Detector :=
  { d with lastMatched := if d.lastMatched = some t then none else d.lastMatched
           awaited := if d.awaited = some t then none else d.awaited }

/-- A detector forgets a retired record and is tested for its re-arm (R43, R97). -/
def State.forgetAt (t : Nat) (s : State) (d : Detector) : State :=
  (s.updDetector d.num (Detector.forget t)).rearmTest d.num

/-- The TRAP_ARRIVAL detector of a station whose receiver is emptied joins the re-arm set (R43). -/
def State.emptyReceiver (s : State) (k : Nat) : State :=
  match s.kindDetector k .trapArrival with
  | none => s
  | some d => if d.latching = true ∧ d.state = .tripped then s.updDetector d.num fun y => { y with inRearmSet := true } else s

/-- The Pig Table without a record (R43). -/
def State.dropPig (s : State) (t : Nat) : State := { s with pigs := s.pigs.filter fun p => p.tag ≠ t }

/-- RETIRE_PIG acts (R43, R129). -/
def State.retire (s : State) (t : Nat) : State :=
  let s1 := s.detectors.foldl (State.forgetAt t) (s.dropPig t)
  let s2 :=
    match s.pig t with
    | none => s1
    | some p => if p.state = PigState.trapped then s1.emptyReceiver p.destination else s1
  ((s2.unbar t).reevalAll).examineAll

/-- RETIRE_PIG (R42, R43). -/
def execRetirePig (tag : BitVec 16) (reserved : Byte) (s : State) : Host.Outcome State Fault Refusal :=
  s.ask (s.retireChecks tag reserved) (.ok (s.retire tag.toNat))

/-! ### Reading -/

/-- The checks of READ_PIG (R177). -/
def State.readPigChecks (s : State) (tag : BitVec 16) (reserved : Byte) : List (Bool × Status) :=
  [(badTag tag || nonzero reserved, .badField), ((s.pig tag.toNat).isNone, .noSuch)]

/-- Clears a record's CHANGED flag (R183). -/
def Pig.unmarkChanged (p : Pig) : Pig := { p with flags := { p.flags with changed := false } }

/-- READ_PIG (R177): the data show CHANGED as it stood before the read. -/
def execReadPig (tag : BitVec 16) (reserved : Byte) (s : State) : Host.Outcome State Fault Refusal :=
  s.ask (s.readPigChecks tag reserved)
    (.withData (s.modPig tag.toNat Pig.unmarkChanged) (((s.pig tag.toNat).map s.pigData).getD []))

/-- LIST_TRAIN (R179). -/
def execListTrain (start reserved : Byte) (s : State) : Host.Outcome State Fault Refusal :=
  s.ask [(above start 31 || nonzero reserved, .badField)] (.withData s (s.trainData start.toNat))

/-- LIST_ALL (R179). -/
def execListAll (reserved : Byte) (s : State) : Host.Outcome State Fault Refusal :=
  s.ask [(nonzero reserved, .badField)] (.withData s s.allData)

end Sys2Proof.Machine
end

