-- ==== Sys2Proof/Machine/Polling.lean ====
section
/-! DEFINITION. The Station Link's three steps: POLL_SLOT_START (R164), REPORT (R156) and REPLY_TIMEOUT (R153). -/

namespace Sys2Proof.Machine

/-- A poll slot begins where the link is free, the line READY and a station to poll (R153, R164). -/
def State.pollSlot (s : State) : State :=
  if s.lineState = .ready ∧ s.link.slot = none then
    match s.chosen with
    | none => s
    | some k => s.startSlot k
  else s

/-- POLL_SLOT_START (R164). -/
def execPollSlotStart (s : State) : Host.Outcome State Fault Refusal := .next s.pollSlot

/-- A frame arrives on LRXD (R153, R154): with no slot waiting it is discarded; a slot that waits ends with it, and the
slot LINK_RESET abandoned waits on for its timeout (R165). DESIGN CHOICE (notes/assumptions/33.md): a frame is tied to no
slot, and one that comes late, after its own slot has ended, is judged for the slot that then waits. -/
def State.receive (s : State) (frame : List Byte) : State :=
  match s.link.slot with
  | none => s
  | some p =>
    if reportWhole frame then
      match p.fate with
      | .awaited => s.freeLink.judged p.station p.item frame
      | .stationOut => s.freeLink
      | .abandoned => s
    else s

/-- REPORT (R153, R156). -/
def execReport (frame : List Byte) (s : State) : Host.Outcome State Fault Refusal := .next (s.receive frame)

/-- The reply timeout of the slot in progress expires (R153, R159, R165). -/
def State.replyExpires (s : State) : State :=
  match s.link.slot with
  | none => s
  | some p =>
    match p.fate with
    | .awaited => s.freeLink.missedReply p.station p.item
    | .stationOut => s.freeLink.missedReply p.station p.item
    | .abandoned => s.freeLink

/-- REPLY_TIMEOUT (R153). -/
def execReplyTimeout (s : State) : Host.Outcome State Fault Refusal := .next s.replyExpires

end Sys2Proof.Machine
end

