-- ==== Sys2Proof/Machine/Reading.lean ====
section
/-! DEFINITION. The reads of the line's items (R174 to R176) and the attention requests (R185 to R187). -/

namespace Sys2Proof.Machine

/-- Clears a station's changed flag (R184). -/
def Station.unmarkChanged (x : Station) : Station := { x with changed := false }

/-- READ_STATION (R174, R175): the data show the changed flag as it stood before the read. -/
def execReadStation (station reserved : Byte) (s : State) : Host.Outcome State Fault Refusal :=
  let k := station.toNat
  s.ask [(badStation station || nonzero reserved, .badField), ((s.station k).isNone, .noSuch)]
    (.withData (s.modStation k Station.unmarkChanged) (((s.station k).map s.stationData).getD []))

/-- READ_DETECTOR (R174, R176). -/
def execReadDetector (detector reserved : Byte) (s : State) : Host.Outcome State Fault Refusal :=
  let d := detector.toNat
  s.ask [(above detector 63 || nonzero reserved, .badField), ((s.detector d).isNone, .noSuch)]
    (.withData s (((s.detector d).map s.detectorData).getD []))

/-- READ_VALVE (R174, R176). -/
def execReadValve (valve reserved : Byte) (s : State) : Host.Outcome State Fault Refusal :=
  let v := valve.toNat
  s.ask [(above valve 47 || nonzero reserved, .badField), ((s.valve v).isNone, .noSuch)]
    (.withData s (((s.valve v).map s.valveData).getD []))

/-- READ_METER (R174, R176). -/
def execReadMeter (meter reserved : Byte) (s : State) : Host.Outcome State Fault Refusal :=
  let m := meter.toNat
  s.ask [(above meter 15 || nonzero reserved, .badField), ((s.meter m).isNone, .noSuch)]
    (.withData s (((s.meter m).map s.meterData).getD []))

/-- READ_ATTENTION (R186). -/
def execReadAttention (reserved : Byte) (s : State) : Host.Outcome State Fault Refusal :=
  s.ask [(nonzero reserved, .badField)] (.withData s s.attentionData)

/-- The causes after an acknowledgement (R187). -/
def Attention.acknowledged (a : Attention) (f : AckFrame) : Attention :=
  { a with alerts := a.alerts &&& ~~~(f.alerts.setWidth 9), notes := a.notes &&& ~~~(f.notes.setWidth 2) }

/-- The state after an acknowledgement (R187). -/
def State.acknowledge (s : State) (f : AckFrame) : State := { s with attention := s.attention.acknowledged f }

/-- A cause set that names no cause, or a derived one (R187, R190). -/
def badAck (f : AckFrame) : Bool := decide (512 ≤ f.alerts.toNat) || decide (4 ≤ f.notes.toNat) || nonzero f.reserved

/-- ACK_ALERT (R187): its data give the causes as it has left them. -/
def execAckAlert (f : AckFrame) (s : State) : Host.Outcome State Fault Refusal :=
  s.ask [(badAck f, .badField)] (.withData (s.acknowledge f) (s.acknowledge f).causesData)

/-- The masks a SET_ATTENTION_MASKS frame gives (R185, R190). -/
def Attention.masked (a : Attention) (f : MasksFrame) : Attention :=
  { a with alertMasks := f.alerts.setWidth 9, noteMasks := f.notes.setWidth 4, globalAlertMask := f.globals.getLsbD 0,
           globalNoteMask := f.globals.getLsbD 1 }

/-- A reserved bit or field of a SET_ATTENTION_MASKS frame (R185, R190). -/
def badMasks (f : MasksFrame) : Bool :=
  decide (512 ≤ f.alerts.toNat) || decide (16 ≤ f.notes.toNat) || decide (4 ≤ f.globals.toNat) || nonzero f.reserved

/-- SET_ATTENTION_MASKS (R185). -/
def execSetAttentionMasks (f : MasksFrame) (s : State) : Host.Outcome State Fault Refusal :=
  s.ask [(badMasks f, .badField)] (.ok { s with attention := s.attention.masked f })

end Sys2Proof.Machine
end

