-- ==== Sys2Proof/Machine/Service.lean ====
section
/-! DEFINITION. The service requests: SET_STATION_SERVICE (R162), SET_DETECTOR_SERVICE (R101, R102), REBASE_METER (R57) and
SET_VALVE_PERMIT (R118). -/

namespace Sys2Proof.Machine

/-- The checks of SET_STATION_SERVICE (R162). -/
def State.stationServiceChecks (s : State) (station value reserved : Byte) : List (Bool × Status) :=
  [(badStation station || above value 1 || nonzero reserved, .badField),
   ((s.station station.toNat).isNone, .noSuch),
   (s.ready && s.seqActive station.toNat, .seqActive)]

/-- The poll slot in progress is a station's. -/
def State.slotIsFor (s : State) (k : Nat) : Bool := ((s.link.slot.map fun p => decide (p.station = k))).getD false

/-- A frame arriving for a slot whose station is taken OUT is discarded (R153); a slot LINK_RESET abandoned stays so. -/
def State.discardFrameOf (s : State) (k : Nat) : State :=
  if s.slotIsFor k && !(s.link.slot.map fun p => decide (p.fate = .abandoned)).getD false then s.setFate .stationOut else s

/-- SET_STATION_SERVICE OUT in READY (R161, R162). -/
def State.takeOut (s : State) (k : Nat) : State :=
  if s.linkStateOf k = .out then s.updLink k fun x => { x with outCause := some .host }
  else (s.discardFrameOf k).enterOut k .host

/-- SET_STATION_SERVICE IN in READY (R161, R162). -/
def State.takeIn (s : State) (k : Nat) : State := if s.linkStateOf k = .out then s.enterProving k else s

/-- SET_STATION_SERVICE (R162): value 0 IN, 1 OUT. -/
def execSetStationService (station value reserved : Byte) (s : State) : Host.Outcome State Fault Refusal :=
  let k := station.toNat
  let out := yes value
  let s1 := s.modStation k fun x => { x with service := if out then .outOfService else .inService }
  s.ask (s.stationServiceChecks station value reserved)
    (.ok (if s.ready then (if out then s1.takeOut k else s1.takeIn k) else s1))

/-- The checks of SET_DETECTOR_SERVICE (R101), with what makes the service value bad. -/
def State.detectorServiceChecks (s : State) (detector reserved : Byte) (badValue : Bool) : List (Bool × Status) :=
  [(!s.ready, .notConfigured),
   (above detector 63 || badValue || nonzero reserved, .badField),
   ((s.detector detector.toNat).isNone, .noSuch)]

/-- A detector taken OUT (R101); OUT already, it is unchanged. -/
def Detector.takenOut (d : Detector) : Detector :=
  if d.state = .out then d else { d with state := .out, inRearmSet := false, confirmStart := none, confirmCount := 0 }

/-- A detector taken IN (R102). -/
def Detector.takenIn (d : Detector) : Detector :=
  { d with state := if d.state = .out then .unknown else d.state, spurious := 0, suspect := false }

/-- SET_DETECTOR_SERVICE OUT (R101). -/
def execSetDetectorServiceOut (detector value reserved : Byte) (s : State) : Host.Outcome State Fault Refusal :=
  s.ask (s.detectorServiceChecks detector reserved (decide (value.toNat ≠ 1)))
    (.ok (s.updDetector detector.toNat Detector.takenOut))

/-- SET_DETECTOR_SERVICE IN (R102). -/
def execSetDetectorServiceIn (detector value reserved : Byte) (s : State) : Host.Outcome State Fault Refusal :=
  s.ask (s.detectorServiceChecks detector reserved (decide (value.toNat ≠ 0)))
    (.ok (s.updDetector detector.toNat Detector.takenIn))

/-- The checks of REBASE_METER (R57). -/
def State.rebaseChecks (s : State) (meter reserved : Byte) : List (Bool × Status) :=
  [(!s.ready, .notConfigured), (above meter 15 || nonzero reserved, .badField), ((s.meter meter.toNat).isNone, .noSuch)]

/-- REBASE_METER acts (R57): the station's changed flag is set whatever the meter's state was. -/
def State.rebase (s : State) (m : Nat) : State :=
  match s.meter m with
  | none => s
  | some x => (s.modMeter m Meter.rebased).touch x.station

/-- REBASE_METER (R57). -/
def execRebaseMeter (meter reserved : Byte) (s : State) : Host.Outcome State Fault Refusal :=
  s.ask (s.rebaseChecks meter reserved) (.ok (s.rebase meter.toNat))

/-- The checks of SET_VALVE_PERMIT (R118). -/
def State.permitChecks (s : State) (valve value reserved : Byte) : List (Bool × Status) :=
  [(!s.ready, .notConfigured),
   (above valve 47 || above value 1 || nonzero reserved, .badField),
   ((s.valve valve.toNat).isNone, .noSuch)]

/-- SET_VALVE_PERMIT (R118): value 0 ON, 1 OFF. -/
def execSetValvePermit (valve value reserved : Byte) (s : State) : Host.Outcome State Fault Refusal :=
  s.ask (s.permitChecks valve value reserved)
    (.ok (s.updValve valve.toNat fun x => { x with permit := decide (value.toNat = 0) }))

end Sys2Proof.Machine
end

