-- ==== Sys2Proof/Machine/Traps.lean ====
section
/-! DEFINITION. The sequence requests (chapter 7): ARM_RECEIVE (R128), PAUSE_SEQUENCE (R140), CONTINUE_SEQUENCE (R141),
ABORT_SEQUENCE (R142) and CLEAR_TRAP_FAULT (R151); and the part's own AUTO_RECEIVE_START (R129). -/

namespace Sys2Proof.Machine

/-! ### Receives -/

/-- The record is bound to an active launch (R128 check 11, R129). -/
def State.beingLaunched (s : State) (t : Nat) : Bool :=
  match s.boundStation t with
  | none => false
  | some k => decide ((s.slotOf k).kind = some .launch)

/-- A record's destination. -/
def State.destinationOf (s : State) (t : Nat) : Nat := ((s.pig t).map Pig.destination).getD 0

/-- The checks of ARM_RECEIVE (R128). -/
def State.armChecks (s : State) (tag : BitVec 16) (reserved : Byte) : List (Bool × Status) :=
  let t := tag.toNat
  let k := s.destinationOf t
  [(!s.ready, .notConfigured),
   (badTag tag || nonzero reserved, .badField),
   ((s.pig t).isNone, .noSuch),
   (s.pigIs t [.staged, .trapped, .launchFailed], .wrongState),
   (decide (s.linkStateOf k = .silent), .silent),
   (decide (s.linkStateOf k ≠ .active), .wrongState),
   (s.trapFaultOf k, .trapFault),
   (s.seqActive k, .seqActive),
   (s.receiverOccupied k, .trapOccupied),
   (s.claimedBusy k, .busyValve),
   (s.beingLaunched t, .seqActive)]

/-- ARM_RECEIVE (R128): the barred tag becomes none. -/
def execArmReceive (tag : BitVec 16) (reserved : Byte) (s : State) : Host.Outcome State Fault Refusal :=
  s.ask (s.armChecks tag reserved) (.ok (s.startReceive (s.destinationOf tag.toNat) tag.toNat none))

/-- A record qualifies for an automatic receive at a station (R129). -/
def State.autoQualifies (s : State) (x : Station) (p : Pig) : Bool :=
  (decide (p.state = .inLine) || decide (p.state = .unconfirmed)) && decide (p.destination = x.num) &&
    (match s.holdFront p with
    | none => false
    | some f => decide (x.position ≤ f + x.tuning.lead) && decide (f + x.tuning.approach < x.position)) &&
    decide (x.slot.barred ≠ some p.tag) && !s.beingLaunched p.tag

/-- The station's own conditions for an automatic receive (R129). -/
def State.autoReady (s : State) (x : Station) : Bool :=
  s.ready && x.tuning.autoReceive && decide (x.slot.state = .idle) && decide (x.link.state = .active) && !x.trapFault &&
    !s.receiverOccupied x.num && !s.claimedBusy x.num

/-- The record an automatic receive takes (R129): the greatest hold front, the lower tag between equal fronts. -/
def State.autoPick (s : State) (x : Station) : Option Pig :=
  (s.pigs.filter (s.autoQualifies x)).foldl (fun best p =>
    match best with
    | none => some p
    | some b => if (s.holdFront b).getD 0 < (s.holdFront p).getD 0 then some p else best) none

/-- The record an automatic receive at a station would take now, or none where none may start (R129). -/
def State.autoCandidate (s : State) (k : Nat) : Option Pig :=
  match s.station k with
  | none => none
  | some x => if s.autoReady x then s.autoPick x else none

/-- An automatic receive starts at a station if its condition holds (R129); the barred tag is kept. -/
def State.autoStart (s : State) (k : Nat) : State :=
  match s.autoCandidate k with
  | none => s
  | some p => s.startReceive k p.tag (s.slotOf k).barred

/-- AUTO_RECEIVE_START (R129). -/
def execAutoReceiveStart (station : Nat) (s : State) : Host.Outcome State Fault Refusal := .next (s.autoStart station)

/-! ### Pause, continue, abort -/

/-- The checks the sequence requests begin with (R140, R141, R142). -/
def State.sequenceChecks (s : State) (station reserved : Byte) : List (Bool × Status) :=
  [(!s.ready, .notConfigured),
   (badStation station || nonzero reserved, .badField),
   ((s.station station.toNat).isNone, .noSuch)]

/-- PAUSE_SEQUENCE (R140). -/
def execPauseSequence (station reserved : Byte) (s : State) : Host.Outcome State Fault Refusal :=
  let k := station.toNat
  let x := s.slotOf k
  s.ask (s.sequenceChecks station reserved ++ [(decide (x.state = .idle) || decide (x.state = .restoring), .wrongState)])
    (.ok (if x.state = .paused ∨ x.pausePending ≠ none then s
          else s.updSlot k fun y => { y with pausePending := some .host }))

/-- What CONTINUE_SEQUENCE does once its checks pass (R141): a PAUSED slot goes on at its resume point; otherwise a HOST
pause-pending is cleared. -/
def State.continueAt (s : State) (k : Nat) : State :=
  let x := s.slotOf k
  match x.state, x.resume with
  | .paused, some p => s.goOnAt k p
  | _, _ => s.updSlot k fun y => { y with pausePending := none }

/-- CONTINUE_SEQUENCE (R141). -/
def execContinueSequence (station reserved : Byte) (s : State) : Host.Outcome State Fault Refusal :=
  let k := station.toNat
  let x := s.slotOf k
  s.ask (s.sequenceChecks station reserved ++
      [(s.lineTrip && (decide (x.state = .paused) || decide (x.pausePending = some .trip)), .tripped),
       (decide (x.state ≠ .paused) && decide (x.pausePending ≠ some .host), .wrongState)])
    (.ok (s.continueAt k))

/-- An abort finds its work already done (R142): the tail runs or waits, or an end is already pending. -/
def Slot.ending (x : Slot) : Bool :=
  decide (x.state = .restoring) || decide (x.state = .paused) && (x.resume.map SeqStep.isRestore).getD false ||
    decide (x.abortPending ≠ none)

/-- ABORT_SEQUENCE acts (R142, R144). -/
def State.abortAt (s : State) (k : Nat) : State :=
  let x := s.slotOf k
  match x.state, s.stepValve k with
  | .stepping, some v => s.cutShort k v .aborted
  | _, _ => s.beginTail k .aborted none

/-- ABORT_SEQUENCE (R142). -/
def execAbortSequence (station reserved : Byte) (s : State) : Host.Outcome State Fault Refusal :=
  let k := station.toNat
  let x := s.slotOf k
  s.ask (s.sequenceChecks station reserved ++ [(decide (x.state = .idle), .wrongState)])
    (.ok (if x.ending then s else s.abortAt k))

/-! ### CLEAR_TRAP_FAULT -/

/-- The checks of CLEAR_TRAP_FAULT (R151). -/
def State.clearFaultChecks (s : State) (station reserved : Byte) : List (Bool × Status) :=
  [(badStation station || nonzero reserved, .badField), ((s.station station.toNat).isNone, .noSuch)]

/-- CLEAR_TRAP_FAULT (R151). -/
def execClearTrapFault (station reserved : Byte) (s : State) : Host.Outcome State Fault Refusal :=
  let k := station.toNat
  s.ask (s.clearFaultChecks station reserved)
    (.ok (if s.trapFaultOf k then s.modStation k fun x => { x with trapFault := false, changed := true } else s))

end Sys2Proof.Machine
end

