-- ==== Sys2Proof/Machine/Timing.lean ====
section
/-! DEFINITION. The Line Clock second (R12, R48, R56, R139) and the expiries it makes due (R56, R99, R112, R113, R132,
R133, R137, R143). When a due expiry is taken is in notes/assumptions/4.md, the order inside a second in
notes/assumptions/5.md. -/

namespace Sys2Proof.Machine

/-! ### Timers -/

/-- The tuning fields of a station; an undefined one has none, and the least values stand in. -/
def State.tuningOf (s : State) (k : Nat) : Tuning := ((s.station k).map Station.tuning).getD (Tuning.inRange
  { guardVol := 0, approach := 0, lead := 0, clearance := 0, exitTimeout := 0, arrivalTimeout := 0, pauseLimit := 0,
    autoReceive := false, policy := .queue, replyCode := 0 })

/-- A limit that 0 switches off is reached (R12). -/
def limitReached (limit count : Nat) : Bool := decide (limit ≠ 0) && decide (limit ≤ count)

/-- A slot waits for a LAUNCH_EXIT trip (R133). -/
def Slot.awaitsExit (x : Slot) : Bool := decide (x.state = .waitPassage) && decide (x.kind = some .launch)

/-- A slot waits for a TRAP_ARRIVAL trip (R137). -/
def Slot.awaitsArrival (x : Slot) : Bool := decide (x.state = .waitPassage) && decide (x.kind = some .receive)

/-- The count of an expiry's timer, or none where the timer does not run (R12, R56, R99, R112, R113, R139). -/
def State.timerCount (s : State) : Expiry → Option Nat
  | .meterStale m =>
    match s.meter m with
    | none => none
    | some x => if s.ready = true ∧ x.state = .extrapolating then some x.extrapolated else none
  | .stroke v =>
    match (s.valve v).bind Valve.command with
    | none => none
    | some c => if c.phase = .travelling then some c.strokeCount else none
  | .delivery v =>
    match (s.valve v).bind Valve.command with
    | none => none
    | some c => if c.phase = .queued then some c.queuedCount else none
  | .confirmation d =>
    match s.detector d with
    | none => none
    | some x => if x.state = .rearming then some x.confirmCount else none
  | .holdWait k => if (s.slotOf k).state = .waitHold then some (s.slotOf k).holdWait else none
  | .launchExit k => if (s.slotOf k).awaitsExit = true then some (s.slotOf k).passage else none
  | .arrival k => if (s.slotOf k).awaitsArrival = true then some (s.slotOf k).passage else none
  | .pause k => if (s.slotOf k).state = .paused then some (s.slotOf k).pause else none

/-- A count has reached the limit that an expiry's timer now has (R12); of the hold-wait limit and the pause limit, 0 means
none. -/
def State.limitMet (s : State) (count : Nat) : Expiry → Bool
  | .meterStale m => decide ((((s.meter m).map Meter.holdTime).getD 0) ≤ count)
  | .stroke v => decide ((((s.valve v).map Valve.strokeTimeout).getD 0) ≤ count)
  | .delivery _ => decide (s.params.deliveryLimit ≤ count)
  | .confirmation _ => decide (s.params.deliveryLimit ≤ count)
  | .holdWait _ => limitReached s.params.holdWaitLimit count
  | .launchExit k => decide ((s.tuningOf k).exitTimeout ≤ count)
  | .arrival k => decide ((s.tuningOf k).arrivalTimeout ≤ count)
  | .pause k => limitReached (s.tuningOf k).pauseLimit count

/-- The expiry of a sequence slot's timer, which LINE_TRIP holds still (R139). -/
def Expiry.isSlots : Expiry → Bool
  | .meterStale _ | .stroke _ | .delivery _ | .confirmation _ => false
  | .holdWait _ | .launchExit _ | .arrival _ | .pause _ => true

/-- An expiry comes with the Line Clock second (R12): its timer runs, and its count has reached the limit then held; a
slot's timer expires only at a second at which LINE_TRIP is released (R139). -/
def State.expired (s : State) (e : Expiry) : Bool :=
  match s.timerCount e with
  | none => false
  | some n => !(s.lineTrip && e.isSlots) && s.limitMet n e

/-- The timer of an expiry still runs, from a second or more ago: a timer that has started since the last second has the
count 0, and is another. The hold-wait count is kept over the waits of a step, so the slot itself says whether its wait is
another one (R132). A meter's outage is looked at in the second itself (R56). -/
def State.timerStands (s : State) (e : Expiry) : Bool :=
  match s.timerCount e with
  | none => false
  | some n =>
    match e with
    | .meterStale _ => true
    | .holdWait k => !(s.slotOf k).heldAnew
    | .stroke _ | .delivery _ | .confirmation _ | .launchExit _ | .arrival _ | .pause _ => decide (n ≠ 0)

/-- The pause limit of a PAUSED slot expires (R143). -/
def State.pauseExpires (s : State) (k : Nat) : State :=
  match (s.slotOf k).resume with
  | none => s
  | some p => if p.isRestore then s.goOnAt k p else s.beginTail k .pauseLapsed none

/-- What an expiry does. -/
def State.expiryActs (s : State) : Expiry → State
  | .meterStale m => s.updMeter m fun x => { x with state := .stale }
  | .stroke v => s.finishCommand v .timeout
  | .delivery v => s.withdrawQueued .lapsed v
  | .confirmation d => s.confirmationLapses d
  | .holdWait k => s.beginTail k .holdLapsed none
  | .launchExit k => s.beginTail k .launchTimeout none
  | .arrival k => s.beginTail k .arrivalTimeout none
  | .pause k => s.pauseExpires k

/-- A due expiry is taken: it acts if its timer has not ended since the second that made it due, whatever has become of
the limit (R12); either way it is no longer due. -/
def State.expire (s : State) (e : Expiry) : State :=
  if e ∈ s.due then
    let s1 := { s with due := s.due.filter (· ≠ e) }
    if s1.timerStands e then s1.expiryActs e else s1
  else s

/-- METER_STALE (R56): an EXTRAPOLATING meter whose extrapolated seconds a Line Clock second found at its hold time enters
STALE. The second takes this expiry itself, as notes/assumptions/31.md says. -/
def execMeterStale (meter : Nat) (s : State) : Host.Outcome State Fault Refusal := .next (s.expire (.meterStale meter))

/-- STROKE_TIMEOUT (R112). -/
def execStrokeTimeout (valve : Nat) (s : State) : Host.Outcome State Fault Refusal := .next (s.expire (.stroke valve))

/-- DELIVERY_LIMIT_EXPIRY (R113). -/
def execDeliveryLimitExpiry (valve : Nat) (s : State) : Host.Outcome State Fault Refusal :=
  .next (s.expire (.delivery valve))

/-- CONFIRMATION_LAPSE (R99). -/
def execConfirmationLapse (detector : Nat) (s : State) : Host.Outcome State Fault Refusal :=
  .next (s.expire (.confirmation detector))

/-- HOLD_LAPSED (R132, R135). -/
def execHoldLapsed (station : Nat) (s : State) : Host.Outcome State Fault Refusal := .next (s.expire (.holdWait station))

/-- LAUNCH_TIMEOUT (R133). -/
def execLaunchTimeout (station : Nat) (s : State) : Host.Outcome State Fault Refusal :=
  .next (s.expire (.launchExit station))

/-- ARRIVAL_TIMEOUT (R137). -/
def execArrivalTimeout (station : Nat) (s : State) : Host.Outcome State Fault Refusal := .next (s.expire (.arrival station))

/-- PAUSE_LAPSED (R143). -/
def execPauseLapsed (station : Nat) (s : State) : Host.Outcome State Fault Refusal := .next (s.expire (.pause station))

/-! ### The second -/

/-- A command's counts one second on (R12, R112, R113). -/
def Command.second (c : Command) : Command :=
  match c.phase with
  | .queued => { c with queuedCount := c.queuedCount + 1 }
  | .travelling => { c with strokeCount := c.strokeCount + 1 }

/-- A slot's counts one second on, with LINE_TRIP released (R139); a wait it is in is no longer a new one. -/
def Slot.second (x : Slot) : Slot :=
  let y := { x with heldAnew := false }
  match x.state with
  | .waitHold => { y with holdWait := min (x.holdWait + 1) 65535 }
  | .waitPassage => { y with passage := min (x.passage + 1) 7200 }
  | .paused => { y with pause := min (x.pause + 1) 65535 }
  | .idle => y
  | .stepping => y
  | .waitClearance => y
  | .restoring => y

/-- A detector's confirmation count one second on (R99). -/
def Detector.second (d : Detector) : Detector :=
  if d.state = .rearming then { d with confirmCount := d.confirmCount + 1 } else d

/-- The Line Clock and every running count advance (R12, R48, R139); the counts run in READY only. -/
def State.tick (s : State) : State :=
  let s1 := { s with clock := min (s.clock + 1) maxWord }
  if s.ready then
    { s1 with
      valves := s1.valves.map fun v => { v with command := v.command.map Command.second }
      detectors := s1.detectors.map Detector.second
      stations := if s.lineTrip then s1.stations else s1.stations.map fun x => { x with slot := x.slot.second } }
  else s1

/-- Every expiry that a timer could come to, but a meter's, which its own second looks at (R56). -/
def State.timers (s : State) : List Expiry :=
  (s.valves.flatMap fun v => [Expiry.stroke v.num, .delivery v.num]) ++
    (s.detectors.map fun d => Expiry.confirmation d.num) ++
    s.stations.flatMap fun x => [Expiry.holdWait x.num, .launchExit x.num, .arrival x.num, .pause x.num]

/-- Adds an expiry to those that are due, once. -/
def State.makeDue (s : State) (e : Expiry) : State := if e ∈ s.due then s else { s with due := s.due ++ [e] }

/-- The second's expiries become due (R12). -/
def State.markDue (s : State) : State := (s.timers.filter s.expired).foldl State.makeDue s

/-- Takes the expiries no command has taken, in a free order. -/
def State.takeDue (s : State) : State :=
  let r := s.inFreeOrder s.due
  r.1.foldl State.expire r.2

/-- Starts the automatic receives whose condition holds and that no command has started, in a free order. -/
def State.takeStarts (s : State) : State :=
  let r := s.inFreeOrder (s.stationNums.filter fun k => (s.autoCandidate k).isSome)
  r.1.foldl State.autoStart r.2

/-- Tests a meter against the hold time it has at a second: its expiry is due, and is taken in that second (R56). -/
def State.staleTest (s : State) (m : Nat) : State :=
  if s.expired (.meterStale m) then (s.makeDue (.meterStale m)).expire (.meterStale m) else s

/-- One Line Clock second of an EXTRAPOLATING meter (R56): already at its hold time, it enters STALE and releases nothing;
otherwise it releases its rate, V_p and the extrapolated seconds rise, and a count that now equals the hold time takes it
to STALE after that release. -/
def State.extrapolate (s : State) (m : Nat) : State :=
  match s.meter m with
  | none => s
  | some x =>
    if x.state = .extrapolating then
      if x.holdTime ≤ x.extrapolated then s.staleTest m
      else
        let s1 := s.updMeter m fun y =>
          { y with provisional := y.provisional + y.rate, extrapolated := y.extrapolated + 1 }
        (s1.applyRelease m x.rate).staleTest m
    else s

/-- Every extrapolating meter has its second (R56), in a free order (R58). -/
def State.extrapolateAll (s : State) : State :=
  let r := s.inFreeOrder ((s.meters.filter fun m => m.state == .extrapolating).map Meter.num)
  r.1.foldl State.extrapolate r.2

/-- A Line Clock second (R48). -/
def State.second (s : State) : State :=
  if s.ready then ((s.takeDue.takeStarts).tick.markDue).extrapolateAll else s.tick

/-- LINE_CLOCK_SECOND (R48). -/
def execLineClockSecond (s : State) : Host.Outcome State Fault Refusal := .next s.second

end Sys2Proof.Machine
end

