-- ==== Sys2Proof/Machine/ValveRequests.lean ====
section
/-! DEFINITION. The valve requests (chapter 6): COMMAND_VALVE (R108, R109) and WITHDRAW_VALVE_COMMAND (R114). -/

namespace Sys2Proof.Machine

/-- A valve is claimed by its station's active sequence (R126): a sequence claims its station's valves of every role. -/
def State.claimed (s : State) (v : Nat) : Bool := ((s.valve v).map fun x => s.seqActive x.station).getD false

/-- A valve with a command outstanding (R107). -/
def State.commanded (s : State) (v : Nat) : Bool := ((s.valve v).bind Valve.command).isSome

/-- A CLOSE that would be sent, since the valve is not CLOSED already (R108). -/
def closeToSend (x : Valve) (t : Target) : Bool := decide (t = .toClose) && !x.debounced.at t

/-- The checks of COMMAND_VALVE that concern the valve found (R108 checks 7 to 10). -/
def State.commandChecks (s : State) (x : Option Valve) (t : Target) : List (Bool × Status) :=
  match x with
  | none => []
  | some v =>
    [(decide (s.linkStateOf v.station = .out), .wrongState),
     (decide (s.linkStateOf v.station = .silent) && s.refusesSilent v.station, .silent),
     (closeToSend v t && v.held, .held),
     (closeToSend v t && s.closeInhibited v, .inhibited)]

/-- The checks of COMMAND_VALVE (R108). -/
def State.commandValveChecks (s : State) (valve target reserved : Byte) : List (Bool × Status) :=
  let v := valve.toNat
  [(!s.ready, .notConfigured),
   (above valve 47 || above target 1 || nonzero reserved, .badField),
   ((s.valve v).isNone, .noSuch),
   (s.lineTrip, .tripped),
   (s.claimed v, .seqOwned),
   (s.commanded v, .busyValve)] ++ s.commandChecks (s.valve v) (targetOf target)

/-- The data of COMMAND_VALVE (R109): the phase after the request and, for ALREADY, that outcome. -/
def commandData (phase : Nat) (o : Option ValveOutcome) : List Byte :=
  (Fields.all [.one 1 phase, .may 1 (o.map ValveOutcome.ctorIdx)]).data

/-- What COMMAND_VALVE comes to (R109). -/
def State.commandTaken (s : State) (v : Nat) (t : Target) : Taken :=
  match s.valve v with
  | none => .ok s
  | some x =>
    if x.debounced.at t then .withData (s.endCommand x .already) (commandData 0 (some .already))
    else .withData (s.enqueue x t .host) (commandData 1 none)

/-- COMMAND_VALVE (R108, R109). -/
def execCommandValve (valve target reserved : Byte) (s : State) : Host.Outcome State Fault Refusal :=
  s.ask (s.commandValveChecks valve target reserved) (s.commandTaken valve.toNat (targetOf target))

/-- A valve's command can be withdrawn (R114 check 5): QUEUED and not carried. -/
def State.withdrawable (s : State) (v : Nat) : Bool :=
  match (s.valve v).bind Valve.command with
  | none => false
  | some c => decide (c.phase = .queued) && !c.carried

/-- The checks of WITHDRAW_VALVE_COMMAND (R114). -/
def State.withdrawChecks (s : State) (valve reserved : Byte) : List (Bool × Status) :=
  let v := valve.toNat
  [(!s.ready, .notConfigured),
   (above valve 47 || nonzero reserved, .badField),
   ((s.valve v).isNone, .noSuch),
   (s.claimed v, .seqOwned),
   (!s.withdrawable v, .wrongState)]

/-- WITHDRAW_VALVE_COMMAND (R114). -/
def execWithdrawValveCommand (valve reserved : Byte) (s : State) : Host.Outcome State Fault Refusal :=
  s.ask (s.withdrawChecks valve reserved) (.ok (s.finishCommand valve.toNat .withdrawn))

end Sys2Proof.Machine
end

