-- ==== Sys2Proof/Machine/Dispatch.lean ====
section
/-! DEFINITION. The command dispatch: one arm per row of spec/opcode_table.json, each one call of that command's meaning. -/

namespace Sys2Proof.Machine

def exec (i : Instr) (s : State) : Host.Outcome State Fault Refusal :=
  match i with
  | .powerOn linkRate => Sys2Proof.Machine.execPowerOn linkRate s
  | .lineTripAsserted => Sys2Proof.Machine.execLineTripAsserted s
  | .lineTripReleased => Sys2Proof.Machine.execLineTripReleased s
  | .lineClockSecond => Sys2Proof.Machine.execLineClockSecond s
  | .meterStale meter => Sys2Proof.Machine.execMeterStale meter s
  | .strokeTimeout valve => Sys2Proof.Machine.execStrokeTimeout valve s
  | .deliveryLimitExpiry valve => Sys2Proof.Machine.execDeliveryLimitExpiry valve s
  | .confirmationLapse detector => Sys2Proof.Machine.execConfirmationLapse detector s
  | .holdLapsed station => Sys2Proof.Machine.execHoldLapsed station s
  | .launchTimeout station => Sys2Proof.Machine.execLaunchTimeout station s
  | .arrivalTimeout station => Sys2Proof.Machine.execArrivalTimeout station s
  | .pauseLapsed station => Sys2Proof.Machine.execPauseLapsed station s
  | .replyTimeout => Sys2Proof.Machine.execReplyTimeout s
  | .pollSlotStart => Sys2Proof.Machine.execPollSlotStart s
  | .report frame => Sys2Proof.Machine.execReport frame s
  | .autoReceiveStart station => Sys2Proof.Machine.execAutoReceiveStart station s
  | .requestFrameOverrun => Sys2Proof.Machine.execRequestFrameOverrun s
  | .badLength frame => Sys2Proof.Machine.execBadLength frame s
  | .unknownRequest frame => Sys2Proof.Machine.execUnknownRequest frame s
  | .readResponse clocked => Sys2Proof.Machine.execReadResponse clocked s
  | .defineStationDefine f => Sys2Proof.Machine.execDefineStationDefine f s
  | .defineStationTune f => Sys2Proof.Machine.execDefineStationTune f s
  | .defineDetector f => Sys2Proof.Machine.execDefineDetector f s
  | .defineValveDefine f => Sys2Proof.Machine.execDefineValveDefine f s
  | .defineValveTune f => Sys2Proof.Machine.execDefineValveTune f s
  | .defineMeterDefine f => Sys2Proof.Machine.execDefineMeterDefine f s
  | .defineMeterTune f => Sys2Proof.Machine.execDefineMeterTune f s
  | .setSegmentMeter station meter reserved => Sys2Proof.Machine.execSetSegmentMeter station meter reserved s
  | .setProfile f => Sys2Proof.Machine.execSetProfile f s
  | .setLineParameters f => Sys2Proof.Machine.execSetLineParameters f s
  | .commitLine reserved => Sys2Proof.Machine.execCommitLine reserved s
  | .openLine reserved => Sys2Proof.Machine.execOpenLine reserved s
  | .clearLine reserved => Sys2Proof.Machine.execClearLine reserved s
  | .readLineStatus reserved => Sys2Proof.Machine.execReadLineStatus reserved s
  | .setStationService station value reserved => Sys2Proof.Machine.execSetStationService station value reserved s
  | .setDetectorServiceOut detector value reserved => Sys2Proof.Machine.execSetDetectorServiceOut detector value reserved s
  | .setDetectorServiceIn detector value reserved => Sys2Proof.Machine.execSetDetectorServiceIn detector value reserved s
  | .rebaseMeter meter reserved => Sys2Proof.Machine.execRebaseMeter meter reserved s
  | .setValvePermit valve value reserved => Sys2Proof.Machine.execSetValvePermit valve value reserved s
  | .launch f => Sys2Proof.Machine.execLaunch f s
  | .declarePig f => Sys2Proof.Machine.execDeclarePig f s
  | .amendPig f => Sys2Proof.Machine.execAmendPig f s
  | .fixPig f => Sys2Proof.Machine.execFixPig f s
  | .declareLost tag reserved => Sys2Proof.Machine.execDeclareLost tag reserved s
  | .retirePig tag reserved => Sys2Proof.Machine.execRetirePig tag reserved s
  | .readPig tag reserved => Sys2Proof.Machine.execReadPig tag reserved s
  | .listTrain start reserved => Sys2Proof.Machine.execListTrain start reserved s
  | .listAll reserved => Sys2Proof.Machine.execListAll reserved s
  | .armReceive tag reserved => Sys2Proof.Machine.execArmReceive tag reserved s
  | .pauseSequence station reserved => Sys2Proof.Machine.execPauseSequence station reserved s
  | .continueSequence station reserved => Sys2Proof.Machine.execContinueSequence station reserved s
  | .abortSequence station reserved => Sys2Proof.Machine.execAbortSequence station reserved s
  | .clearTrapFault station reserved => Sys2Proof.Machine.execClearTrapFault station reserved s
  | .commandValve valve target reserved => Sys2Proof.Machine.execCommandValve valve target reserved s
  | .withdrawValveCommand valve reserved => Sys2Proof.Machine.execWithdrawValveCommand valve reserved s
  | .readStation station reserved => Sys2Proof.Machine.execReadStation station reserved s
  | .readDetector detector reserved => Sys2Proof.Machine.execReadDetector detector reserved s
  | .readValve valve reserved => Sys2Proof.Machine.execReadValve valve reserved s
  | .readMeter meter reserved => Sys2Proof.Machine.execReadMeter meter reserved s
  | .readAttention reserved => Sys2Proof.Machine.execReadAttention reserved s
  | .ackAlert f => Sys2Proof.Machine.execAckAlert f s
  | .setAttentionMasks f => Sys2Proof.Machine.execSetAttentionMasks f s
  | .linkReset reserved => Sys2Proof.Machine.execLinkReset reserved s
  | .restart reserved => Sys2Proof.Machine.execRestart reserved s

end Sys2Proof.Machine
end

