-- ==== Sys2Proof/Safety.lean ====
section
/-! DEFINITION. What a sound state and a safe run are, in the terms the claims use: the invariants of the tables, the Pig
Table, the Train List, the holds, the strikes, the meters, the re-arm sets and the queues, and what it is for a state to
hold the response to a request. -/

namespace Sys2Proof.Machine

/-! ### Invariants -/

/-- Numbers that rise strictly, so that none stands twice. -/
def Rising (l : List Nat) : Prop := l.Pairwise (· < ·)

/-- Every table holds its items in strictly rising number, the Pig Table its records in strictly rising tag (R2, R5 to R7,
R28: no number and no tag stands twice). -/
structure TablesRise (s : State) : Prop where
  stations : Rising (s.stations.map Station.num)
  detectors : Rising (s.detectors.map Detector.num)
  valves : Rising (s.valves.map Valve.num)
  meters : Rising (s.meters.map Meter.num)
  pigs : Rising (s.pigs.map Pig.tag)

/-- A record's stored ranges (2.1, R20, R28). -/
def Pig.inBounds (p : Pig) : Prop := p.residue ≤ 999 ∧ p.slip ≤ 250 ∧ 1 ≤ p.tag ∧ p.tag ≤ 65535

/-- The Pig Table's and the Line Clock's ranges (R20, R28, R48, R178). -/
structure PigBounds (s : State) : Prop where
  records : ∀ p ∈ s.pigs, p.inBounds
  live : s.pigs.length ≤ 32
  revision : s.revision ≤ 255
  clock : s.clock ≤ maxWord

/-- A record in a state of the Train List (R22). -/
def Pig.tracked (p : Pig) : Bool := decide (p.state = .inLine) || decide (p.state = .unconfirmed)

/-- The Train List (R22, R23): its members are the tracked records, once each, in positions that never increase from head
to tail and never pass line end; and in UNCONFIGURED the Pig Table is empty (R47). -/
structure TrainInOrder (s : State) : Prop where
  once : s.train.Nodup
  members : ∀ t ∈ s.train, (s.pig t).any Pig.tracked = true
  all : ∀ p ∈ s.pigs, p.tracked = true → p.tag ∈ s.train
  order : s.train.Pairwise fun a b => s.pigPos b ≤ s.pigPos a
  onLine : ∀ t ∈ s.train, s.pigPos t ≤ s.lineEnd
  empty : s.lineState = .unconfigured → s.pigs = []

/-- Nothing stands below line start (R23): no record of the train and, in READY, no station and no MAINLINE detector, as
COMMIT_LINE's checks 2 and 3 leave the line (R14). -/
structure NothingBelowStart (s : State) : Prop where
  stations : s.lineState = .ready → ∀ x ∈ s.stations, s.lineStart ≤ x.position
  detectors : s.lineState = .ready → ∀ d ∈ s.detectors, d.kind = .mainline → s.lineStart ≤ d.position
  train : ∀ t ∈ s.train, s.lineStart ≤ s.pigPos t

/-- Every valve's counted records are those R119 counts from the state as it stands. -/
def HoldsExact (s : State) : Prop := ∀ v ∈ s.valves, v.holders = s.holdersNow v

/-- A valve is struck exactly while it is a MAINLINE valve, held, and CLOSED, MOVING or FAULT (R122). -/
def StrikesExact (s : State) : Prop :=
  ∀ v ∈ s.valves, v.struck = (decide (v.role = .mainline) && decide (v.holders ≠ []) && v.debounced.notOpen)

/-- A meter's provisional volume is zero unless the meter is EXTRAPOLATING or STALE (R49). -/
def ProvisionalOnlyInOutage (s : State) : Prop :=
  ∀ m ∈ s.meters, m.provisional ≠ 0 → m.state = .extrapolating ∨ m.state = .stale

/-- A detector is in its station's re-arm set only while it is TRIPPED (R95). -/
def RearmOnlyTripped (s : State) : Prop := ∀ d ∈ s.detectors, d.inRearmSet = true → d.state = .tripped

/-- A queue's entry is one of the station's valves, with a QUEUED command (R107). -/
def State.queueEntryOk (s : State) (k v : Nat) : Bool :=
  (s.valve v).any fun y => decide (y.station = k) && y.command.any fun c => decide (c.phase = .queued)

/-- Every station's command queue holds only QUEUED commands of that station's own valves (R107). -/
def QueuesHoldQueued (s : State) : Prop := ∀ x ∈ s.stations, ∀ v ∈ x.queue, s.queueEntryOk x.num v = true

/-! ### The detector stage -/

/-- A report's trips at one detector, one after another, each given to the record its kind of trip takes (R70 step 2, R71,
R76); with the state, the record the last trip was given to. -/
def ReportReading.trips (s : State) (d : Detector) (age count : Nat) : State × Option Nat :=
  (List.replicate count ()).foldl (fun u _ =>
    match d.kind with
    | .mainline => u.1.mainlineTrip d.num age
    | .launchExit => u.1.exitTrip d.num age
    | .trapArrival => u.1.arrivalTrip d.num) (s, none)

/-- How many new trips a report shows at a detector (R71), by what it shows and the detector's state before it. -/
def ReportReading.newTrips (d : Detector) (sh : Shown) : Nat :=
  match sh with
  | .tripped => if d.latching = true ∧ d.state = .armed then 1 else 0
  | .count n => if d.latching = false ∧ (d.state = .armed ∨ d.state = .unknown) then n else 0
  | .armed => 0
  | .fault => 0

/-- One detector's part of the stage (R70): its trips; the decision, head to tail, of the records that were
overdue-pending at it when the stage began (R78); its new state, and its re-arm test (R94, R97). -/
def ReportReading.detector (shown : Detector → Shown × Nat) (began s : State) (d : Detector) : State :=
  let tripped := ReportReading.trips s d (shown d).2 (ReportReading.newTrips d (shown d).1)
  let decided :=
    match d.kind, began.indexOf d.num with
    | .mainline, some i =>
      (began.train.filter fun t => (began.pig t).any fun (p : Pig) => p.overdue && decide (p.pointer = some i)).foldl
        (State.decideRecord d (shown d).1 i) tripped.1
    | _, _ => tripped.1
  (decided.updDetector d.num fun x => x.afterReport (shown d).1 tripped.2).rearmTest d.num

/-- The detector stage (R70): LAUNCH_EXIT, then the MAINLINE detectors by index, then TRAP_ARRIVAL. -/
def ReportReading.detectors (shown : Detector → Shown × Nat) (k : Nat) (s : State) : State :=
  let own : List Detector := s.detectors.filter fun d => d.station == k
  let ofKind (c : DetectorKind) : List Detector := own.filter fun d => d.kind == c
  let mainline : List Detector := s.index.filterMap fun n => own.find? fun d => d.num == n
  (ofKind .launchExit ++ mainline ++ ofKind .trapArrival).foldl (ReportReading.detector shown s) s

/-! ### Responses and frames -/

/-- The port flags of a response to a request taken in s whose action left t (R167, R170, R171). -/
def flagsFor (s t : State) : Byte :=
  portFlags s.port.overrun (s.port.discard || s.port.held.isSome) t.alertPending t.notePending

/-- t holds the response to a request taken in s (R166, R167): busy no, read position 0, both marks clear, and SDO driven
with zero bytes alone. -/
def Answered (s t : State) (st : Status) (data : List Byte) : Prop :=
  t.port = { busy := false, held := some (responseFrame st (flagsFor s t) data), readPosition := 0, overrun := false,
             discard := false, sdo := [] }

/-- The command is answered with a status and data, and P holds of the state it leaves. -/
def Answers (c : Instr) (s : State) (st : Status) (data : List Byte) (P : State → Prop) : Prop :=
  ∃ t, exec c s = .next t ∧ Answered s t st data ∧ P t

/-- The command is answered with a status and no data, and changes nothing outside the port. -/
def AnswersOnly (c : Instr) (s : State) (st : Status) : Prop := Answers c s st [] fun t => t = { s with port := t.port }

/-- A request's checks, in order (R167): the first that fails is answered and changes nothing outside the port; where
none fails, what the request then does holds. -/
def Checked (c : Instr) (s : State) : List (Prop × Status) → Prop → Prop
  | [], act => act
  | p :: l, act => (p.1 → AnswersOnly c s p.2) ∧ (¬ p.1 → Checked c s l act)

/-- The command leads to a next state of which P holds. -/
def LeadsTo (c : Instr) (s : State) (P : State → Prop) : Prop := ∃ t, exec c s = .next t ∧ P t

/-- A request: a command that has a request frame (R189). -/
def isRequest (c : Instr) : Bool := (encodeRequest c).isSome

/-- Two states agree on every part that a change of a record, handed on by R29, cannot reach. -/
def SameBesidesRecords (s t : State) : Prop :=
  t = { s with stations := t.stations, detectors := t.detectors, valves := t.valves, pigs := t.pigs, train := t.train,
               revision := t.revision, attention := t.attention, port := t.port }

/-- A change of a record found this TRIPPED latching detector due, so that it joins its station's re-arm set (R97): it awaits
a record that has changed, and t is the state after the change. -/
def Rearmed (changed : Nat → Prop) (t : State) (d : Detector) : Prop :=
  d.latching = true ∧ d.state = .tripped ∧ t.rearmDue d = true ∧ ∃ u, changed u ∧ d.awaited = some u

/-- Between s and t the detectors have done nothing but join their re-arm sets, each that a change of a record found due. -/
def OnlyRearmed (changed : Nat → Prop) (s t : State) : Prop :=
  ∀ d ∈ s.detectors, t.detector d.num = some d ∨
    (Rearmed changed t d ∧ t.detector d.num = some { d with inRearmSet := true })

/-- A station's receive, if it has one, stands at a re-examination (R29): its deadline is not reached (R136), it waits on no
clearance gate that is open (R135), and its closing records are those of the moment (R138). -/
def ReceiveStands (s : State) (k : Nat) : Prop :=
  (s.slotOf k).kind = some .receive →
    s.deadlineReached k = false ∧ ((s.slotOf k).state = .waitClearance → s.clearanceOpen k = false) ∧
      ((s.slotOf k).watching = true → (s.slotOf k).closing = s.closingNow k)

/-- Every record but one keeps its position (R88). -/
def OthersStand (s t : State) (tag : Nat) : Prop := ∀ u, u ≠ tag → t.pigPos u = s.pigPos u

/-- A position lies in a segment that names a meter (R1, R9, R58): from a station's position up to the next station's, the
last segment taking in line end. -/
def inSegmentOf (s : State) (m x : Nat) : Bool :=
  (s.stations.zip s.stations.tail).any fun p => decide (p.1.segmentMeter = some m) && decide (p.1.position ≤ x) &&
    (decide (x < p.2.position) || (decide (x = p.2.position) && decide (s.stations.getLast? = some p.2)))

/-- The pass of a meter's release (R58, R62), of a line whose stations rise in position: a release of 0 is not applied; of one
above 0, the records of the train that stand in the meter's segments at the start each advance, head to tail, and every
other record stands. -/
def Pass (s t : State) (m release : Nat) : Prop :=
  (s.stations.map Station.position).Pairwise (· < ·) →
    let members := s.train.filter fun u => inSegmentOf s m (s.pigPos u)
    t = (if release = 0 then s else members.foldl (fun u tag => u.advance release tag) s) ∧
      ∀ u, u ∉ members → t.pigPos u = s.pigPos u

/-- A record has come into the train at an entry position by a fix (R24, R34, R82 to R85): it stands behind the members at or
ahead of that position, at the position itself or at line end where that is nearer, with the fields of the fix; no other
record has moved. -/
def JoinedByFix (s t : State) (p : Pig) (entry : Nat) (e : Evidence) : Prop :=
  let place := min entry s.lineEnd
  (∃ pointer overdue struck, t.pig p.tag = some
    { p with
      state := .inLine, position := place, residue := 0, fixPosition := some e.place, fixKind := some e.kind
      fixDetector := e.detector, fixTime := some s.clock, pointer := pointer, overdue := overdue, misses := 0
      flags := { clamped := false, early := false, valveStrike := p.flags.valveStrike || struck,
                 destinationPassed := decide (s.stationPos p.destination < place),
                 endOfLine := decide (place = s.lineEnd), fixClamped := decide (place ≠ entry), changed := true } } ∧
    ((∀ d ∈ s.detectors, s.stationBlind d.station = false) → pointer = e.pointer)) ∧
  t.train = s.membersAhead entry ++ p.tag :: s.membersBehind entry ∧ t.revision = (s.revision + 1) % 256 ∧
    OthersStand s t p.tag ∧ SameBesidesRecords s t

/-- An alert cause is set (R181). -/
def State.alertSet (s : State) (c : AlertCause) : Bool := s.attention.alerts.getLsbD c.ctorIdx

/-- A sticky note cause is set (R182). -/
def State.noteSet (s : State) (c : NoteCause) : Bool := s.attention.notes.getLsbD c.ctorIdx

/-- The arbiter's count, which goes round from the last-served station, reaches a no later than b (R164). -/
def noLater (last : Option Nat) (a b : Nat) : Prop :=
  match last with
  | none => a ≤ b
  | some n => (n < a ∧ (a ≤ b ∨ b ≤ n)) ∨ (a ≤ n ∧ b ≤ n ∧ a ≤ b)

/-- The arbiter's choice (R164): by fairness, else the first hot station, else the first cold one. -/
def Chosen (s : State) (x : Station) : Prop :=
  x ∈ s.polled ∧
    ((s.params.fairness ≤ x.link.pollWait ∧
        ∀ y ∈ s.polled, y.link.pollWait < x.link.pollWait ∨ (y.link.pollWait = x.link.pollWait ∧ x.num ≤ y.num)) ∨
      ((∀ y ∈ s.polled, y.link.pollWait < s.params.fairness) ∧
        ((s.hot x = true ∧
            ∀ y ∈ s.polled, s.hot y = true → noLater s.link.lastServed x.num y.num) ∨
          ((∀ y ∈ s.polled, s.hot y = false) ∧
            ∀ y ∈ s.polled, noLater s.link.lastServed x.num y.num))))

/-- A sequence has left its forward steps with a cause: its tail runs or waits, or has ended (R146, R147). -/
def Slot.inTailOrEnded (x : Slot) (cause : SeqOutcome) : Prop :=
  ((x.state = .restoring ∨ x.state = .paused) ∧ x.cause = some cause) ∨
    (x.state = .idle ∧ (x.lastOutcome = some cause ∨ x.lastOutcome = some .restoreFailed))

/-- A receive has begun at a station for a record (R128, R134, R136): past the deadline it has ended NOT_READY, with its
receiver not secure it has ended NOT_SECURE, and otherwise it stands at RX2, its command queued, or PAUSED there under
LINE_TRIP. -/
def ReceiveBegun (s t : State) (x : Station) (p : Pig) (barred : Option Nat) : Prop :=
  let reached := (s.holdFront p).any fun f => decide (x.position ≤ f + x.tuning.approach)
  let ended (o : SeqOutcome) : Prop :=
    t.slotOf x.num = { Slot.idle with lastOutcome := some o, barred := some p.tag } ∧
      (t.station x.num).map Station.fault = some (some
        { outcome := o, cause := o, kind := .receive, tag := p.tag, failStep := some .rx1, failValve := none,
          restore := none, unrestored := [], time := s.clock }) ∧
      t.alertSet .sequenceFailed = true ∧ t.noteSet .sequenceDone = true
  let running : Slot :=
    { Slot.idle with kind := some .receive, state := .stepping, bound := some p.tag, step := some .rx2,
                     lastOutcome := x.slot.lastOutcome, barred := barred }
  if reached then ended .notReady ∧ t.alertSet .notReady = true
  else if s.receiverSecure x.num = false then ended .notSecure
  else if s.lineTrip then
    t.slotOf x.num = { running with state := .paused, pauseCause := some .trip, resume := some .rx2 }
  else
    t.slotOf x.num = running ∧
      ∃ v, s.roleValve x.num .receiveInlet = some v ∧
        (t.valve v.num).bind Valve.command = some (Command.fresh .toOpen .sequence s.clock) ∧
        (t.station x.num).map Station.queue = some (x.queue ++ [v.num])

end Sys2Proof.Machine
end

