-- ==== Sys2Proof/WellFormed.lean ====
section
/-! DEFINITION. Which terms of Instr stand for something that can reach the part. A request's fields may hold any
value: the part itself refuses the bad ones (R172). What is checked here is what makes a command the row it is: the
selector byte that tells two rows of one request code apart, the framing of the two port rows, the range of an item's
number in a timed step, and a report taken whole (R191). -/

namespace Sys2Proof

/-- The check of one command; a command that fails it stands for nothing that reaches the part. -/
def Instr.wellFormed : Instr → Bool
  | .meterStale m => decide (m ≤ 15)
  | .strokeTimeout v => decide (v ≤ 47)
  | .deliveryLimitExpiry v => decide (v ≤ 47)
  | .confirmationLapse d => decide (d ≤ 63)
  | .holdLapsed k => decide (1 ≤ k ∧ k ≤ 24)
  | .launchTimeout k => decide (1 ≤ k ∧ k ≤ 24)
  | .arrivalTimeout k => decide (1 ≤ k ∧ k ≤ 24)
  | .pauseLapsed k => decide (1 ≤ k ∧ k ≤ 24)
  | .autoReceiveStart k => decide (1 ≤ k ∧ k ≤ 24)
  | .report frame => reportWhole frame
  | .badLength frame => decide (framing frame = .badLength)
  | .unknownRequest frame => decide (framing frame = .unknown)
  | .readResponse n => decide (1 ≤ n)
  | .defineStationDefine f => decide (f.form ≠ 1)
  | .defineStationTune f => decide (f.form = 1)
  | .defineValveDefine f => decide (f.form ≠ 1)
  | .defineValveTune f => decide (f.form = 1)
  | .defineMeterDefine f => decide (f.form ≠ 1)
  | .defineMeterTune f => decide (f.form = 1)
  | .setDetectorServiceOut _ v _ => decide (v = 1)
  | .setDetectorServiceIn _ v _ => decide (v ≠ 1)
  | .powerOn _ => true
  | .lineTripAsserted => true
  | .lineTripReleased => true
  | .lineClockSecond => true
  | .replyTimeout => true
  | .pollSlotStart => true
  | .requestFrameOverrun => true
  | .defineDetector _ => true
  | .setSegmentMeter _ _ _ => true
  | .setProfile _ => true
  | .setLineParameters _ => true
  | .commitLine _ => true
  | .openLine _ => true
  | .clearLine _ => true
  | .readLineStatus _ => true
  | .setStationService _ _ _ => true
  | .rebaseMeter _ _ => true
  | .setValvePermit _ _ _ => true
  | .launch _ => true
  | .declarePig _ => true
  | .amendPig _ => true
  | .fixPig _ => true
  | .declareLost _ _ => true
  | .retirePig _ _ => true
  | .readPig _ _ => true
  | .listTrain _ _ => true
  | .listAll _ => true
  | .armReceive _ _ => true
  | .pauseSequence _ _ => true
  | .continueSequence _ _ => true
  | .abortSequence _ _ => true
  | .clearTrapFault _ _ => true
  | .commandValve _ _ _ => true
  | .withdrawValveCommand _ _ => true
  | .readStation _ _ => true
  | .readDetector _ _ => true
  | .readValve _ _ => true
  | .readMeter _ _ => true
  | .readAttention _ => true
  | .ackAlert _ => true
  | .setAttentionMasks _ => true
  | .linkReset _ => true
  | .restart _ => true

end Sys2Proof
end

