-- ==== Sys2Proof/Certificates/Slice0/Obligations.lean ====
section
/-! DEFINITION. The statements for the provers, each a proposition. OBLIGATIONS.json lists them with what each rests on.
Where a docstring says "the model's choice", it names the log entry of notes/assumptions/. -/

section

open Sys2Proof Sys2Proof.Machine

/-! ### The queue, frames and the port -/

/-- Taking the front command of the queue is the model's choice (notes/assumptions/1.md): a step runs it on the state with
the queue's rest, and an empty queue idles. -/
def Obligations.StepRunsTheFrontCommand : Prop :=
  ∀ (c : Instr) (s : State),
    step { s with pending := c :: s.pending } = exec c s ∧
      step { s with pending := [] } = .next { s with pending := [] }

/-- R166, R189: the frame of every well-formed request, whatever bytes follow it in the assertion, is taken as that
request. -/
def Obligations.RequestFramesDecodeBack : Prop :=
  ∀ (i : Instr) (frame extra : List Byte),
    i.wellFormed = true → encodeFrame i = some frame → decodeFrame (frame ++ extra) = some i

/-- R166, R167 step 3: what the bytes of one assertion amount to, by the first byte, the number of bytes that follow it
and the code. That a read carries the number of bytes clocked is the model's choice (notes/assumptions/10.md). -/
def Obligations.FramingFollowsTheFirstBytes : Prop :=
  decodeFrame [] = none ∧
    ∀ (n : Byte) (rest : List Byte),
      (n = 0 → decodeFrame (n :: rest) = some (.readResponse (rest.length + 1))) ∧
      (64 ≤ n.toNat → decodeFrame (n :: rest) = some (.badLength (n :: rest))) ∧
      (1 ≤ n.toNat → n.toNat ≤ 63 → rest.length < n.toNat → decodeFrame (n :: rest) = some (.badLength (n :: rest))) ∧
      (∀ (code : Byte) (more : List Byte), rest = code :: more → 1 ≤ n.toNat → n.toNat ≤ 63 → n.toNat ≤ rest.length →
        (requestLength code.toNat = none → decodeFrame (n :: rest) = some (.unknownRequest (n :: rest))) ∧
        (∀ k, requestLength code.toNat = some k → k ≠ n.toNat →
          decodeFrame (n :: rest) = some (.badLength (n :: rest))) ∧
        (requestLength code.toNat = some n.toNat →
          ∃ i, decodeFrame (n :: rest) = some i ∧ i.wellFormed = true ∧
            encodeFrame i = some (n :: rest.take n.toNat)))

/-- R167, R170, R171: every request but RESTART is answered in one step, whatever its fields and the state: the port holds
the response, with the port flags, and both marks are clear; a refusal carries no data but the pair of COMMIT_FAULT. During
the request's assertion SDO is driven with zero bytes (R166). -/
def Obligations.EveryRequestIsAnswered : Prop :=
  ∀ (c : Instr) (s : State), isRequest c = true → (∀ r, c ≠ .restart r) →
    ∃ (st : Status) (data : List Byte), Answers c s st data (fun _ => True) ∧
      (16 ≤ st.code → data = [] ∨ st = .commitFault) ∧ LeadsTo c s fun t => ∀ i, t.port.sdoByte i = 0

/-- R167 and 9.3: a request answered with a refusing status changes no state outside the port, but that COMMIT_FAULT
records the commit fault record. -/
def Obligations.RefusedRequestsChangeNothing : Prop :=
  ∀ (c : Instr) (s t : State) (st : Status) (data : List Byte),
    isRequest c = true → exec c s = .next t → Answered s t st data → 16 ≤ st.code →
      t = { s with port := t.port } ∨ (st = .commitFault ∧ t = { s with port := t.port, commitFault := t.commitFault })

/-- R166 to R170: the port's own commands. A frame discarded while busy leaves the port busy with the request in hand, whose
taking has dropped a response held unread and set the discard mark, and sets the overrun mark; the two port checks answer
with the status alone; a read sends the held response from its first byte, and consumes it if it was clocked out whole.
That a read's operand counts bytes and that busy stands from an overrun to the next request are the model's choices
(notes/assumptions/9.md and 10.md). -/
def Obligations.PortCommandsActOnThePortAlone : Prop :=
  ∀ (s : State) (frame : List Byte) (n : Nat),
    exec .requestFrameOverrun s = .next { s with port :=
      { busy := true, held := none, readPosition := 0, overrun := true, discard := s.port.discard || s.port.held.isSome,
        sdo := [] } } ∧
    AnswersOnly (.badLength frame) s .badLength ∧
    AnswersOnly (.unknownRequest frame) s .unknownRequest ∧
    (s.port.busy = true ∨ s.port.held = none →
      exec (.readResponse n) s = .next { s with port := { s.port with sdo := List.replicate n 0 } }) ∧
    (∀ f, s.port.busy = false → s.port.held = some f →
      (n < f.length →
        exec (.readResponse n) s = .next { s with port := { s.port with readPosition := 0, sdo := f.take n } }) ∧
      (f.length ≤ n →
        exec (.readResponse n) s = .next { s with port :=
          { s.port with held := none, readPosition := 0, sdo := f ++ List.replicate (n - f.length) 0 } }))

/-! ### Invariants -/

/-- R2, R5 to R7, R28: every step keeps each table in strictly rising number, so that no number and no tag stands twice. -/
def Obligations.TablesStayInOrder : Prop :=
  ∀ s t : State, TablesRise s → step s = .next t → TablesRise t

/-- R20, R28, R48, R178: every step keeps residues within 0 to 999, slips within 0 to 250, tags within 1 to 65,535, at most
32 live records, the train revision within 0 to 255 and the Line Clock within 32 bits. -/
def Obligations.PigBoundsHold : Prop :=
  ∀ s t : State, PigBounds s → step s = .next t → PigBounds t

/-- R22, R23, R47: every step keeps the Train List: the tracked records, once each, in positions that never increase from
head to tail and never pass line end; and, where the line is as COMMIT_LINE's checks 2 and 3 have passed it, no record of
the train stands below line start. -/
def Obligations.TrainStaysInOrder : Prop :=
  ∀ s t : State, TablesRise s → TrainInOrder s → step s = .next t →
    TrainInOrder t ∧ (NothingBelowStart s → NothingBelowStart t)

/-- R119, R120, R121: after every step each mainline valve's counted records are those whose hold interval then meets its
zone, less the one bound to its own station's sequence. -/
def Obligations.HoldsStayExact : Prop :=
  ∀ s t : State, TablesRise s → TrainInOrder s → HoldsExact s → step s = .next t → HoldsExact t

/-- R122: after every step a valve is struck exactly while it is a MAINLINE valve whose hold is active and whose debounced
state is CLOSED, MOVING or FAULT. -/
def Obligations.StrikesStayExact : Prop :=
  ∀ s t : State, TablesRise s → StrikesExact s → step s = .next t → StrikesExact t

/-- R49: every step keeps a meter's provisional volume at zero unless the meter is EXTRAPOLATING or STALE. -/
def Obligations.ProvisionalVolumeNeedsAnOutage : Prop :=
  ∀ s t : State, TablesRise s → ProvisionalOnlyInOutage s → step s = .next t → ProvisionalOnlyInOutage t

/-- R95: every step keeps a detector out of the re-arm set unless it is TRIPPED. -/
def Obligations.RearmSetHoldsTripped : Prop :=
  ∀ s t : State, TablesRise s → RearmOnlyTripped s → step s = .next t → RearmOnlyTripped t

/-- R107: every step keeps each station's queue to QUEUED commands of the station's own valves. -/
def Obligations.QueuesStayQueued : Prop :=
  ∀ s t : State, TablesRise s → QueuesHoldQueued s → step s = .next t → QueuesHoldQueued t

/-- R19, R47, R48: the state after reset meets every invariant above. -/
def Obligations.ResetMeetsTheInvariants : Prop :=
  TablesRise State.reset ∧ PigBounds State.reset ∧ TrainInOrder State.reset ∧ NothingBelowStart State.reset ∧
    HoldsExact State.reset ∧
    StrikesExact State.reset ∧ ProvisionalOnlyInOutage State.reset ∧ RearmOnlyTripped State.reset ∧
    QueuesHoldQueued State.reset

/-! ### The whole machine -/

/-- R110, R117: the part sends no CLOSE to a valve that is held, whose permit is off, or whose station's last accepted report
did not show REMOTE: a poll slot that begins with a CLOSE carried has it for a QUEUED command with close permission, of a
valve not CLOSED already. -/
def Obligations.NoCloseGoesOutUnpermitted : Prop :=
  ∀ (s t : State) (sl : PollSlot) (v : Nat) (y : Valve) (c : Command),
    TablesRise s → QueuesHoldQueued s → s.link.slot = none → exec .pollSlotStart s = .next t →
      t.link.slot = some sl → sl.item = .valve v → t.valve v = some y → y.command = some c → c.target = .toClose →
        y.held = false ∧ y.permit = true ∧ t.remoteShown y.station = true ∧ y.debounced ≠ .closed ∧
          c.phase = .queued ∧ c.carried = true

/-- R48: the Line Clock moves only at a Line Clock second, by one and saturating, and at power-on and RESTART, to 0. -/
def Obligations.ClockMovesOnlyAtSeconds : Prop :=
  ∀ (c : Instr) (s t : State), exec c s = .next t →
    (c = .lineClockSecond ∧ t.clock = min (s.clock + 1) 4294967295) ∨
      ((∃ rate, c = .powerOn rate) ∧ t.clock = 0) ∨
      (∃ r, c = .restart r ∧ t.clock = if r = 0 then 0 else s.clock) ∨
      ((c ≠ .lineClockSecond ∧ (∀ rate, c ≠ .powerOn rate) ∧ ∀ r, c ≠ .restart r) ∧ t.clock = s.clock)

/-- R181, R187, R188: an alert cause once set stays set through every command but an acknowledgement that names it, power-on
and RESTART. -/
def Obligations.AlertsStandUntilAcknowledged : Prop :=
  ∀ (c : Instr) (s t : State) (a : AlertCause), exec c s = .next t → s.alertSet a = true →
    t.alertSet a = true ∨ (∃ f, c = .ackAlert f ∧ f.alerts.getLsbD a.ctorIdx = true) ∨ (∃ rate, c = .powerOn rate) ∨
      ∃ r, c = .restart r

/-! ### Building the line -/

/-- R2: the DEFINE form of DEFINE_STATION, its checks in order, and the station it adds, blank but for its definition
(what the running part of a new station holds is the model's choice, notes/assumptions/23.md). Reserved flag bits are
those of 11.1. That a form byte other than 0 and 1 is answered by this row is the model's choice too
(notes/assumptions/13.md): the TUNE row would answer it BAD_FIELD in READY. -/
def Obligations.StationIsDefined : Prop :=
  ∀ (s : State) (f : StationFrame), f.form ≠ 1 →
    let autoReceive := f.flags.getLsbD 3
    let hasReceiver := f.flags.getLsbD 1
    let approach := min f.approach.toNat 2000000
    let lead := max approach (min f.lead.toNat 4000000)
    let clamped := 500000 < f.guardVol.toNat ∨ 2000000 < f.approach.toNat ∨ lead ≠ f.lead.toNat ∨
      2000000 < f.clearance.toNat ∨ f.exitTimeout.toNat < 10 ∨ 3600 < f.exitTimeout.toNat ∨
      f.arrivalTimeout.toNat < 10 ∨ 7200 < f.arrivalTimeout.toNat ∨ 3600 < f.pauseLimit.toNat
    Checked (.defineStationDefine f) s
      [(s.lineState = .ready, .configLocked),
       (f.form ≠ 0 ∨ f.station.toNat < 1 ∨ 24 < f.station.toNat ∨ f.address.toNat < 1 ∨ 31 < f.address.toNat ∨
          4000000000 < f.position.toNat ∨ 7 < f.replyCode.toNat ∨ f.reserved ≠ 0 ∨ 32 ≤ f.flags.toNat, .badField),
       (autoReceive = true ∧ hasReceiver = false, .badField),
       (∃ x ∈ s.stations, x.num = f.station.toNat ∨ x.address = f.address.toNat, .existing)]
      (Answers (.defineStationDefine f) s (if clamped then .okClamped else .ok) [] fun t =>
        t = { s with port := t.port, stations := t.stations } ∧
          t.stations = insertByKey Station.num
            { num := f.station.toNat, address := f.address.toNat, position := f.position.toNat,
              hasLauncher := f.flags.getLsbD 0, hasReceiver := hasReceiver,
              service := if f.flags.getLsbD 2 then .outOfService else .inService,
              tuning :=
                { guardVol := min f.guardVol.toNat 500000, approach := approach, lead := lead,
                  clearance := min f.clearance.toNat 2000000, exitTimeout := max 10 (min f.exitTimeout.toNat 3600),
                  arrivalTimeout := max 10 (min f.arrivalTimeout.toNat 7200),
                  pauseLimit := min f.pauseLimit.toNat 3600, autoReceive := autoReceive,
                  policy := if f.flags.getLsbD 4 then .refuse else .queue, replyCode := f.replyCode.toNat },
              segmentMeter := none, link := LinkRecord.hostOut, queue := [], slot := Slot.idle, trapFault := false,
              fault := none, changed := false } s.stations)

/-- R5: DEFINE_DETECTOR, its checks in order, and the detector it adds. The running part of a new detector is the model's
choice (notes/assumptions/23.md), and so is the place, at check 2, of a latching byte above 1, which 9.3 and 11.1 refuse
(notes/assumptions/12.md). -/
def Obligations.DetectorIsDefined : Prop :=
  ∀ (s : State) (f : DetectorFrame),
    let kind : DetectorKind := if f.kind.toNat = 0 then .mainline else if f.kind.toNat = 1 then .launchExit else .trapArrival
    let owner (P : Station → Bool) : Bool := (s.station f.station.toNat).any P
    Checked (.defineDetector f) s
      [(s.lineState = .ready, .configLocked),
       (63 < f.detector.toNat ∨ f.station.toNat < 1 ∨ 24 < f.station.toNat ∨ 5 < f.slot.toNat ∨ 2 < f.kind.toNat ∨
          3 < f.profile.toNat ∨ (f.kind.toNat = 0 ∧ 4000000000 < f.position.toNat) ∨
          (f.kind.toNat ≠ 0 ∧ f.position ≠ 0) ∨ 1 < f.latching.toNat ∨ f.reserved ≠ 0, .badField),
       (s.station f.station.toNat = none, .noSuch),
       ((kind = .launchExit ∧ owner Station.hasLauncher = false) ∨
          (kind = .trapArrival ∧ owner Station.hasReceiver = false), .badField),
       (∃ d ∈ s.detectors, d.num = f.detector.toNat ∨ (d.station = f.station.toNat ∧ d.slot = f.slot.toNat) ∨
          (d.station = f.station.toNat ∧ kind ≠ .mainline ∧ d.kind = kind), .existing)]
      (Answers (.defineDetector f) s (if 200000 < f.rearmVolume.toNat then .okClamped else .ok) [] fun t =>
        t = { s with port := t.port, detectors := t.detectors } ∧
          t.detectors = insertByKey Detector.num
            { num := f.detector.toNat, station := f.station.toNat, slot := f.slot.toNat, kind := kind,
              position := f.position.toNat, latching := decide (f.latching = 1), profile := f.profile.toNat,
              rearmVolume := min f.rearmVolume.toNat 200000, state := .unknown, awaited := none, inRearmSet := false,
              confirmStart := none, confirmCount := 0, spurious := 0, suspect := false, lastMatched := none } s.detectors)

/-- R6, R7: the DEFINE forms of DEFINE_VALVE and DEFINE_METER, their checks in order, and what they add. The running parts of
a new valve and a new meter are the model's choice (notes/assumptions/23.md), and so is that these rows answer a form byte
other than 0 and 1 (notes/assumptions/13.md). -/
def Obligations.ValvesAndMetersAreDefined : Prop :=
  ∀ (s : State) (f : ValveFrame) (g : MeterFrame), f.form ≠ 1 → g.form ≠ 1 →
    let role : Role :=
      if f.role.toNat = 0 then .mainline else if f.role.toNat = 1 then .launchOutlet
      else if f.role.toNat = 2 then .launchKicker else .receiveInlet
    let owner (P : Station → Bool) : Bool := (s.station f.station.toNat).any P
    Checked (.defineValveDefine f) s
      [(s.lineState = .ready, .configLocked),
       (f.form ≠ 0 ∨ 47 < f.valve.toNat ∨ f.station.toNat < 1 ∨ 24 < f.station.toNat ∨ 3 < f.role.toNat ∨
          (f.role.toNat = 0 ∧ 4000000000 < f.position.toNat) ∨
          (f.role.toNat ≠ 0 ∧ (f.position ≠ 0 ∨ f.guardVol ≠ 0)) ∨ f.reserved ≠ 0, .badField),
       (s.station f.station.toNat = none, .noSuch),
       (((role = .launchOutlet ∨ role = .launchKicker) ∧ owner Station.hasLauncher = false) ∨
          (role = .receiveInlet ∧ owner Station.hasReceiver = false), .badField),
       (∃ v ∈ s.valves, v.num = f.valve.toNat ∨ (v.station = f.station.toNat ∧ v.role = role), .existing)]
      (Answers (.defineValveDefine f) s
        (if 500000 < f.guardVol.toNat ∨ f.strokeTimeout.toNat < 5 ∨ 900 < f.strokeTimeout.toNat then .okClamped else .ok)
        [] fun t =>
          t = { s with port := t.port, valves := t.valves } ∧
            t.valves = insertByKey Valve.num
              { num := f.valve.toNat, station := f.station.toNat, role := role, position := f.position.toNat,
                guardVol := min f.guardVol.toNat 500000, strokeTimeout := max 5 (min f.strokeTimeout.toNat 900),
                debounced := .unknown, pendingReport := none, command := none, lastOutcome := none, permit := true,
                holders := [], struck := false } s.valves) ∧
    Checked (.defineMeterDefine g) s
      [(s.lineState = .ready, .configLocked),
       (g.form ≠ 0 ∨ 15 < g.meter.toNat ∨ g.station.toNat < 1 ∨ 24 < g.station.toNat ∨ g.reserved ≠ 0, .badField),
       (s.station g.station.toNat = none, .noSuch),
       (∃ m ∈ s.meters, m.num = g.meter.toNat ∨ m.station = g.station.toNat, .existing)]
      (Answers (.defineMeterDefine g) s (if g.maxRate = 0 ∨ 600 < g.holdTime.toNat then .okClamped else .ok) [] fun t =>
        t = { s with port := t.port, meters := t.meters } ∧
          t.meters = insertByKey Meter.num
            { num := g.meter.toNat, station := g.station.toNat, maxRate := max 1 g.maxRate.toNat,
              holdTime := min g.holdTime.toNat 600, state := .baselinePending, totalizer := none, baseTime := none,
              rate := 0, provisional := 0, debt := 0, implausible := 0, extrapolated := 0 } s.meters)

/-- R3, R4: the TUNE form of DEFINE_STATION, its checks in order; it replaces the ten tuning fields of the named station
together, clamped, and of every station's definition nothing else. In UNCONFIGURED nothing else changes; in READY the
sequencer re-examines the station, which moves no record. -/
def Obligations.StationIsTuned : Prop :=
  ∀ (s : State) (f : StationFrame), f.form = 1 →
    let approach := min f.approach.toNat 2000000
    let lead := max approach (min f.lead.toNat 4000000)
    let clamped := 500000 < f.guardVol.toNat ∨ 2000000 < f.approach.toNat ∨ lead ≠ f.lead.toNat ∨
      2000000 < f.clearance.toNat ∨ f.exitTimeout.toNat < 10 ∨ 3600 < f.exitTimeout.toNat ∨
      f.arrivalTimeout.toNat < 10 ∨ 7200 < f.arrivalTimeout.toNat ∨ 3600 < f.pauseLimit.toNat
    let tuned : Tuning :=
      { guardVol := min f.guardVol.toNat 500000, approach := approach, lead := lead,
        clearance := min f.clearance.toNat 2000000, exitTimeout := max 10 (min f.exitTimeout.toNat 3600),
        arrivalTimeout := max 10 (min f.arrivalTimeout.toNat 7200), pauseLimit := min f.pauseLimit.toNat 3600,
        autoReceive := f.flags.getLsbD 3, policy := if f.flags.getLsbD 4 then .refuse else .queue,
        replyCode := f.replyCode.toNat }
    let after := s.stations.map fun x => if x.num = f.station.toNat then { x with tuning := tuned } else x
    let definition (x : Station) := (x.num, x.address, x.position, x.hasLauncher, x.hasReceiver, x.service, x.tuning,
      x.segmentMeter)
    Checked (.defineStationTune f) s
      [(f.station.toNat < 1 ∨ 24 < f.station.toNat ∨ 7 < f.replyCode.toNat ∨ f.reserved ≠ 0 ∨ 32 ≤ f.flags.toNat,
          .badField),
       (s.station f.station.toNat = none, .noSuch),
       (f.flags.getLsbD 3 = true ∧ (s.station f.station.toNat).any Station.hasReceiver = false, .badField)]
      (Answers (.defineStationTune f) s (if clamped then .okClamped else .ok) [] fun t =>
        (s.lineState = .unconfigured → t = { s with port := t.port, stations := after }) ∧
          t.stations.map definition = after.map definition ∧ SameBesidesRecords s t ∧ t.train = s.train ∧
            ∀ u, t.pigPos u = s.pigPos u)

/-- R8: the TUNE forms of DEFINE_VALVE and DEFINE_METER, their checks in order, and the fields they replace. A meter's new
tuning changes nothing else; nor does a valve's in UNCONFIGURED. In READY the valve's hold is at once the one its new zone
gives, where it was exact before. -/
def Obligations.ValvesAndMetersAreTuned : Prop :=
  ∀ (s : State) (f : ValveFrame) (g : MeterFrame), f.form = 1 → g.form = 1 →
    Checked (.defineValveTune f) s
      [(47 < f.valve.toNat ∨ f.reserved ≠ 0, .badField),
       (s.valve f.valve.toNat = none, .noSuch),
       ((s.valve f.valve.toNat).any (fun v => decide (v.role ≠ .mainline)) = true ∧ f.guardVol ≠ 0, .badField)]
      (Answers (.defineValveTune f) s
        (if 500000 < f.guardVol.toNat ∨ f.strokeTimeout.toNat < 5 ∨ 900 < f.strokeTimeout.toNat then .okClamped else .ok)
        [] fun t =>
          let after := s.valves.map fun v => if v.num = f.valve.toNat then
            { v with guardVol := min f.guardVol.toNat 500000, strokeTimeout := max 5 (min f.strokeTimeout.toNat 900) }
            else v
          let definition (v : Valve) := (v.num, v.station, v.role, v.position, v.guardVol, v.strokeTimeout, v.permit,
            v.debounced)
          (s.lineState = .unconfigured → t = { s with port := t.port, valves := after }) ∧
            t.valves.map definition = after.map definition ∧ SameBesidesRecords s t ∧ t.train = s.train ∧
              (TablesRise s → TrainInOrder s → HoldsExact s → HoldsExact t)) ∧
    Checked (.defineMeterTune g) s
      [(15 < g.meter.toNat ∨ g.reserved ≠ 0, .badField), (s.meter g.meter.toNat = none, .noSuch)]
      (Answers (.defineMeterTune g) s (if g.maxRate = 0 ∨ 600 < g.holdTime.toNat then .okClamped else .ok) [] fun t =>
        t = { s with port := t.port, meters := s.meters.map fun m => if m.num = g.meter.toNat then
          { m with maxRate := max 1 g.maxRate.toNat, holdTime := min g.holdTime.toNat 600 } else m })

/-- R9: SET_SEGMENT_METER, its checks in order, and the entry it sets or makes absent. -/
def Obligations.SegmentMeterIsSet : Prop :=
  ∀ (s : State) (station meter reserved : Byte),
    Checked (.setSegmentMeter station meter reserved) s
      [(s.lineState = .ready, .configLocked),
       (station.toNat < 1 ∨ 24 < station.toNat ∨ (15 < meter.toNat ∧ meter.toNat ≠ 255) ∨ reserved ≠ 0, .badField),
       (s.station station.toNat = none ∨ (meter.toNat ≠ 255 ∧ s.meter meter.toNat = none), .noSuch)]
      (Answers (.setSegmentMeter station meter reserved) s .ok [] fun t =>
        t = { s with port := t.port, stations := s.stations.map fun x => if x.num = station.toNat then
          { x with segmentMeter := if meter.toNat = 255 then none else some meter.toNat } else x })

/-- R10, R11: SET_PROFILE and SET_LINE_PARAMETERS: their one check, the values they store, clamped, and that neither moves
a record or changes the train. In UNCONFIGURED nothing else changes; in READY the holds are at once those the new values
give, where they were exact before. -/
def Obligations.ProfilesAndParametersAreStored : Prop :=
  ∀ (s : State) (f : ProfileFrame) (g : ParametersFrame),
    let base := min f.base.toNat 65535
    let cap := max base (min f.cap.toNat 1000000)
    let profiles := s.profiles.set f.profile.toNat { base := base, growth := min f.growth.toNat 200, cap := cap }
    let params : Parameters :=
      { spacing := min g.spacing.toNat 100000, holdProfile := g.holdProfile.toNat,
        lostHalfWidth := min g.lostHalfWidth.toNat 1000000, deliveryLimit := max 5 (min g.deliveryLimit.toNat 600),
        silenceLimit := max 1 (min g.silenceLimit.toNat 15), fairness := max 2 (min g.fairness.toNat 24),
        holdWaitLimit := min g.holdWaitLimit.toNat 3600,
        learningSpan := max 1000 (min g.learningSpan.toNat 10000000) }
    let quiet (t : State) : Prop := t.train = s.train ∧ (∀ u, t.pigPos u = s.pigPos u) ∧
      (TablesRise s → TrainInOrder s → HoldsExact s → HoldsExact t)
    Checked (.setProfile f) s [(3 < f.profile.toNat ∨ f.reserved ≠ 0, .badField)]
      (Answers (.setProfile f) s
        (if 65535 < f.base.toNat ∨ 200 < f.growth.toNat ∨ cap ≠ f.cap.toNat then .okClamped else .ok) [] fun t =>
          (s.lineState = .unconfigured → t = { s with port := t.port, profiles := profiles }) ∧
            SameBesidesRecords { s with profiles := profiles } t ∧ quiet t) ∧
    Checked (.setLineParameters g) s [(3 < g.holdProfile.toNat ∨ g.reserved ≠ 0, .badField)]
      (Answers (.setLineParameters g) s
        (if 100000 < g.spacing.toNat ∨ 1000000 < g.lostHalfWidth.toNat ∨ g.deliveryLimit.toNat < 5 ∨
            600 < g.deliveryLimit.toNat ∨ g.silenceLimit.toNat < 1 ∨ 15 < g.silenceLimit.toNat ∨ g.fairness.toNat < 2 ∨
            24 < g.fairness.toNat ∨ 3600 < g.holdWaitLimit.toNat ∨ g.learningSpan.toNat < 1000 ∨
            10000000 < g.learningSpan.toNat then .okClamped else .ok) [] fun t =>
          (s.lineState = .unconfigured → t = { s with port := t.port, params := params }) ∧
            SameBesidesRecords { s with params := params } t ∧ quiet t)

/-- R14 to R16, R152: COMMIT_LINE. Where an item fails one of the seven checks of R14's table, the first failing item of the
first failing check is answered and recorded, and nothing else changes; where no item fails any, the line enters READY
with the entry states, its MAINLINE detectors indexed in rising position. The model's choices are that COMMIT_LINE
looks at the Line State before its reserved field (notes/assumptions/12.md) and that it empties the list of due expiries
(notes/assumptions/4.md). -/
def Obligations.CommitSetsTheEntryStates : Prop :=
  ∀ (s : State) (reserved : Byte), TablesRise s →
    let noValve (x : Station) (r : Role) : Prop := ∀ v ∈ s.valves, v.station = x.num → v.role ≠ r
    let noDetector (x : Station) (c : DetectorKind) : Prop := ∀ d ∈ s.detectors, d.station = x.num → d.kind ≠ c
    let fails (check item : Nat) : Prop :=
      (check = 1 ∧ s.stations.length < 2 ∧ item = s.stations.length) ∨
      (check = 2 ∧ ∃ p ∈ s.stations.zip s.stations.tail, p.2.position ≤ p.1.position ∧ item = p.2.num) ∨
      (check = 3 ∧ ∃ d ∈ s.detectors, d.kind = .mainline ∧ item = d.num ∧
        (d.position < s.lineStart ∨ s.lineEnd < d.position ∨
          ∃ e ∈ s.detectors, e.kind = .mainline ∧ e.num < d.num ∧ e.position = d.position)) ∨
      (check = 4 ∧ ∃ x ∈ s.stations.dropLast, x.segmentMeter = none ∧ item = x.num) ∨
      (check = 5 ∧ ∃ x ∈ s.stations, x.hasLauncher = true ∧ item = x.num ∧
        (noValve x .launchOutlet ∨ noValve x .launchKicker ∨ noValve x .mainline ∨ noDetector x .launchExit)) ∨
      (check = 6 ∧ ∃ x ∈ s.stations, x.hasReceiver = true ∧ item = x.num ∧
        (noValve x .receiveInlet ∨ noValve x .mainline ∨ noDetector x .trapArrival)) ∨
      (check = 7 ∧ ∃ v ∈ s.valves, v.role = .mainline ∧ item = v.num ∧
        (v.position < s.lineStart ∨ s.lineEnd < v.position))
    Checked (.commitLine reserved) s [(s.lineState = .ready, .wrongState), (reserved ≠ 0, .badField)]
      ((∀ check item, fails check item →
          (∀ c i, fails c i → check < c ∨ (check = c ∧ item ≤ i)) →
            Answers (.commitLine reserved) s .commitFault [BitVec.ofNat 8 check, BitVec.ofNat 8 item] fun t =>
              t = { s with port := t.port, commitFault := some (check, item) }) ∧
        ((∀ check item, ¬ fails check item) →
            Answers (.commitLine reserved) s .ok [BitVec.ofNat 8 (s.detectors.filter fun d => d.kind = .mainline).length]
              fun t =>
              t = { s with
                port := t.port, lineState := .ready, commitFault := none, index := t.index, due := []
                link := { s.link with lastServed := none, slot := none }
                stations := s.stations.map fun x =>
                  { x with link := if x.service = .inService then LinkRecord.proving else LinkRecord.hostOut, queue := [],
                           slot := Slot.idle, changed := true }
                detectors := s.detectors.map fun d =>
                  { d with state := .unknown, awaited := none, inRearmSet := false, confirmStart := none,
                           confirmCount := 0, spurious := 0, suspect := false, lastMatched := none }
                valves := s.valves.map fun v =>
                  { v with debounced := .unknown, pendingReport := none, command := none, lastOutcome := none,
                           permit := true, holders := [], struck := false }
                meters := s.meters.map fun m =>
                  { m with state := .baselinePending, totalizer := none, baseTime := none, rate := 0, provisional := 0,
                           debt := 0, implausible := 0, extrapolated := 0 } } ∧
              t.index.Perm ((s.detectors.filter fun d => d.kind = .mainline).map Detector.num) ∧
              t.index.Pairwise fun a b =>
                ((t.detector a).map Detector.position).getD 0 < ((t.detector b).map Detector.position).getD 0))

/-- R17, R18: OPEN_LINE and CLEAR_LINE. OPEN_LINE is refused while a record is live, a slot is not IDLE or a command is
outstanding; taken in READY it stops polling and empties the re-arm sets, and the definitions stay. CLEAR_LINE deletes the
definitions, and with them the fault records, and the commit fault record. The model's choices are that OPEN_LINE leaves
every running part as it was (notes/assumptions/23.md), frees the link at once (notes/assumptions/16.md) and empties the
list of due expiries (notes/assumptions/4.md), and the place of the reserved field among the checks
(notes/assumptions/12.md). -/
def Obligations.LineIsOpenedAndCleared : Prop :=
  ∀ (s : State) (reserved : Byte),
    Checked (.openLine reserved) s
      [(reserved ≠ 0, .badField),
       (s.lineState = .ready ∧ (s.pigs ≠ [] ∨ (∃ x ∈ s.stations, x.slot.state ≠ .idle) ∨
          ∃ v ∈ s.valves, v.command ≠ none), .configLocked)]
      ((s.lineState = .unconfigured → AnswersOnly (.openLine reserved) s .ok) ∧
        (s.lineState = .ready → Answers (.openLine reserved) s .ok [] fun t =>
          t = { s with port := t.port, lineState := .unconfigured, link := { s.link with slot := none }, due := [],
                       detectors := s.detectors.map fun d => { d with inRearmSet := false } })) ∧
    Checked (.clearLine reserved) s [(s.lineState = .ready, .configLocked), (reserved ≠ 0, .badField)]
      (Answers (.clearLine reserved) s .ok [] fun t =>
        t = { s with port := t.port, stations := [], detectors := [], valves := [], meters := [], commitFault := none,
                     index := [] })

/-! ### Reads -/

/-- R173, R174, R176, R179, R186: the reads that change nothing, their checks in order; each answers OK with the data built
from the state as it stands (their layout rests on notes/assumptions/11.md). -/
def Obligations.ReadsChangeNothing : Prop :=
  ∀ (s : State) (n r : Byte),
    let reads (c : Instr) (data : List Byte) := Answers c s .ok data fun t => t = { s with port := t.port }
    Checked (.readLineStatus r) s [(r ≠ 0, .badField)] (reads (.readLineStatus r) s.lineStatusData) ∧
    Checked (.readDetector n r) s [(63 < n.toNat ∨ r ≠ 0, .badField), (s.detector n.toNat = none, .noSuch)]
      (∀ d, s.detector n.toNat = some d → reads (.readDetector n r) (s.detectorData d)) ∧
    Checked (.readValve n r) s [(47 < n.toNat ∨ r ≠ 0, .badField), (s.valve n.toNat = none, .noSuch)]
      (∀ v, s.valve n.toNat = some v → reads (.readValve n r) (s.valveData v)) ∧
    Checked (.readMeter n r) s [(15 < n.toNat ∨ r ≠ 0, .badField), (s.meter n.toNat = none, .noSuch)]
      (∀ m, s.meter n.toNat = some m → reads (.readMeter n r) (s.meterData m)) ∧
    Checked (.readAttention r) s [(r ≠ 0, .badField)] (reads (.readAttention r) s.attentionData) ∧
    Checked (.listTrain n r) s [(31 < n.toNat ∨ r ≠ 0, .badField)] (reads (.listTrain n r) (s.trainData n.toNat)) ∧
    Checked (.listAll r) s [(r ≠ 0, .badField)] (reads (.listAll r) s.allData)

/-- R174, R175, R177, R183, R184: READ_STATION and READ_PIG, their checks in order; each shows the changed flag as it stood
and clears it, and changes nothing else. The layout of the data, and that READ_STATION shows the changed flag last, are the
model's choice (notes/assumptions/11.md). -/
def Obligations.ReadsClearTheirChangedFlag : Prop :=
  ∀ (s : State) (k r : Byte) (tag : BitVec 16),
    Checked (.readStation k r) s
      [(k.toNat < 1 ∨ 24 < k.toNat ∨ r ≠ 0, .badField), (s.station k.toNat = none, .noSuch)]
      (∀ x, s.station k.toNat = some x → Answers (.readStation k r) s .ok (s.stationData x) fun t =>
        t = { s with port := t.port, stations := s.stations.map fun y =>
          if y.num = k.toNat then { y with changed := false } else y }) ∧
    Checked (.readPig tag r) s [(tag = 0 ∨ r ≠ 0, .badField), (s.pig tag.toNat = none, .noSuch)]
      (∀ p, s.pig tag.toNat = some p → Answers (.readPig tag r) s .ok (s.pigData p) fun t =>
        t = { s with port := t.port, pigs := s.pigs.map fun q =>
          if q.tag = tag.toNat then { q with flags := { q.flags with changed := false } } else q })

/-! ### Service -/

/-- R161, R162: SET_STATION_SERVICE, its checks in order. In UNCONFIGURED it writes the service request alone. In READY, IN
takes a station that is OUT to PROVING, its record fresh, and leaves another as it is; OUT takes a station to OUT with
cause HOST, and an OUT station's cause becomes HOST. No record moves. -/
def Obligations.StationServiceMovesTheStation : Prop :=
  ∀ (s : State) (k value r : Byte),
    let asked : Service := if value = 1 then .outOfService else .inService
    let written := s.stations.map fun x => if x.num = k.toNat then { x with service := asked } else x
    Checked (.setStationService k value r) s
      [(k.toNat < 1 ∨ 24 < k.toNat ∨ 1 < value.toNat ∨ r ≠ 0, .badField),
       (s.station k.toNat = none, .noSuch),
       (s.lineState = .ready ∧ (s.slotOf k.toNat).state ≠ .idle, .seqActive)]
      (∀ x, s.station k.toNat = some x → Answers (.setStationService k value r) s .ok [] fun t =>
        (s.lineState = .unconfigured → t = { s with port := t.port, stations := written }) ∧
        (s.lineState = .ready → value = 0 → x.link.state ≠ .out →
          t = { s with port := t.port, stations := written }) ∧
        (s.lineState = .ready → value = 0 → x.link.state = .out →
          (t.station k.toNat).map Station.link = some LinkRecord.proving ∧
            t = { s with port := t.port, stations := t.stations }) ∧
        (s.lineState = .ready → value = 1 →
          (t.station k.toNat).map (fun y => (y.link, y.service)) =
            some ({ x.link with state := .out, outCause := some .host }, .outOfService) ∧
          (TablesRise s → QueuesHoldQueued s → x.link.state ≠ .out → (t.station k.toNat).map Station.queue = some []) ∧
          ∀ u, t.pigPos u = s.pigPos u) ∧
        t.train = s.train)

/-- R101, R102: SET_DETECTOR_SERVICE OUT and IN, their checks in order and their effect on the detector; OUT on a detector
that is OUT changes nothing. A service value that is neither is refused with BAD_FIELD; which of the two rows answers it
is the model's choice (notes/assumptions/13.md). -/
def Obligations.DetectorServiceSetsTheDetector : Prop :=
  ∀ (s : State) (d value r : Byte),
    let sets (c : Instr) (f : Detector → Detector) (x : Detector) :=
      Answers c s .ok [] fun t =>
        t = { s with port := t.port, detectors := s.detectors.map fun y => if y.num = d.toNat then f y else y,
                     stations := t.stations } ∧
          t.stations = if f x = x then s.stations else (s.touch x.station).stations
    Checked (.setDetectorServiceOut d value r) s
      [(s.lineState = .unconfigured, .notConfigured),
       (63 < d.toNat ∨ value ≠ 1 ∨ r ≠ 0, .badField),
       (s.detector d.toNat = none, .noSuch)]
      (∀ x, s.detector d.toNat = some x → sets (.setDetectorServiceOut d value r) (fun y =>
        if y.state = .out then y
        else { y with state := .out, inRearmSet := false, confirmStart := none, confirmCount := 0 }) x) ∧
    Checked (.setDetectorServiceIn d value r) s
      [(s.lineState = .unconfigured, .notConfigured),
       (63 < d.toNat ∨ value ≠ 0 ∨ r ≠ 0, .badField),
       (s.detector d.toNat = none, .noSuch)]
      (∀ x, s.detector d.toNat = some x → sets (.setDetectorServiceIn d value r) (fun y =>
        { y with state := if y.state = .out then .unknown else y.state, spurious := 0, suspect := false }) x)

/-- R57: REBASE_METER, its checks in order and the record it leaves; the station's changed flag is set, and nothing else
changes. -/
def Obligations.RebasedMeterAwaitsItsBaseline : Prop :=
  ∀ (s : State) (m r : Byte),
    Checked (.rebaseMeter m r) s
      [(s.lineState = .unconfigured, .notConfigured), (15 < m.toNat ∨ r ≠ 0, .badField),
       (s.meter m.toNat = none, .noSuch)]
      (∀ x, s.meter m.toNat = some x → Answers (.rebaseMeter m r) s .ok [] fun t =>
        t = { s with
          port := t.port
          meters := s.meters.map fun y => if y.num = m.toNat then
            { y with state := .baselinePending, totalizer := none, baseTime := none, rate := 0, provisional := 0, debt := 0,
                     implausible := 0, extrapolated := 0 } else y
          stations := s.stations.map fun y => if y.num = x.station then { y with changed := true } else y })

/-- R118: SET_VALVE_PERMIT, its checks in order; it sets the permit, and the station's changed flag if the value changed,
and nothing else. -/
def Obligations.ValvePermitIsSet : Prop :=
  ∀ (s : State) (v value r : Byte),
    Checked (.setValvePermit v value r) s
      [(s.lineState = .unconfigured, .notConfigured),
       (47 < v.toNat ∨ 1 < value.toNat ∨ r ≠ 0, .badField),
       (s.valve v.toNat = none, .noSuch)]
      (∀ x, s.valve v.toNat = some x → Answers (.setValvePermit v value r) s .ok [] fun t =>
        t = { s with
          port := t.port
          valves := s.valves.map fun y => if y.num = v.toNat then { y with permit := decide (value = 0) } else y
          stations := s.stations.map fun y =>
            if y.num = x.station ∧ x.permit ≠ decide (value = 0) then { y with changed := true } else y })

/-! ### Pig requests -/

/-- R29, R31 to R33, R97, R127, R130: LAUNCH, its thirteen checks in order. Taken, it creates or reuses the STAGED record and
starts the launch: with the launcher not secure the sequence has ended NOT_SECURE and the record is LAUNCH_FAILED; with it
secure the outlet's OPEN is queued at L2, or, under LINE_TRIP, the slot is PAUSED there (R145). The record's new state is
handed on (R29): a TRIPPED latching detector that awaits it and is due joins its re-arm set (R97), and besides the launching
station only one with such a detector, or whose receive the re-examination moves on, may change. The current step L2 of that
PAUSED slot is the model's choice (notes/assumptions/18.md), and so is the place, at check 2, of a learning byte above 1,
which 9.3 and 11.1 refuse (notes/assumptions/12.md). -/
def Obligations.LaunchStartsItsSequence : Prop :=
  ∀ (s : State) (f : LaunchFrame),
    let tag := f.tag.toNat
    let k := f.launch.toNat
    let e := f.destination.toNat
    let reused := (s.pig tag).any fun p => decide (p.state = .launchFailed ∧ p.launchStation = some k)
    let record : Pig :=
      { tag := tag, state := .staged, launchStation := some k, destination := e, position := s.stationPos k, residue := 0,
        slip := min f.slip.toNat 250, learning := decide (f.learning = 1), fixPosition := none, fixKind := none,
        fixDetector := none, fixTime := none, pointer := none, overdue := false, misses := 0,
        flags := { PigFlags.clear with changed := true }, launchTime := s.clock }
    Checked (.launch f) s
      [(s.lineState = .unconfigured, .notConfigured),
       (f.tag = 0 ∨ k < 1 ∨ 24 < k ∨ e < 1 ∨ 24 < e ∨ 1 < f.learning.toNat ∨ f.reserved ≠ 0, .badField),
       (s.station k = none ∨ s.station e = none, .noSuch),
       ((s.station k).any Station.hasLauncher = false ∨ (s.station e).any Station.hasReceiver = false ∨
          s.stationPos e ≤ s.stationPos k, .badField),
       (s.pig tag ≠ none ∧ reused = false, .existing),
       (s.linkStateOf k = .silent, .silent),
       (s.linkStateOf k = .out ∨ s.linkStateOf k = .proving, .wrongState),
       ((s.station k).any Station.trapFault = true, .trapFault),
       ((s.slotOf k).state ≠ .idle, .seqActive),
       (∃ p ∈ s.pigs, p.state = .launchFailed ∧ p.launchStation = some k ∧ p.tag ≠ tag, .trapOccupied),
       (∃ v ∈ s.valves, v.station = k ∧ v.command ≠ none, .busyValve),
       (32 ≤ s.pigs.length ∧ reused = false, .full),
       (∃ p ∈ s.pigs, (s.holdInterval p).any (fun iv => (s.station k).any fun x =>
          decide (iv.1 ≤ x.position + x.tuning.guardVol ∧ x.position - x.tuning.guardVol ≤ iv.2)) = true, .guard)]
      (TablesRise s → ∀ x, s.station k = some x →
        Answers (.launch f) s (if 250 < f.slip.toNat then .okClamped else .ok) [] fun t =>
          (∃ q, t.pig tag = some q ∧
            { q with state := .staged, position := record.position, residue := 0, fixPosition := none, fixKind := none,
                     fixDetector := none, fixTime := none, pointer := none, overdue := false } = record ∧
            (reused = false → q = { record with state := q.state }) ∧
            q.state = if s.launcherSecure k then .staged else .launchFailed) ∧
          (∀ u, u ≠ tag → t.pigPos u = s.pigPos u) ∧
          (s.launcherSecure k = false →
            t.slotOf k = { Slot.idle with lastOutcome := some .notSecure, barred := x.slot.barred } ∧
              (t.station k).map Station.fault = some (some
                { outcome := .notSecure, cause := .notSecure, kind := .launch, tag := tag, failStep := some .l1,
                  failValve := none, restore := none, unrestored := [], time := s.clock }) ∧
              t.alertSet .sequenceFailed = true ∧ t.noteSet .sequenceDone = true) ∧
          (s.launcherSecure k = true →
            let running : Slot :=
              { Slot.idle with kind := some .launch, state := .stepping, bound := some tag, step := some .l2,
                               lastOutcome := x.slot.lastOutcome, barred := x.slot.barred }
            (s.lineTrip = true →
              t.slotOf k = { running with state := .paused, pauseCause := some .trip, resume := some .l2 }) ∧
            (s.lineTrip = false → t.slotOf k = running ∧
              ∃ v, s.roleValve k .launchOutlet = some v ∧
                (t.valve v.num).bind Valve.command = some (Command.fresh .toOpen .sequence s.clock) ∧
                (t.station k).map Station.queue = some (x.queue ++ [v.num]))) ∧
          SameBesidesRecords s t ∧ t.train = s.train ∧
          (∀ d ∈ s.detectors, (Rearmed (· = tag) t d → t.detector d.num = some { d with inRearmSet := true }) ∧
            (¬ Rearmed (· = tag) t d → t.detector d.num = some d)) ∧
          (TrainInOrder s → ∀ y ∈ s.stations, y.num ≠ k → (∀ d ∈ s.detectors, d.station = y.num → ¬ Rearmed (· = tag) t d) →
            y.slot.bound ≠ some tag → ReceiveStands s y.num → t.station y.num = some y))

/-- R24, R36, R37: DECLARE_PIG, its checks in order, the IN_LINE record it creates and the place it takes in the train. Of
the record's flags only VALVE_STRIKE may be set besides CHANGED, by a strike at once. The place, at check 2, of a learning
byte above 1, which 9.3 and 11.1 refuse, is the model's choice (notes/assumptions/12.md). -/
def Obligations.DeclaredPigJoinsTheTrain : Prop :=
  ∀ (s : State) (f : DeclareFrame),
    let tag := f.tag.toNat
    let x := f.position.toNat
    let e := f.destination.toNat
    Checked (.declarePig f) s
      [(s.lineState = .unconfigured, .notConfigured),
       (f.tag = 0 ∨ x < s.lineStart ∨ s.lineEnd < x ∨ e < 1 ∨ 24 < e ∨ 1 < f.learning.toNat ∨ f.reserved ≠ 0, .badField),
       (s.station e = none, .noSuch),
       ((s.station e).any Station.hasReceiver = false ∨ s.stationPos e ≤ x, .badField),
       (s.pig tag ≠ none, .existing),
       (32 ≤ s.pigs.length, .full)]
      (Answers (.declarePig f) s (if 250 < f.slip.toNat then .okClamped else .ok) [] fun t =>
        (∃ struck, t.pig tag = some
          { tag := tag, state := .inLine, launchStation := none, destination := e, position := x, residue := 0,
            slip := min f.slip.toNat 250, learning := decide (f.learning = 1), fixPosition := some x,
            fixKind := some .manual, fixDetector := none, fixTime := some s.clock, pointer := s.firstBeyond x,
            overdue := false, misses := 0,
            flags := { PigFlags.clear with changed := true, valveStrike := struck }, launchTime := s.clock }) ∧
        t.train = s.membersAhead x ++ tag :: s.membersBehind x ∧ t.revision = (s.revision + 1) % 256 ∧
        OthersStand s t tag ∧ SameBesidesRecords s t)

/-- R39, R40, R129: AMEND_PIG, its checks in order; it replaces the present parts and sets CHANGED, a destination part clears
DESTINATION_PASSED and unbars the tag, and nothing else changes. The place, at check 2, of reserved part bits, of the values
of absent parts and of a learning byte above 1, which 9.3 and 11.1 refuse, is the model's choice
(notes/assumptions/12.md). -/
def Obligations.AmendReplacesThePresentParts : Prop :=
  ∀ (s : State) (f : AmendFrame), TablesRise s →
    let tag := f.tag.toNat
    let e := f.destination.toNat
    let slip := f.parts.getLsbD 0
    let learning := f.parts.getLsbD 1
    let destination := f.parts.getLsbD 2
    let from_ := (s.pig tag).map fun p => if p.state = .staged ∨ p.state = .launchFailed then
      s.stationPos (p.launchStation.getD 0) else p.position
    Checked (.amendPig f) s
      [(s.lineState = .unconfigured, .notConfigured),
       (f.tag = 0 ∨ f.parts = 0 ∨ 8 ≤ f.parts.toNat ∨ (slip = false ∧ f.slip ≠ 0) ∨ (learning = false ∧ f.learning ≠ 0) ∨
          (destination = false ∧ f.destination ≠ 0) ∨ 1 < f.learning.toNat ∨
          (destination = true ∧ (e < 1 ∨ 24 < e)) ∨ f.reserved ≠ 0, .badField),
       (s.pig tag = none ∨ (destination = true ∧ s.station e = none), .noSuch),
       (destination = true ∧ (s.pig tag).any (fun p => decide (p.state = .trapped)) = true, .wrongState),
       (destination = true ∧ (s.boundStation tag).any (fun k => decide ((s.slotOf k).kind = some .receive)) = true,
          .seqActive),
       (destination = true ∧ ((s.station e).any Station.hasReceiver = false ∨
          (from_.any fun x => decide (s.stationPos e ≤ x)) = true), .badField),
       (destination = true ∧ (s.slotOf e).state ≠ .idle ∧ (s.slotOf e).kind = some .receive ∧
          (s.slotOf e).bound ≠ some tag, .seqActive)]
      (Answers (.amendPig f) s (if slip = true ∧ 250 < f.slip.toNat then .okClamped else .ok) [] fun t =>
        t = { s with
          port := t.port
          pigs := s.pigs.map fun p => if p.tag = tag then
            { p with slip := if slip then min f.slip.toNat 250 else p.slip
                     learning := if learning then decide (f.learning = 1) else p.learning
                     destination := if destination then e else p.destination
                     flags := { p.flags with changed := true,
                                             destinationPassed := p.flags.destinationPassed && !destination } } else p
          stations := s.stations.map fun y => if destination = true ∧ y.slot.barred = some tag then
            { y with slot := { y.slot with barred := none }, changed := true } else y })

/-- R86, R87: FIX_PIG, its checks in order. The record, joined to the train at X if it was LOST, takes the position X clamped
between its neighbours and the fields of a manual fix; the data give that position. -/
def Obligations.ManualFixPlacesTheRecord : Prop :=
  ∀ (s : State) (f : FixFrame), TablesRise s → TrainInOrder s →
    let tag := f.tag.toNat
    let x := f.position.toNat
    Checked (.fixPig f) s
      [(s.lineState = .unconfigured, .notConfigured),
       (f.tag = 0 ∨ x < s.lineStart ∨ s.lineEnd < x ∨ f.reserved ≠ 0, .badField),
       (s.pig tag = none, .noSuch),
       ((s.pig tag).any (fun p => decide (p.state = .staged ∨ p.state = .trapped ∨ p.state = .launchFailed)) = true,
          .wrongState)]
      (∀ p, s.pig tag = some p →
        let lost := decide (p.state = .lost)
        let train := if lost then s.membersAhead x ++ tag :: s.membersBehind x else s.train
        let place := if lost then x else
          max (((behindOf s.train tag).map s.pigPos).getD 0) (min x (((aheadOf s.train tag).map s.pigPos).getD s.lineEnd))
        Answers (.fixPig f) s (if place = x then .ok else .okClamped)
          [BitVec.ofNat 8 (place / 16777216), BitVec.ofNat 8 (place / 65536), BitVec.ofNat 8 (place / 256),
            BitVec.ofNat 8 place] fun t =>
          (∃ struck, t.pig tag = some
            { p with
              state := .inLine, position := place, residue := 0, fixPosition := some place, fixKind := some .manual,
              fixDetector := none, fixTime := some s.clock, pointer := s.firstBeyond place, overdue := false, misses := 0
              flags := { clamped := false, early := false, valveStrike := p.flags.valveStrike || struck,
                         destinationPassed := decide (s.stationPos p.destination < place),
                         endOfLine := decide (place = s.lineEnd), fixClamped := decide (place ≠ x), changed := true } }) ∧
          t.train = train ∧ (t.revision = if lost then (s.revision + 1) % 256 else s.revision) ∧
          OthersStand s t tag ∧ SameBesidesRecords s t)

/-- R25, R27, R41: DECLARE_LOST, its checks in order. A LOST record is left as it is; a tracked one leaves the train and is
frozen where it stands, its residue 0, its pointer absent and overdue-pending no, and alert PIG_LOST is raised. -/
def Obligations.DeclaredLostLeavesTheTrain : Prop :=
  ∀ (s : State) (tag : BitVec 16) (r : Byte),
    let u := tag.toNat
    let lost := (s.pig u).any fun p => decide (p.state = .lost)
    Checked (.declareLost tag r) s
      [(s.lineState = .unconfigured, .notConfigured),
       (tag = 0 ∨ r ≠ 0, .badField),
       (s.pig u = none, .noSuch),
       ((s.pig u).any (fun p => decide (p.state = .staged ∨ p.state = .trapped ∨ p.state = .launchFailed)) = true,
          .wrongState)]
      ((lost = true → AnswersOnly (.declareLost tag r) s .ok) ∧
        (lost = false → ∀ p, s.pig u = some p → Answers (.declareLost tag r) s .ok [] fun t =>
          (∃ struck, t.pig u = some
            { p with state := .lost, residue := 0, pointer := none, overdue := false
                     flags := { p.flags with changed := true, valveStrike := p.flags.valveStrike || struck } }) ∧
          t.train = s.train.filter (· ≠ u) ∧
          (t.revision = if u ∈ s.train then (s.revision + 1) % 256 else s.revision) ∧
          t.alertSet .pigLost = true ∧ OthersStand s t u ∧ SameBesidesRecords s t))

/-- R42, R43: RETIRE_PIG, its checks in order. The record is gone, no detector refers to it any more, a latching detector
that stood TRIPPED awaiting it is in the re-arm set, and so is the TRAP_ARRIVAL detector of a receiver it empties. -/
def Obligations.RetiredPigIsForgotten : Prop :=
  ∀ (s : State) (tag : BitVec 16) (r : Byte), TablesRise s →
    let u := tag.toNat
    let stateIn (states : List PigState) : Prop := (s.pig u).any (fun p => decide (p.state ∈ states)) = true
    Checked (.retirePig tag r) s
      [(s.lineState = .unconfigured, .notConfigured),
       (tag = 0 ∨ r ≠ 0, .badField),
       (s.pig u = none, .noSuch),
       (stateIn [.staged], .seqActive),
       (stateIn [.inLine, .unconfirmed], .wrongState),
       (stateIn [.trapped, .lost] ∧ s.boundStation u ≠ none, .seqActive)]
      (∀ p, s.pig u = some p → Answers (.retirePig tag r) s .ok [] fun t =>
        t.pig u = none ∧ t.pigs.map Pig.tag = (s.pigs.map Pig.tag).filter (· ≠ u) ∧
          (∀ d ∈ t.detectors, d.lastMatched ≠ some u ∧ d.awaited ≠ some u) ∧
          (∀ d ∈ s.detectors, d.latching = true → d.state = .tripped → d.awaited = some u →
            (t.detector d.num).any Detector.inRearmSet = true) ∧
          (p.state = .trapped → ∀ d, s.kindDetector p.destination .trapArrival = some d → d.latching = true →
            d.state = .tripped → (t.detector d.num).any Detector.inRearmSet = true) ∧
          (TrainInOrder s → HoldsExact s → HoldsExact t) ∧
          t.train = s.train ∧ t.revision = s.revision ∧ OthersStand s t u ∧ SameBesidesRecords s t)

/-! ### Sequences -/

/-- R128, R129, R134, R136, R145: a receive. ARM_RECEIVE, its checks in order, begins one at the record's destination and
unbars its tag; an automatic start begins one for the qualifying record with the greatest hold front, the lower tag
between equal fronts, and keeps the barred tag. A start whose condition does not hold is no event, which is the model's
choice (notes/assumptions/3.md), and so is the current step RX2 of a slot PAUSED there under LINE_TRIP
(notes/assumptions/18.md). -/
def Obligations.ReceiveBegins : Prop :=
  ∀ s : State, TablesRise s →
    (∀ (tag : BitVec 16) (r : Byte),
      let u := tag.toNat
      let k := ((s.pig u).map Pig.destination).getD 0
      Checked (.armReceive tag r) s
        [(s.lineState = .unconfigured, .notConfigured),
         (tag = 0 ∨ r ≠ 0, .badField),
         (s.pig u = none, .noSuch),
         ((s.pig u).any (fun p => decide (p.state = .staged ∨ p.state = .trapped ∨ p.state = .launchFailed)) = true,
            .wrongState),
         (s.linkStateOf k = .silent, .silent),
         (s.linkStateOf k = .out ∨ s.linkStateOf k = .proving, .wrongState),
         ((s.station k).any Station.trapFault = true, .trapFault),
         ((s.slotOf k).state ≠ .idle, .seqActive),
         (∃ q ∈ s.pigs, q.state = .trapped ∧ q.destination = k, .trapOccupied),
         (∃ v ∈ s.valves, v.station = k ∧ v.command ≠ none, .busyValve),
         ((s.boundStation u).any (fun j => decide ((s.slotOf j).kind = some .launch)) = true, .seqActive)]
        (∀ p x, s.pig u = some p → s.station k = some x → Answers (.armReceive tag r) s .ok [] fun t =>
          ReceiveBegun s t x p none ∧ t.train = s.train ∧ (∀ w, t.pigPos w = s.pigPos w) ∧ SameBesidesRecords s t)) ∧
    (∀ (x : Station) (p : Pig), s.station x.num = some x → p ∈ s.pigs → s.autoReady x = true →
      s.autoQualifies x p = true →
      (∀ q ∈ s.pigs, s.autoQualifies x q = true → ∀ f g, s.holdFront p = some f → s.holdFront q = some g →
        g < f ∨ (g = f ∧ p.tag ≤ q.tag)) →
      LeadsTo (.autoReceiveStart x.num) s fun t =>
        ReceiveBegun s t x p x.slot.barred ∧ t.train = s.train ∧ (∀ w, t.pigPos w = s.pigPos w) ∧
          SameBesidesRecords s t ∧ t.port = s.port) ∧
    (∀ k, (∀ x, s.station k = some x → s.autoReady x = false ∨ ∀ p ∈ s.pigs, s.autoQualifies x p = false) →
      exec (.autoReceiveStart k) s = .next s)

/-- R140, R141: PAUSE_SEQUENCE sets pause-pending HOST, once. CONTINUE_SEQUENCE clears a pending HOST pause, and takes a
PAUSED slot on at its resume point: a wait begins with its count at 0, and a valve step whose gates are open and whose
offer does not end at once is STEPPING, or RESTORING, with its command queued. Their checks in order. That a slot continued
at L4 or RX3 keeps its hold-wait count is the model's choice (notes/assumptions/18.md). Nothing is said here of a resume
point whose gate is shut or whose offer ends at once. -/
def Obligations.SequencesPauseAndContinue : Prop :=
  ∀ (s : State) (station r : Byte), TablesRise s →
    let k := station.toNat
    let x := s.slotOf k
    let first : List (Prop × Status) :=
      [(s.lineState = .unconfigured, .notConfigured), (k < 1 ∨ 24 < k ∨ r ≠ 0, .badField), (s.station k = none, .noSuch)]
    let withSlot (f : Slot → Slot) (l : List Station) : List Station :=
      l.map fun y => if y.num = k then { y with slot := f y.slot, changed := true } else y
    Checked (.pauseSequence station r) s (first ++ [(x.state = .idle ∨ x.state = .restoring, .wrongState)])
      ((x.state = .paused ∨ x.pausePending ≠ none → AnswersOnly (.pauseSequence station r) s .ok) ∧
        (x.state ≠ .paused → x.pausePending = none → Answers (.pauseSequence station r) s .ok [] fun t =>
          t = { s with port := t.port,
                       stations := withSlot (fun y => { y with pausePending := some .host }) s.stations })) ∧
    Checked (.continueSequence station r) s
      (first ++ [(s.lineTrip = true ∧ (x.state = .paused ∨ x.pausePending = some .trip), .tripped),
        (x.state ≠ .paused ∧ x.pausePending ≠ some .host, .wrongState)])
      ((x.state ≠ .paused → Answers (.continueSequence station r) s .ok [] fun t =>
          t = { s with port := t.port, stations := withSlot (fun y => { y with pausePending := none }) s.stations }) ∧
        (x.state = .paused → x.pausePending = none → s.deadlineReached k = false →
          (∀ p kind, x.resume = some p → x.kind = some kind → p ∈ forwardSteps kind → p.action = none →
            Answers (.continueSequence station r) s .ok [] fun t =>
              t.slotOf k = { x with state := .waitPassage, step := some p, resume := none, pauseCause := none,
                                    passage := 0 } ∧
                t = { s with port := t.port, stations := t.stations }) ∧
          (∀ p role target v, x.resume = some p → p.action = some (role, target) → s.roleValve k role = some v →
            s.offerEnds v target = none →
            ((∃ kind, x.kind = some kind ∧ p ∈ forwardSteps kind ∧ s.gate k p = none) ∨
              (p ∈ restoreSteps ∧ x.marks.get role = true)) →
            Answers (.continueSequence station r) s .ok [] fun t =>
              t.slotOf k = { x with state := if p ∈ restoreSteps then .restoring else .stepping, step := some p,
                                    resume := none, pauseCause := none } ∧
                (t.valve v.num).bind Valve.command = some (Command.fresh target .sequence s.clock) ∧
                (t.station k).map Station.queue = (s.station k).map (fun y => y.queue ++ [v.num]) ∧
                t = { s with port := t.port, stations := t.stations, valves := t.valves })))

/-- R142, R144, R146, R148: ABORT_SEQUENCE, its checks in order; a slot whose end is already under way is left as it is. In a
wait or PAUSED with no valve moved, the sequence has ended ABORTED: the slot is IDLE, the STAGED record of a launch is
LAUNCH_FAILED, note SEQUENCE_DONE is raised and the fault record stands. With a valve moved, the restore tail's first
command, in R146's order, is queued, or, under LINE_TRIP, the slot is PAUSED there (R145). A command carried or TRAVELLING is
waited for, with abort-pending ABORTED; one still waiting is WITHDRAWN at once. The current step and the failure step of a
PAUSED slot are the model's choice (notes/assumptions/18.md). -/
def Obligations.SequencesAbort : Prop :=
  ∀ (s : State) (station r : Byte), TablesRise s →
    let k := station.toNat
    let x := s.slotOf k
    let ended (t : State) : Prop :=
      t.slotOf k = { Slot.idle with lastOutcome := some .aborted,
                                    barred := if x.kind = some .receive then x.bound else x.barred } ∧
        (∀ tag p, x.bound = some tag → s.pig tag = some p → (t.pig tag).map Pig.state =
          some (if p.state = .staged ∧ x.kind = some .launch then .launchFailed else p.state)) ∧
        t.noteSet .sequenceDone = true ∧ (t.station k).map Station.fault = (s.station k).map Station.fault
    let stands (t : State) : Prop := t.train = s.train ∧ (∀ u, t.pigPos u = s.pigPos u) ∧ SameBesidesRecords s t
    Checked (.abortSequence station r) s
      [(s.lineState = .unconfigured, .notConfigured), (k < 1 ∨ 24 < k ∨ r ≠ 0, .badField),
       (s.station k = none, .noSuch), (x.state = .idle, .wrongState)]
      ((x.state = .restoring ∨ (x.state = .paused ∧ ∃ p ∈ restoreSteps, x.resume = some p) ∨ x.abortPending ≠ none →
          AnswersOnly (.abortSequence station r) s .ok) ∧
        (x.state ≠ .restoring → ¬(x.state = .paused ∧ ∃ p ∈ restoreSteps, x.resume = some p) → x.abortPending = none →
          x.exitInTail = false →
          (x.state ≠ .stepping → x.marks = Marks.clear → Answers (.abortSequence station r) s .ok [] fun t =>
            ended t ∧ stands t) ∧
          (∀ p role target marked v,
            ([(.restoreMainline, .mainline, .toOpen, x.marks.mainline),
              (.restoreKicker, .launchKicker, .toClose, x.marks.kicker),
              (.restoreInlet, .receiveInlet, .toClose, x.marks.inlet),
              (.restoreOutlet, .launchOutlet, .toClose, x.marks.outlet)] :
                List (SeqStep × Role × Target × Bool)).find? (fun e => e.2.2.2) = some (p, role, target, marked) →
            s.roleValve k role = some v → x.state ≠ .stepping →
            let tail : Slot :=
              { x with step := some p, cause := some .aborted, failStep := x.step, failValve := none, abortPending := none,
                       pausePending := none }
            (s.lineTrip = true → Answers (.abortSequence station r) s .ok [] fun t =>
              t.slotOf k = { tail with state := .paused, pauseCause := some .trip, resume := some p, pause := 0 } ∧
                t = { s with port := t.port, stations := t.stations }) ∧
            (s.lineTrip = false → x.pausePending ≠ some .trip → s.offerEnds v target = none →
              Answers (.abortSequence station r) s .ok [] fun t =>
                t.slotOf k = { tail with state := .restoring, pauseCause := none, resume := none } ∧
                  (t.valve v.num).bind Valve.command = some (Command.fresh target .sequence s.clock) ∧
                  (t.station k).map Station.queue = (s.station k).map (fun y => y.queue ++ [v.num]) ∧
                  t = { s with port := t.port, stations := t.stations, valves := t.valves })) ∧
          (∀ v c, x.state = .stepping → s.stepValve k = some v → v.command = some c →
            ((c.phase = .travelling ∨ c.carried = true) → Answers (.abortSequence station r) s .ok [] fun t =>
              t = { s with port := t.port, stations := s.stations.map fun y => if y.num = k then
                { y with slot := { y.slot with abortPending := some .aborted }, changed := true } else y }) ∧
            (c.phase = .queued → c.carried = false → x.marks = Marks.clear →
              Answers (.abortSequence station r) s .ok [] fun t =>
                ended t ∧ stands t ∧
                  (t.valve v.num).map (fun y => (y.command, y.lastOutcome)) = some (none, some .withdrawn)))))

/-- R151: CLEAR_TRAP_FAULT, its checks in order; a set flag becomes clear and the station's changed flag set, and the fault
record stays. -/
def Obligations.TrapFaultIsCleared : Prop :=
  ∀ (s : State) (station r : Byte),
    let k := station.toNat
    Checked (.clearTrapFault station r) s
      [(k < 1 ∨ 24 < k ∨ r ≠ 0, .badField), (s.station k = none, .noSuch),
       ((s.station k).any Station.trapFault = false, .ok)]
      (Answers (.clearTrapFault station r) s .ok [] fun t =>
        t = { s with port := t.port, stations := s.stations.map fun y =>
          if y.num = k then { y with trapFault := false, changed := true } else y })

/-! ### Valve requests -/

/-- R108, R109: COMMAND_VALVE, its ten checks in order. At its target already, the command ends ALREADY at once; otherwise
it is QUEUED at the tail of its station's queue. The data give the phase and, for ALREADY, the outcome. -/
def Obligations.HostCommandIsQueued : Prop :=
  ∀ (s : State) (v target r : Byte),
    let wanted : Target := if target = 0 then .toOpen else .toClose
    let there (y : Valve) : Bool :=
      decide (y.debounced = .opened ∧ wanted = .toOpen ∨ y.debounced = .closed ∧ wanted = .toClose)
    let found (P : Valve → Bool) : Prop := (s.valve v.toNat).any P = true
    let queued : Command :=
      { phase := .queued, target := wanted, origin := .host, queuedTime := s.clock, queuedCount := 0, carried := false,
        marks := [], strokeStart := none, strokeCount := 0 }
    Checked (.commandValve v target r) s
      [(s.lineState = .unconfigured, .notConfigured),
       (47 < v.toNat ∨ 1 < target.toNat ∨ r ≠ 0, .badField),
       (s.valve v.toNat = none, .noSuch),
       (s.lineTrip = true, .tripped),
       (found fun y => decide ((s.slotOf y.station).state ≠ .idle), .seqOwned),
       (found fun y => y.command.isSome, .busyValve),
       (found fun y => decide (s.linkStateOf y.station = .out), .wrongState),
       (found fun y => decide (s.linkStateOf y.station = .silent) &&
          (s.station y.station).any fun k => decide (k.tuning.policy = .refuse), .silent),
       (found fun y => decide (wanted = .toClose) && !there y && decide (y.holders ≠ []), .held),
       (found fun y => decide (wanted = .toClose) && !there y &&
          (!y.permit || !(s.station y.station).any fun k => k.link.remote), .inhibited)]
      (∀ y, s.valve v.toNat = some y →
        (there y = true → Answers (.commandValve v target r) s .ok [1, 0, 1] fun t =>
          t = { s with
            port := t.port
            valves := s.valves.map fun z => if z.num = v.toNat then
              { z with command := none, lastOutcome := some .already } else z
            stations := s.stations.map fun k => if k.num = y.station then
              { k with queue := k.queue.filter (· ≠ v.toNat), changed := true } else k }) ∧
        (there y = false → Answers (.commandValve v target r) s .ok [0, 1, 0] fun t =>
          t = { s with
            port := t.port
            valves := s.valves.map fun z => if z.num = v.toNat then
              { z with command := some queued } else z
            stations := s.stations.map fun k => if k.num = y.station then
              { k with queue := k.queue ++ [v.toNat] } else k }))

/-- R114, R116: WITHDRAW_VALVE_COMMAND, its checks in order; the command ends WITHDRAWN and leaves its queue. -/
def Obligations.HostCommandIsWithdrawn : Prop :=
  ∀ (s : State) (v r : Byte),
    let found (P : Valve → Bool) : Prop := (s.valve v.toNat).any P = true
    Checked (.withdrawValveCommand v r) s
      [(s.lineState = .unconfigured, .notConfigured),
       (47 < v.toNat ∨ r ≠ 0, .badField),
       (s.valve v.toNat = none, .noSuch),
       (found fun y => decide ((s.slotOf y.station).state ≠ .idle), .seqOwned),
       (found fun y => match y.command with
          | none => true
          | some c => decide (c.phase = .travelling) || c.carried, .wrongState)]
      (∀ y, s.valve v.toNat = some y → Answers (.withdrawValveCommand v r) s .ok [] fun t =>
        t = { s with
          port := t.port
          valves := s.valves.map fun z => if z.num = v.toNat then
            { z with command := none, lastOutcome := some .withdrawn } else z
          stations := s.stations.map fun k => if k.num = y.station then
            { k with queue := k.queue.filter (· ≠ v.toNat), changed := true } else k })

/-! ### Attention -/

/-- R185, R187, R190: ACK_ALERT clears the named causes and answers what is left; SET_ATTENTION_MASKS replaces all fifteen
masks; and the pins: ALERT_N is low exactly while a cause with a clear mask is set and the global alert mask is clear, and
NOTE_N likewise for the two sticky notes and the two that follow the changed flags. -/
def Obligations.AttentionFollowsCausesAndMasks : Prop :=
  ∀ (s : State) (f : AckFrame) (g : MasksFrame),
    let alerts := s.attention.alerts &&& ~~~(f.alerts.setWidth 9)
    let notes := s.attention.notes &&& ~~~(f.notes.setWidth 2)
    let changed : Nat := (if ∃ p ∈ s.pigs, p.flags.changed = true then 4 else 0) +
      (if ∃ x ∈ s.stations, x.changed = true then 8 else 0)
    Checked (.ackAlert f) s [(512 ≤ f.alerts.toNat ∨ 4 ≤ f.notes.toNat ∨ f.reserved ≠ 0, .badField)]
      (Answers (.ackAlert f) s .ok
        [BitVec.ofNat 8 (alerts.toNat / 256), BitVec.ofNat 8 alerts.toNat, BitVec.ofNat 8 (notes.toNat + changed)]
        fun t => t = { s with port := t.port, attention := { s.attention with alerts := alerts, notes := notes } }) ∧
    Checked (.setAttentionMasks g) s
      [(512 ≤ g.alerts.toNat ∨ 16 ≤ g.notes.toNat ∨ 4 ≤ g.globals.toNat ∨ g.reserved ≠ 0, .badField)]
      (Answers (.setAttentionMasks g) s .ok [] fun t =>
        t = { s with port := t.port, attention :=
          { s.attention with alertMasks := g.alerts.setWidth 9, noteMasks := g.notes.setWidth 4,
                             globalAlertMask := g.globals.getLsbD 0, globalNoteMask := g.globals.getLsbD 1 } }) ∧
    (s.alertLow = true ↔ s.attention.globalAlertMask = false ∧
      ∃ i, i < 9 ∧ s.attention.alerts.getLsbD i = true ∧ s.attention.alertMasks.getLsbD i = false) ∧
    (s.noteLow = true ↔ s.attention.globalNoteMask = false ∧
      ((∃ i, i < 2 ∧ s.attention.notes.getLsbD i = true ∧ s.attention.noteMasks.getLsbD i = false) ∨
        ((∃ p ∈ s.pigs, p.flags.changed = true) ∧ s.attention.noteMasks.getLsbD 2 = false) ∨
        ((∃ x ∈ s.stations, x.changed = true) ∧ s.attention.noteMasks.getLsbD 3 = false)))

/-! ### The Station Link -/

/-- R153, R155, R163, R164: a poll slot begins where the link is free, the line READY and a station not OUT, for the station
the arbiter chooses; the poll waits move, and the poll carries the head of the queue where it passes the tests of R110, or,
with the queue empty, the lowest-slot member of the re-arm set, or nothing. A head of the host's that fails a test ends
with that test's outcome and leaves the queue, and the next one is tested. Where a launch's own command fails its test and
the launch ends, the change of its STAGED record may take detectors that await it into their re-arm sets (R29, R97).
Otherwise no slot begins. -/
def Obligations.PollSlotGoesToTheChosenStation : Prop :=
  ∀ s : State,
    (s.lineState = .unconfigured ∨ s.link.slot ≠ none ∨ (∀ x ∈ s.stations, x.link.state = .out) →
      exec .pollSlotStart s = .next s) ∧
    (TablesRise s → s.lineState = .ready → s.link.slot = none → ∀ x, Chosen s x → LeadsTo .pollSlotStart s fun t =>
      let failsTest (y : Valve) (c : Command) : Option ValveOutcome :=
        if (y.debounced = .opened ∧ c.target = .toOpen) ∨ (y.debounced = .closed ∧ c.target = .toClose) then some .already
        else if c.target = .toClose ∧ y.holders ≠ [] then some .held
        else if c.target = .toClose ∧ (y.permit = false ∨ x.link.remote = false) then some .inhibited
        else none
      let failing (v : Nat) (o : ValveOutcome) : Prop :=
        ∃ y c, s.valve v = some y ∧ y.station = x.num ∧ y.command = some c ∧ c.origin = .host ∧ failsTest y c = some o
      t.link.lastServed = some x.num ∧
      (∀ y ∈ s.stations, (t.station y.num).map (fun z => z.link.pollWait) = some
        (if y.link.state = .out then y.link.pollWait else if y.num = x.num then 0 else min (y.link.pollWait + 1) 255)) ∧
      (∃ item, t.link.slot = some { station := x.num, item := item, timeout := 20 * 2 ^ x.tuning.replyCode,
                                    fate := .awaited } ∧
        (x.queue = [] →
          item = (match s.rearmHead x.num with | none => .nothing | some d => .rearm d.num) ∧
            t.link.txFrame = withCrc (match s.rearmHead x.num with
              | none => [BitVec.ofNat 8 x.address, 0, 0]
              | some d => [BitVec.ofNat 8 x.address, 3, BitVec.ofNat 8 d.slot]) ∧
            t.valves = s.valves) ∧
        (∀ v rest y c, x.queue = v :: rest → s.valve v = some y → y.command = some c → s.sendTest y c.target = none →
          item = .valve v ∧ (t.valve v).bind Valve.command = some { c with carried := true } ∧
            t.link.txFrame = withCrc [BitVec.ofNat 8 x.address, if c.target = .toOpen then 1 else 2,
              BitVec.ofNat 8 y.role.ctorIdx] ∧
            (t.station x.num).map Station.queue = some x.queue) ∧
        (∀ heads rest, x.queue = heads ++ rest → heads.length < 32 → (∀ v ∈ heads, ∃ o, failing v o) →
          (∀ w, rest.head? = some w →
            ∃ y c, s.valve w = some y ∧ y.station = x.num ∧ y.command = some c ∧ failsTest y c = none) →
          (∀ v ∈ heads, ∀ o, failing v o →
            (t.valve v).map (fun z => (z.command, z.lastOutcome)) = some (none, some o)) ∧
          (∀ q, (t.station x.num).map Station.queue = some q → ∀ v ∈ heads, v ∉ q) ∧
          item = match rest.head?, s.rearmHead x.num with
            | some w, _ => .valve w
            | none, some d => .rearm d.num
            | none, none => .nothing)) ∧
      t.train = s.train ∧ (∀ u, t.pigPos u = s.pigPos u) ∧ t.port = s.port ∧ t.clock = s.clock ∧
        t.meters = s.meters ∧ OnlyRearmed (fun u => ∃ p ∈ s.pigs, p.tag = u ∧ p.state = .staged) s t ∧
        t.link.linkRate = s.link.linkRate)

/-- R70, R71, R76, R78, R93 to R98, R105, R111, R112, R123, R131, R153, R154, R156 to R158: REPORT. A frame judged good from
a proven station whose lists match, or from an unproven one whose lists match, is processed: the slot ends, the station's
link record is ACTIVE and proven with missed count 0 and the flags the report shows, each valve's position code goes
through the debounce, and each detector takes its new state; the next state is reached through the meter stage, the
detector stage (of each detector its trips, then the decisions, then its new state), the valve stage, the flags stage and
the command reply, in that order. An unproven station whose lists do not match enters OUT with cause MISMATCH; that its
missed count stays is deduced (notes/assumptions/27.md). Then the valve stage and the command reply by themselves: a
TRAVELLING host command ends DONE or FAULT as the debounced state changes to its target or to FAULT; ACCEPTED takes a
carried command to TRAVELLING and tests it at once, a refusal ends it, NONE leaves it not carried, or ends it by its first
lapse mark; a REARM accepted makes its detector REARMING, one refused for a fault FAULTED. That a refused command whose
first mark is LINE_TRIPPED ends INHIBITED is the model's choice (notes/assumptions/32.md), and so is that the valve stage
takes the valves in role order (notes/assumptions/34.md). -/
def Obligations.AcceptedReportIsProcessed : Prop :=
  (∀ (s : State) (p : PollSlot) (x : Station) (frame : List Byte) (r : Report), TablesRise s →
    s.link.slot = some p → p.fate = .awaited → s.station p.station = some x → reportWhole frame = true →
    judge x.address frame = some r →
    (s.listsMatch x.num r = true → LeadsTo (.report frame) s fun t =>
      t.link = { s.link with slot := none } ∧
      (t.station x.num).map Station.link = some
        { x.link with state := if x.link.state = .silent ∨ x.link.proven = false then .active else x.link.state,
                      proven := true, missed := 0, remote := r.remote, launchDoor := r.launchDoor,
                      receiveDoor := r.receiveDoor } ∧
      (∀ v ∈ s.valves, v.station = x.num → ∀ code, r.position v.role = some code → s.roleValve x.num v.role = some v →
        (t.valve v.num).map (fun y => (y.pendingReport, y.debounced)) = some
          (some code, if v.pendingReport = some code then code.debounced else v.debounced)) ∧
      (∀ d ∈ s.detectors, d.station = x.num → (d.kind = .mainline → d.num ∈ s.index) → s.index.Nodup →
        p.item ≠ .rearm d.num →
          (t.detector d.num).map Detector.state = some (d.afterReport (r.shown d.slot).1 none).state) ∧
      t.clock = s.clock ∧ t.port = s.port ∧ t.lineTrip = s.lineTrip ∧ t.due = s.due ∧
      let heard : State := { s with
          link := { s.link with slot := none }
          stations := s.stations.map fun y => if y.num = x.num then
            { y with
              link := { y.link with proven := true, missed := 0,
                                    state := if x.link.state = .silent ∨ x.link.proven = false then .active
                                      else x.link.state }
              changed := y.changed || decide (x.link.state = .silent) || !x.link.proven } else y }
      let measured : State := (match s.meterOf x.num, r.totalizer with
          | some m, some n => heard.meterStage m n
          | _, _ => heard)
      let detected : State := ReportReading.detectors (fun d => r.shown d.slot) x.num measured
      let positioned : State := r.valves.foldl (fun u e => match s.roleValve x.num e.1 with
          | none => u
          | some v => u.valvePart v.num e.2) detected
      let flagged : State := { positioned with stations := positioned.stations.map fun y => if y.num = x.num then
          { y with
            link := { y.link with remote := r.remote, launchDoor := r.launchDoor, receiveDoor := r.receiveDoor }
            changed := y.changed ||
              decide ((x.link.remote, x.link.launchDoor, x.link.receiveDoor) ≠ (r.remote, r.launchDoor, r.receiveDoor)) }
            else y }
      t = flagged.commandReply p.item r.reply) ∧
    (s.listsMatch x.num r = false → x.link.proven = false → LeadsTo (.report frame) s fun t =>
      t.link = { s.link with slot := none } ∧
      (t.station x.num).map Station.link = some { x.link with state := .out, outCause := some .mismatch } ∧
      t.train = s.train ∧ (∀ u, t.pigPos u = s.pigPos u) ∧ t.clock = s.clock ∧ t.port = s.port)) ∧
  (∀ (s : State) (v : Nat) (y : Valve) (c : Command), TablesRise s → s.valve v = some y → y.command = some c →
    let standsAt (d : Debounced) : Prop := (d = .opened ∧ c.target = .toOpen) ∨ (d = .closed ∧ c.target = .toClose)
    let ends (u : State) (o : ValveOutcome) : State :=
      { u with
        valves := u.valves.map fun z => if z.num = v then { z with command := none, lastOutcome := some o } else z
        stations := u.stations.map fun k => if k.num = y.station then
          { k with queue := k.queue.filter (· ≠ v), changed := true } else k }
    let becomes (d : Command) : State :=
      { s with valves := s.valves.map fun z => if z.num = v then { z with command := some d } else z }
    let accepted : Command :=
      { c with phase := .travelling, carried := false, marks := [], strokeStart := some s.clock, strokeCount := 0 }
    let reply (a : Reply) : State := s.commandReply (.valve v) a
    (∀ code, c.origin = .host → c.phase = .travelling → y.pendingReport = some code → code.debounced ≠ y.debounced →
      ((s.valvePart v code).valve v).map (fun z => (z.command, z.lastOutcome)) = some
        (if standsAt code.debounced then (none, some .done) else if code = .fault then (none, some .fault)
          else (some c, y.lastOutcome))) ∧
    (c.carried = false → ∀ a, reply a = s) ∧
    (c.carried = true → c.origin = .host →
      (standsAt y.debounced → reply .accepted = ends s .done) ∧
      (y.debounced = .fault → reply .accepted = ends s .fault) ∧
      (¬ standsAt y.debounced → y.debounced ≠ .fault → reply .accepted =
        { becomes accepted with stations := s.stations.map fun k =>
          if k.num = y.station then { k with queue := k.queue.filter (· ≠ v) } else k }) ∧
      (∀ a ∈ [Reply.refusedLocal, .refusedFault, .unknownTarget], reply a =
        ends s (if c.marks.head? = some .lineTripped then .inhibited else .refused)) ∧
      (c.marks = [] → reply .none = becomes { c with carried := false }) ∧
      (∀ rest, c.marks = .lapsed :: rest → reply .none = ends s .undelivered) ∧
      (∀ rest, c.marks = .lineTripped :: rest → reply .none = ends s .inhibited)) ∧
    (∀ x p, c.carried = true → c.origin = .sequence → s.station y.station = some x → x.slot.step = some p →
      ¬ standsAt y.debounced → y.debounced ≠ .fault →
        (reply .accepted).slotOf x.num = { x.slot with
          marks := if p ∈ [.l2, .l3, .l4, .rx2, .rx3] then x.slot.marks.put y.role true else x.slot.marks
          closeAccepted := x.slot.closeAccepted || decide (p = .rx3) } ∧
        ((reply .accepted).valve v).bind Valve.command = some accepted)) ∧
  ∀ (s : State) (d : Nat) (x : Detector), s.detector d = some x →
    let reply (a : Reply) : State := s.commandReply (.rearm d) a
    let becomes (f : Detector → Detector) : State :=
      { s with
        detectors := s.detectors.map fun y => if y.num = d then f y else y
        stations := s.stations.map fun k => if k.num = x.station then { k with changed := true } else k }
    (x.state ≠ .tripped ∨ x.inRearmSet = false → ∀ a, reply a = s) ∧
    (x.state = .tripped → x.inRearmSet = true →
      reply .accepted = becomes (fun y => { y with state := .rearming, inRearmSet := false, confirmCount := 0,
                                                   confirmStart := some s.clock }) ∧
      (∀ a ∈ [Reply.refusedFault, .unknownTarget], reply a = becomes fun y =>
        { y with state := .faulted, inRearmSet := false, confirmStart := none, confirmCount := 0 }) ∧
      reply .refusedLocal = s ∧ reply .none = s)

/-- R153, R154, R159, R160, R165: the reply timeout ends a slot as a missed reply, and so does a frame that is judged bad or
a proven station's report whose lists do not match: the missed count rises, a LIVE meter's outage begins, a carried host
command without a mark is no longer carried, and at the silence limit the station becomes SILENT with its alert. With no
slot, or one that LINK_RESET abandoned, nothing else happens. The model's choices are that a timeout with no slot does
nothing (notes/assumptions/3.md), that a frame is judged for the slot that waits, whichever poll it answers
(notes/assumptions/33.md), that REPLY_TIMEOUT frees the link of an abandoned slot (notes/assumptions/16.md) and that a slot
of a station taken OUT expires as a missed reply (notes/assumptions/15.md). -/
def Obligations.MissedReplyCounts : Prop :=
  ∀ s : State,
    (s.link.slot = none → exec .replyTimeout s = .next s ∧ ∀ frame, exec (.report frame) s = .next s) ∧
    (∀ p, s.link.slot = some p → p.fate = .abandoned →
      exec .replyTimeout s = .next { s with link := { s.link with slot := none } } ∧
        ∀ frame, exec (.report frame) s = .next s) ∧
    (∀ p frame, s.link.slot = some p → p.fate = .stationOut → reportWhole frame = true →
      exec (.report frame) s = .next { s with link := { s.link with slot := none } }) ∧
    (TablesRise s → ∀ p x, s.link.slot = some p → p.fate ≠ .abandoned → s.station p.station = some x →
      (∀ frame, p.fate = .awaited → reportWhole frame = true →
        (judge x.address frame = none ∨ ∃ r, judge x.address frame = some r ∧ x.link.proven = true ∧
          s.listsMatch x.num r = false) → exec (.report frame) s = exec .replyTimeout s) ∧
      LeadsTo .replyTimeout s fun t =>
        let missed := min (x.link.missed + 1) 255
        let silent := decide ((x.link.state = .active ∨ x.link.state = .proving) ∧ s.params.silenceLimit ≤ missed)
        t.link = { s.link with slot := none } ∧
        (t.station x.num).map Station.link = some
          { x.link with missed := missed, state := if silent then .silent else x.link.state } ∧
        (silent = true → t.alertSet .stationSilent = true) ∧
        t.meters = s.meters.map (fun m => if s.meterOf x.num = some m ∧ m.state = .live then
          (if m.holdTime = 0 then { m with state := .stale, provisional := 0 }
            else { m with state := .extrapolating, extrapolated := 0 }) else m) ∧
        (∀ v y c, p.item = .valve v → s.valve v = some y → y.command = some c → c.origin = .host → c.marks = [] →
          silent = false → (t.valve v).bind Valve.command = some { c with carried := false }) ∧
        t.train = s.train ∧ (∀ u, t.pigPos u = s.pigPos u) ∧ t.clock = s.clock ∧ t.port = s.port)

/-- R165: LINK_RESET, its checks in order, and all it does: the slot abandoned, the stations in service PROVING and fresh,
every detector but those in a re-arm set UNKNOWN, every valve's debounced state UNKNOWN; everything else stands. -/
def Obligations.LinkResetRestartsTheFieldView : Prop :=
  ∀ (s : State) (r : Byte),
    Checked (.linkReset r) s
      [(s.lineState = .unconfigured, .notConfigured), (r ≠ 0, .badField),
       (∃ x ∈ s.stations, x.slot.state ≠ .idle, .seqActive), (∃ v ∈ s.valves, v.command ≠ none, .busyValve)]
      (Answers (.linkReset r) s .ok [] fun t =>
        t = { s with
          port := t.port
          stations := s.stations.map fun x =>
            { x with link := if x.service = .inService then LinkRecord.proving else x.link, changed := true }
          detectors := s.detectors.map fun d => if d.inRearmSet then d
            else { d with state := .unknown, confirmStart := none, confirmCount := 0 }
          valves := s.valves.map fun v => { v with debounced := .unknown, pendingReport := none, struck := false }
          link := { s.link with
            lastServed := none
            slot := s.link.slot.map fun p => { p with fate := .abandoned } } })

/-! ### Time -/

/-- R12, R48, R56, R58, R99, R112, R113, R139: a Line Clock second. In UNCONFIGURED the clock alone advances. In READY, with
nothing due before it and no automatic receive to start, the clock and every running count advance by one, the counts of
slots only while LINE_TRIP is released, and what then is due is each timer at its limit. With no meter EXTRAPOLATING
nothing else moves. An EXTRAPOLATING meter already at its hold time enters STALE and releases nothing; below it, V_p rises
by its rate and the extrapolated seconds by one, and the count that then equals the hold time takes it to STALE; and where
it is the only one, its rate, if above 0, advances the records then standing in its segments, head to tail, and moves no
other. A meter's expiry is taken in the second and none is left due. That another expiry is marked due and taken as a
command of its own is the model's choice (notes/assumptions/4.md and 5.md). -/
def Obligations.SecondAdvancesTheCounts : Prop :=
  ∀ s : State,
    let clock := min (s.clock + 1) 4294967295
    let ticked (due : List Expiry) : State := { s with
      clock := clock
      due := due
      valves := s.valves.map fun v => { v with command := v.command.map fun c =>
        if c.phase = .queued then { c with queuedCount := c.queuedCount + 1 }
        else { c with strokeCount := c.strokeCount + 1 } }
      detectors := s.detectors.map fun d =>
        if d.state = .rearming then { d with confirmCount := d.confirmCount + 1 } else d
      stations := s.stations.map fun x => { x with slot :=
        { x.slot with
          holdWait := if x.slot.state = .waitHold ∧ s.lineTrip = false then min (x.slot.holdWait + 1) 65535
            else x.slot.holdWait
          passage := if x.slot.state = .waitPassage ∧ s.lineTrip = false then min (x.slot.passage + 1) 7200
            else x.slot.passage
          pause := if x.slot.state = .paused ∧ s.lineTrip = false then min (x.slot.pause + 1) 65535
            else x.slot.pause
          heldAnew := x.slot.heldAnew && s.lineTrip } } }
    let dueAtLimit (due : List Expiry) : Prop :=
      let t := ticked due
      let waits (k : Nat) (P : Station → Prop) : Prop := s.lineTrip = false ∧ ∃ x ∈ t.stations, x.num = k ∧ P x
      (∀ m, .meterStale m ∉ due) ∧
      (∀ v, .stroke v ∈ due ↔ ∃ y ∈ t.valves, y.num = v ∧ ∃ c, y.command = some c ∧ c.phase = .travelling ∧
        y.strokeTimeout ≤ c.strokeCount) ∧
      (∀ v, .delivery v ∈ due ↔ ∃ y ∈ t.valves, y.num = v ∧ ∃ c, y.command = some c ∧ c.phase = .queued ∧
        s.params.deliveryLimit ≤ c.queuedCount) ∧
      (∀ d, .confirmation d ∈ due ↔ ∃ y ∈ t.detectors, y.num = d ∧ y.state = .rearming ∧
        s.params.deliveryLimit ≤ y.confirmCount) ∧
      (∀ k, .holdWait k ∈ due ↔ waits k fun x => x.slot.state = .waitHold ∧ s.params.holdWaitLimit ≠ 0 ∧
        s.params.holdWaitLimit ≤ x.slot.holdWait) ∧
      (∀ k, .launchExit k ∈ due ↔ waits k fun x => x.slot.state = .waitPassage ∧ x.slot.kind = some .launch ∧
        x.tuning.exitTimeout ≤ x.slot.passage) ∧
      (∀ k, .arrival k ∈ due ↔ waits k fun x => x.slot.state = .waitPassage ∧ x.slot.kind = some .receive ∧
        x.tuning.arrivalTimeout ≤ x.slot.passage) ∧
      (∀ k, .pause k ∈ due ↔ waits k fun x => x.slot.state = .paused ∧ x.tuning.pauseLimit ≠ 0 ∧
        x.tuning.pauseLimit ≤ x.slot.pause)
    let becomes (u : State) (m : Meter) (f : Meter → Meter) : State :=
      { u with meters := u.meters.map fun y => if y.num = m.num then f y else y }
    let stale (u : State) (m : Meter) : State :=
      { becomes u m (fun y => { y with state := .stale }) with stations := u.stations.map fun y =>
        if y.num = m.station then { y with changed := true } else y }
    (s.lineState = .unconfigured → exec .lineClockSecond s = .next { s with clock := clock }) ∧
    (TablesRise s → s.lineState = .ready → s.due = [] → (∀ k, s.autoCandidate k = none) →
      ((∀ m ∈ s.meters, m.state ≠ .extrapolating) →
        ∃ due, exec .lineClockSecond s = .next (ticked due) ∧ dueAtLimit due) ∧
      (∀ m ∈ s.meters, m.state = .extrapolating → LeadsTo .lineClockSecond s fun t =>
        t.clock = clock ∧ t.meter m.num = some
          (if m.holdTime ≤ m.extrapolated then { m with state := .stale }
            else { m with provisional := m.provisional + m.rate, extrapolated := m.extrapolated + 1,
                          state := if m.extrapolated + 1 = m.holdTime then .stale else .extrapolating })) ∧
      (∀ m ∈ s.meters, m.state = .extrapolating → (∀ n ∈ s.meters, n.state = .extrapolating → n = m) →
        ∃ due, dueAtLimit due ∧
          (m.holdTime ≤ m.extrapolated → exec .lineClockSecond s = .next (stale (ticked due) m)) ∧
          (m.extrapolated < m.holdTime → ∃ u,
            Pass (becomes (ticked due) m fun y =>
              { y with provisional := y.provisional + y.rate, extrapolated := y.extrapolated + 1 }) u m.num m.rate ∧
            exec .lineClockSecond s = .next (if m.extrapolated + 1 = m.holdTime then stale u m else u))))

/-- R56, R95, R97, R99: METER_STALE and CONFIRMATION_LAPSE. A due METER_STALE takes a meter that is EXTRAPOLATING in READY to
STALE, whatever its hold time has become since the second that found it there; that it is an expiry, which the second
also takes itself, is the model's choice (notes/assumptions/31.md). A due CONFIRMATION_LAPSE takes a REARMING latching
detector back to TRIPPED, awaiting no record and in the re-arm set, whatever the delivery limit has become since. An expiry
that is not due, or whose timer has ended since, does nothing more, which is the model's choice (notes/assumptions/3.md and
4.md). -/
def Obligations.MeterAndDetectorTimersExpire : Prop :=
  ∀ s : State,
    let done (e : Expiry) := s.due.filter (· ≠ e)
    (∀ m, .meterStale m ∉ s.due → exec (.meterStale m) s = .next s) ∧
    (∀ d, .confirmation d ∉ s.due → exec (.confirmationLapse d) s = .next s) ∧
    (∀ m x, .meterStale m ∈ s.due → s.meter m = some x →
      (s.lineState = .unconfigured ∨ x.state ≠ .extrapolating →
        exec (.meterStale m) s = .next { s with due := done (.meterStale m) }) ∧
      (TablesRise s → s.lineState = .ready → x.state = .extrapolating → exec (.meterStale m) s = .next
        { s with
          due := done (.meterStale m)
          meters := s.meters.map fun y => if y.num = m then { y with state := .stale } else y
          stations := s.stations.map fun y => if y.num = x.station then { y with changed := true } else y })) ∧
    (∀ d x, .confirmation d ∈ s.due → s.detector d = some x →
      (x.state ≠ .rearming ∨ x.confirmCount = 0 →
        exec (.confirmationLapse d) s = .next { s with due := done (.confirmation d) }) ∧
      (TablesRise s → x.state = .rearming → x.confirmCount ≠ 0 → x.latching = true →
        exec (.confirmationLapse d) s = .next
        { s with
          due := done (.confirmation d)
          detectors := s.detectors.map fun y => if y.num = d then
            { y with state := .tripped, awaited := none, confirmStart := none, confirmCount := 0, inRearmSet := true }
            else y
          stations := s.stations.map fun y => if y.num = x.station then { y with changed := true } else y }))

/-- R111 to R113, R116, R147, R148, R150: the expiries of valve commands. A due STROKE_TIMEOUT ends a TRAVELLING host command
TIMEOUT; a due DELIVERY_LIMIT_EXPIRY ends a QUEUED host command UNDELIVERED, or marks it LAPSED while it is carried. A
restore command's timeout ends its sequence RESTORE_FAILED, with TRAP_FAULT set and the fault record written. That a second
marks an expiry as due, that its own command takes it later, whatever the limit has become by then, and that the count 0
tells a timer started since, is the model's choice (notes/assumptions/4.md). Nothing is said here of a forward step's
timeout, nor of the delivery expiry of a sequence's command that is not carried. -/
def Obligations.ValveTimersExpire : Prop :=
  ∀ (s : State) (v : Nat) (y : Valve) (c : Command), s.valve v = some y → y.command = some c →
    let ends (e : Expiry) (o : ValveOutcome) : State :=
      { s with
        due := s.due.filter (· ≠ e)
        valves := s.valves.map fun z => if z.num = v then { z with command := none, lastOutcome := some o } else z
        stations := s.stations.map fun k => if k.num = y.station then
          { k with queue := k.queue.filter (· ≠ v), changed := true } else k }
    (.stroke v ∈ s.due → c.phase = .travelling → c.strokeCount ≠ 0 →
      (c.origin = .host → exec (.strokeTimeout v) s = .next (ends (.stroke v) .timeout)) ∧
      (TablesRise s → c.origin = .sequence → ∀ x p, s.station y.station = some x → x.slot.state = .restoring →
        x.slot.step = some p → LeadsTo (.strokeTimeout v) s fun t =>
          (t.valve v).map (fun z => (z.command, z.lastOutcome)) = some (none, some .timeout) ∧
          t.slotOf x.num = { Slot.idle with
            lastOutcome := some .restoreFailed
            barred := if x.slot.kind = some .receive then x.slot.bound else x.slot.barred } ∧
          (t.station x.num).map (fun z => (z.trapFault, z.fault)) = some (true, some
            { outcome := .restoreFailed, cause := x.slot.cause.getD .restoreFailed,
              kind := x.slot.kind.getD .launch, tag := x.slot.bound.getD 0,
              failStep := x.slot.failStep.or x.slot.step, failValve := x.slot.failValve,
              restore := some (p, p.role, .timeout), unrestored := x.slot.marks.roles, time := s.clock }) ∧
          t.alertSet .sequenceFailed = true ∧ t.noteSet .sequenceDone = true ∧ t.train = s.train)) ∧
    (.delivery v ∈ s.due → c.phase = .queued → c.queuedCount ≠ 0 →
      (c.carried = false → c.origin = .host →
        exec (.deliveryLimitExpiry v) s = .next (ends (.delivery v) .undelivered)) ∧
      (c.carried = true → exec (.deliveryLimitExpiry v) s = .next
        { s with
          due := s.due.filter (· ≠ .delivery v)
          valves := s.valves.map fun z => if z.num = v then
            { z with command := some { c with marks := if .lapsed ∈ c.marks then c.marks else c.marks ++ [.lapsed] } }
            else z }))

/-- R12, R132, R133, R137, R139, R143, R146: the expiries of a sequence's waits. A due expiry whose wait still lasts, whatever
the limit or LINE_TRIP has become since the second that made it due, ends the forward steps with its cause and begins the
restore tail, which runs, waits, or has ended with that cause or RESTORE_FAILED; at a restore step the pause limit goes on
with the tail. A due HOLD_LAPSED whose wait the end of the hold has ended does nothing, though the slot has returned to
WAIT_HOLD since with its count kept. The model's choices are that a second marks an expiry as due and its own command takes
it later, with the count 0, or the return to WAIT_HOLD, telling a wait begun since (notes/assumptions/4.md), and that it may
still be taken under LINE_TRIP (notes/assumptions/7.md). -/
def Obligations.SequenceWaitsExpire : Prop :=
  ∀ (s : State) (x : Station), TablesRise s → s.station x.num = some x → x.slot.exitInTail = false →
    let k := x.num
    let ends (c : Instr) (cause : SeqOutcome) : Prop := LeadsTo c s fun t =>
      (t.slotOf k).inTailOrEnded cause ∧ t.train = s.train ∧ (∀ u, t.pigPos u = s.pigPos u) ∧ t.port = s.port ∧
        t.clock = s.clock
    (.holdWait k ∈ s.due → x.slot.state = .waitHold →
      (x.slot.heldAnew = false → ends (.holdLapsed k) .holdLapsed) ∧
      (x.slot.heldAnew = true → exec (.holdLapsed k) s = .next { s with due := s.due.filter (· ≠ .holdWait k) })) ∧
    (.holdWait k ∈ s.due → x.slot.state ≠ .waitHold →
      exec (.holdLapsed k) s = .next { s with due := s.due.filter (· ≠ .holdWait k) }) ∧
    (.launchExit k ∈ s.due → x.slot.state = .waitPassage → x.slot.kind = some .launch → x.slot.passage ≠ 0 →
      ends (.launchTimeout k) .launchTimeout) ∧
    (.arrival k ∈ s.due → x.slot.state = .waitPassage → x.slot.kind = some .receive → x.slot.passage ≠ 0 →
      ends (.arrivalTimeout k) .arrivalTimeout) ∧
    (.pause k ∈ s.due → x.slot.state = .paused → x.slot.pause ≠ 0 →
      ∀ p, x.slot.resume = some p →
        (p ∉ restoreSteps → ends (.pauseLapsed k) .pauseLapsed) ∧
        (∀ cause, p ∈ restoreSteps → x.slot.cause = some cause → ends (.pauseLapsed k) cause))

/-! ### Resets and LINE_TRIP -/

/-- R19, R47, R48, R123, R152, R171, R180, R188: the whole state after POWER_ON and after RESTART, with alert LINE_TRIP raised
where the input is asserted. The model's choices are that the level of the input (notes/assumptions/14.md), the waiting
commands (notes/assumptions/1.md) and the model's choice counter (notes/assumptions/6.md), none of them the part's, stand;
that RESTART keeps the last frame sent and POWER_ON empties it (notes/assumptions/16.md); and that both empty the list of
due expiries (notes/assumptions/4.md). -/
def Obligations.ResetsGiveThePowerOnState : Prop :=
  ∀ (s : State) (rate : BitVec 2) (r : Byte),
    let params : Parameters :=
      { spacing := 10000, holdProfile := 0, lostHalfWidth := 50000, deliveryLimit := 60, silenceLimit := 3, fairness := 8,
        holdWaitLimit := 300, learningSpan := 50000 }
    let fresh (link : Link) (port : Port) : State :=
      { lineState := .unconfigured, stations := [], detectors := [], valves := [], meters := [],
        profiles := List.replicate 4 { base := 2000, growth := 15, cap := 20000 }, params := params,
        commitFault := none, index := [], pigs := [], train := [], revision := 0, clock := 0, link := link, port := port,
        attention := { alerts := if s.lineTrip then 256 else 0, notes := 0, alertMasks := 0, noteMasks := 0,
                       globalAlertMask := false, globalNoteMask := false },
        lineTrip := s.lineTrip, due := [], choices := s.choices, pending := s.pending }
    exec (.powerOn rate) s = .next (fresh { lastServed := none, slot := none, linkRate := rate, txFrame := [] }
      { busy := false, held := none, readPosition := 0, overrun := false, discard := false, sdo := [] }) ∧
    Checked (.restart r) s [(r ≠ 0, .badField)]
      (exec (.restart r) s = .next (fresh
        { lastServed := none, slot := none, linkRate := s.link.linkRate, txFrame := s.link.txFrame }
        { busy := false, held := some [2, 0, portFlags false (s.port.discard || s.port.held.isSome) s.alertPending
            s.notePending], readPosition := 0, overrun := false, discard := false, sdo := [] }))

/-- R29, R97, R123, R145: LINE_TRIP. Becoming asserted, it ends every QUEUED command that is not carried INHIBITED and marks
those that are carried, raises its alert, and gives an active slot that is not PAUSED pause-pending TRIP; TRAVELLING commands
go on. A launch that its INHIBITED command ends hands its STAGED record's change on (R29), which may bring a receive that
waits at an open gate, or stands past its deadline, to act before its own queue is looked at; every other station is
undisturbed. Released, it clears pause-pending TRIP and nothing else. An input already at the level is no event, which is the
model's choice (notes/assumptions/3.md). -/
def Obligations.LineTripActsOnQueuesAndSlots : Prop :=
  ∀ s : State, TablesRise s →
    (s.lineTrip = true → exec .lineTripAsserted s = .next s) ∧
    (s.lineTrip = false → exec .lineTripReleased s = .next s) ∧
    (s.lineTrip = false → QueuesHoldQueued s → LeadsTo .lineTripAsserted s fun t =>
      let staged (u : Nat) : Prop := ∃ p ∈ s.pigs, p.tag = u ∧ p.state = .staged
      let undisturbed (x : Station) : Prop := (∀ u, ¬ staged u) ∨ ReceiveStands s x.num
      t.lineTrip = true ∧ t.alertSet .lineTrip = true ∧
      (∀ x ∈ s.stations, ∀ v ∈ x.queue, ∀ y c, s.valve v = some y → y.command = some c →
        (c.carried = false → undisturbed x →
          (t.valve v).map (fun z => (z.command, z.lastOutcome)) = some (none, some .inhibited)) ∧
        (c.carried = true → (t.valve v).bind Valve.command = some
          { c with marks := if .lineTripped ∈ c.marks then c.marks else c.marks ++ [.lineTripped] })) ∧
      (∀ y ∈ s.valves, ∀ c, y.command = some c → c.phase = .travelling →
        (t.valve y.num).bind Valve.command = some c) ∧
      (∀ x ∈ s.stations, x.queue = [] → undisturbed x → (t.station x.num).map Station.slot = some
        (if x.slot.state = .idle ∨ x.slot.state = .paused then x.slot
          else { x.slot with pausePending := some .trip })) ∧
      t.train = s.train ∧ (∀ u, t.pigPos u = s.pigPos u) ∧ t.meters = s.meters ∧ OnlyRearmed staged s t ∧
        t.port = s.port ∧ t.clock = s.clock ∧ t.link = s.link) ∧
    (s.lineTrip = true → exec .lineTripReleased s = .next
      { s with
        lineTrip := false
        stations := s.stations.map fun x => if x.slot.pausePending = some .trip then
          { x with slot := { x.slot with pausePending := none }, changed := true } else x })

/-! ### Volumes, passages and misses -/

/-- R59, R60, R61: the advance of a tracked record by a release: by exact arithmetic from its slip and residue, limited by its
leader less the minimum spacing and by line end, and the flags it sets. -/
def Obligations.AdvanceFollowsTheRelease : Prop :=
  ∀ (s : State) (release : Nat) (p : Pig), TablesRise s → s.pig p.tag = some p → p.tracked = true →
    let total := release * (1000 - p.slip) + p.residue
    let candidate := p.position + total / 1000
    let limit := match aheadOf s.train p.tag with
      | none => s.lineEnd
      | some leader => min s.lineEnd (max p.position (s.pigPos leader - s.params.spacing))
    let place := min candidate limit
    let t := s.advance release p.tag
    (t.pig p.tag).map (fun q => (q.position, q.residue, q.state, q.slip)) =
        some (place, if limit < candidate then 0 else total % 1000, p.state, p.slip) ∧
      (t.pig p.tag).map (fun q => (q.flags.clamped, q.flags.endOfLine, q.flags.destinationPassed)) =
        some (p.flags.clamped || decide (limit < candidate), p.flags.endOfLine || decide (place = s.lineEnd),
          p.flags.destinationPassed || decide (s.stationPos p.destination < place)) ∧
      t.train = s.train ∧ OthersStand s t p.tag ∧ SameBesidesRecords s t

/-- R50 to R55, R58: the meter stage of an accepted report, in each state of the meter: the baseline, the delta and its
plausibility, the reconciliation of provisional volume and debt, the rate, and the implausible count that leads to FAILED.
A release of 0 moves nothing (R62); one above 0 advances the records standing in the meter's segments, head to tail, and
leaves the others (R58); the volumes balance where the debt does not saturate. -/
def Obligations.MeterStageReconciles : Prop :=
  ∀ (s : State) (m : Meter) (new : Nat), TablesRise s → s.meter m.num = some m →
    let t := s.meterStage m new
    let elapsed := max 1 (s.clock - m.baseTime.getD 0)
    let delta := (new + 4294967296 - m.totalizer.getD 0) % 4294967296
    let excess := delta - m.provisional
    let repaid := min excess m.debt
    let release := excess - repaid
    let debt := if m.provisional ≤ delta then m.debt - repaid else min (m.debt + (m.provisional - delta)) 4294967295
    let record (y : Meter) : Prop := t.meter m.num = some y
    let still : Prop := t = { s with meters := t.meters, stations := t.stations, attention := t.attention }
    (m.state = .failed → t = s) ∧
    (m.state = .baselinePending →
      record { m with state := .live, totalizer := some new, baseTime := some s.clock, implausible := 0 } ∧ still) ∧
    (m.state ≠ .failed → m.state ≠ .baselinePending →
      (delta ≤ m.maxRate * elapsed →
        record { m with state := .live, totalizer := some new, baseTime := some s.clock,
                        rate := min (delta / elapsed) 65535, provisional := 0, debt := debt, implausible := 0,
                        extrapolated := 0 } ∧
          (release = 0 → still) ∧ t.train = s.train ∧
          Pass { s with
            meters := s.meters.map fun y => if y.num = m.num then
              { y with state := .live, totalizer := some new, baseTime := some s.clock, rate := min (delta / elapsed) 65535,
                       provisional := 0, debt := debt, implausible := 0, extrapolated := 0 } else y
            stations := if m.state = .live then s.stations else s.stations.map fun y =>
              if y.num = m.station then { y with changed := true } else y } t m.num release ∧
          (m.debt + (m.provisional - delta) ≤ 4294967295 → delta + debt = release + m.debt + m.provisional)) ∧
      (m.maxRate * elapsed < delta →
        (m.implausible = 0 → record { m with implausible := 1 } ∧ still) ∧
        (m.implausible ≠ 0 → record { m with state := .failed, provisional := 0, debt := 0, extrapolated := 0 } ∧
          t.alertSet .meterFailed = true ∧ still)))

/-- R34, R35, R38, R66, R72 to R75, R77, R82 to R85, R89, R90, R100, R133, R137: trips. At a MAINLINE detector, a trip that is
no duplicate, whose expected record's estimate lies in the window or the early band, matches that record: it is fixed at
the detector's position carried forward by the correction and clamped between its neighbours, may learn its slip, and is
IN_LINE with miss count 0; the detector's reference names it and its spurious count and SUSPECT clear; note PASSAGE is
raised. A trip no expected record takes recovers the LOST record with the greatest position not above P_d plus the lost
hold half-width, the lower tag between equals, which joins the train; with none it is spurious, and the third in a row sets
SUSPECT with its alert. A LAUNCH_EXIT trip makes the record of the running launch, or one in LAUNCH_FAILED, IN_LINE with a
launch fix; a TRAP_ARRIVAL trip in the arrival wait makes the bound record TRAPPED. The current step of a PAUSED slot is
the model's choice (notes/assumptions/18.md). -/
def Obligations.PassageFixPlacesTheRecord : Prop :=
  (∀ (s : State) (n age : Nat) (d : Detector) (p : Pig), TablesRise s → TrainInOrder s →
    s.detector n = some d → s.isDuplicate d = false → s.expected d = some p →
    let q := p.position - s.segmentRate d.position * age
    let half := s.windowHalf d p
    let inWindow := decide (d.position ≤ q + half ∧ q ≤ d.position + half)
    let inEarly := decide (d.position - 2 * half ≤ q ∧ q < d.position - half)
    let unclamped := d.position + (p.position - q)
    let place := max (((behindOf s.train p.tag).map s.pigPos).getD 0)
      (min unclamped (((aheadOf s.train p.tag).map s.pigPos).getD s.lineEnd))
    let from_ := p.fixPosition.getD 0
    let learns := p.learning = true ∧ (p.fixKind = some .passage ∨ p.fixKind = some .launch) ∧ p.flags.clamped = false ∧
      s.params.learningSpan ≤ d.position - from_ ∧ from_ < q
    let observed := min (1000 - (1000 - p.slip) * (d.position - from_) / (q - from_)) 250
    let slip := if learns then (3 * p.slip + observed + 2) / 4 else p.slip
    (inWindow = true ∨ inEarly = true) →
      (s.mainlineTrip n age).2 = some p.tag ∧
        let t := (s.mainlineTrip n age).1
        (∃ pointer overdue struck changed, t.pig p.tag = some
          { p with
            state := .inLine, position := place, residue := 0, slip := slip, fixPosition := some d.position
            fixKind := some .passage, fixDetector := some d.num, fixTime := some s.clock, pointer := pointer
            overdue := overdue, misses := 0
            flags := { clamped := false, early := !inWindow, valveStrike := p.flags.valveStrike || struck,
                       destinationPassed := decide (s.stationPos p.destination < place),
                       endOfLine := decide (place = s.lineEnd), fixClamped := decide (place ≠ unclamped),
                       changed := changed } } ∧ changed = true ∧
          ((∀ e ∈ s.detectors, s.stationBlind e.station = false) →
            pointer = (s.indexOf n).bind s.indexAfter)) ∧
        (t.detector n).map (fun e => (e.lastMatched, e.spurious, e.suspect)) = some (some p.tag, 0, false) ∧
        t.noteSet .passage = true ∧ t.train = s.train ∧ OthersStand s t p.tag ∧ SameBesidesRecords s t) ∧
  (∀ (s : State) (n age : Nat) (d : Detector), TablesRise s → TrainInOrder s → s.detector n = some d →
    s.isDuplicate d = false →
    (∀ p, s.expected d = some p →
      let q := p.position - s.segmentRate d.position * age
      let half := s.windowHalf d p
      ¬ (d.position ≤ q + half ∧ q ≤ d.position + half) ∧ ¬ (d.position - 2 * half ≤ q ∧ q < d.position - half)) →
    let inReach (q : Pig) : Prop := q.state = .lost ∧ q.position ≤ d.position + s.params.lostHalfWidth
    let t := (s.mainlineTrip n age).1
    (∀ p ∈ s.pigs, inReach p →
      (∀ q ∈ s.pigs, inReach q → q.position < p.position ∨ (q.position = p.position ∧ p.tag ≤ q.tag)) →
        let entry := d.position + (p.position - (p.position - s.segmentRate d.position * age))
        (s.mainlineTrip n age).2 = some p.tag ∧
          JoinedByFix s t p entry
            { kind := .passage, place := d.position, detector := some d.num,
              pointer := (s.indexOf n).bind s.indexAfter, early := false } ∧
          (t.detector n).map (fun e => (e.lastMatched, e.spurious, e.suspect)) = some (some p.tag, 0, false) ∧
          t.noteSet .passage = true) ∧
    ((∀ q ∈ s.pigs, ¬ inReach q) →
      let count := min (d.spurious + 1) 3
      let suspect := d.suspect || decide (d.spurious = 2)
      (s.mainlineTrip n age).2 = none ∧
        t = { s with
          detectors := s.detectors.map fun e => if e.num = n then { e with spurious := count, suspect := suspect } else e
          stations := if (d.spurious, d.suspect) = (count, suspect) then s.stations else (s.touch d.station).stations
          attention := t.attention } ∧
        t.attention = if suspect = true ∧ d.suspect = false then (s.raise .detectorSuspect).attention else s.attention)) ∧
  (∀ (s : State) (n age : Nat) (d : Detector) (x : Station) (p : Pig), TablesRise s → TrainInOrder s →
    s.detector n = some d → s.station d.station = some x → p ∈ s.pigs →
    let slot := x.slot
    let taken (r : State × Option Nat) : Prop := r.2 = some p.tag ∧
      JoinedByFix s r.1 p (x.position + s.segmentRate x.position * age)
        { kind := .launch, place := x.position, detector := some n, pointer := s.firstBeyond x.position, early := false }
    let t := (s.exitTrip n age).1
    (slot.kind = some .launch → slot.bound = some p.tag → p.state = .staged →
      (slot.state = .waitPassage → slot.step = some .l5 → taken (s.exitTrip n age)) ∧
      (slot.state = .paused → slot.resume = some .l5 → taken (s.exitTrip n age) ∧
        t.slotOf x.num = { slot with resume := some .l6, step := some .l6 }) ∧
      (slot.state = .restoring → taken (s.exitTrip n age) ∧ t.slotOf x.num = { slot with exitInTail := true })) ∧
    (slot.state = .idle → p.state = .launchFailed → p.launchStation = some x.num →
      (∀ q ∈ s.pigs, q.launchStation = some x.num → q.state ≠ .staged ∧ (q.state = .launchFailed → q = p)) →
        taken (s.exitTrip n age))) ∧
  ∀ (s : State) (n : Nat) (d : Detector) (x : Station) (p : Pig), TablesRise s → TrainInOrder s →
    s.detector n = some d → s.station d.station = some x → p ∈ s.pigs → x.slot.kind = some .receive →
    x.slot.bound = some p.tag →
    let t := (s.arrivalTrip n).1
    let trapped : Prop := (s.arrivalTrip n).2 = some p.tag ∧
      t.pig p.tag = some { p with
        state := .trapped, position := s.stationPos p.destination, residue := 0, pointer := none, overdue := false
        flags := { p.flags with clamped := false, endOfLine := false, destinationPassed := false, changed := true } } ∧
      t.train = s.train.filter (· ≠ p.tag) ∧ OthersStand s t p.tag ∧ SameBesidesRecords s t
    (x.slot.state = .waitPassage → x.slot.step = some .rx4 → trapped) ∧
    (x.slot.state = .paused → x.slot.resume = some .rx4 → trapped ∧
      (t.slotOf x.num).state = .paused ∧ (t.slotOf x.num).resume = some .rx5) ∧
    (x.slot.state = .idle → s.arrivalTrip n = (s.spurious n, none))

/-- R69, R79, R80, R81: the decision of a record overdue-pending at a detector. A detector ARMED before the report that shows
no trip of it makes an evidenced miss: the first makes the record UNCONFIRMED, a second in a row LOST. Any other case is an
excused miss. Where the record is not lost, its pointer moves to the detector after and overdue-pending is cleared, or set
afresh by the window there, said where no station is blind. A miss moves no record, and the fix, slip and residue of a
record not lost are kept. -/
def Obligations.MissNeedsEvidence : Prop :=
  ∀ (s : State) (d : Detector) (shown : Shown) (i tag : Nat) (p : Pig), TablesRise s → TrainInOrder s →
    s.pig tag = some p → p.overdue = true → p.pointer = some i → tag ∈ s.train →
    let t := State.decideRecord d shown i s tag
    let evidence := decide (d.state = .armed) &&
      (if d.latching then decide (shown = .armed)
        else match shown with | .count _ => true | .armed => true | .tripped => false | .fault => false)
    let after (q : Pig) := (q.state, q.misses, q.residue, q.slip, q.position)
    let kept (q : Pig) := (q.fixPosition, q.fixKind, q.fixDetector, q.fixTime, q.launchTime, q.destination)
    let pointing (q : Pig) := (q.pointer, q.overdue)
    let next := if i + 1 < s.index.length then some (i + 1) else none
    (evidence = false ∨ p.misses = 0 → (∀ e ∈ s.detectors, s.stationBlind e.station = false) →
      (t.pig tag).map pointing = some (next, match (next.bind (s.index[·]?)).bind s.detector with
        | none => false
        | some e => decide (e.position + s.windowHalf e p < p.position))) ∧
    (evidence = true → p.misses = 0 →
      (t.pig tag).map after = some (.unconfirmed, 1, p.residue, p.slip, p.position) ∧ t.train = s.train) ∧
    (evidence = true → p.misses ≠ 0 →
      (t.pig tag).map after = some (.lost, p.misses + 1, 0, p.slip, p.position) ∧
        (t.pig tag).map pointing = some (none, false) ∧
        t.train = s.train.filter (· ≠ tag) ∧ t.alertSet .pigLost = true) ∧
    (evidence = false →
      (t.pig tag).map after = some (p.state, p.misses, p.residue, p.slip, p.position) ∧ t.train = s.train) ∧
    (t.pig tag).map kept = some (kept p) ∧ (t.pig tag).any (fun q => q.flags.changed) = true ∧
      OthersStand s t tag ∧ SameBesidesRecords s t

end
end

