-- ==== Sys2Proof/Laws/State.lean ====
section
/-! SUPPORT. What each update of State leaves in each field, true by rfl and simp lemmas, so that no proof unfolds an
update. -/

namespace Sys2Proof.Machine

/-! ### modStation -/

@[simp] theorem State.modStation_lineState (s : State) (k : Nat) (f : Station → Station) :
    (s.modStation k f).lineState = s.lineState := rfl
@[simp] theorem State.modStation_stations (s : State) (k : Nat) (f : Station → Station) :
    (s.modStation k f).stations = s.stations.map fun x => if x.num = k then f x else x := rfl
@[simp] theorem State.modStation_detectors (s : State) (k : Nat) (f : Station → Station) :
    (s.modStation k f).detectors = s.detectors := rfl
@[simp] theorem State.modStation_valves (s : State) (k : Nat) (f : Station → Station) :
    (s.modStation k f).valves = s.valves := rfl
@[simp] theorem State.modStation_meters (s : State) (k : Nat) (f : Station → Station) :
    (s.modStation k f).meters = s.meters := rfl
@[simp] theorem State.modStation_profiles (s : State) (k : Nat) (f : Station → Station) :
    (s.modStation k f).profiles = s.profiles := rfl
@[simp] theorem State.modStation_params (s : State) (k : Nat) (f : Station → Station) :
    (s.modStation k f).params = s.params := rfl
@[simp] theorem State.modStation_commitFault (s : State) (k : Nat) (f : Station → Station) :
    (s.modStation k f).commitFault = s.commitFault := rfl
@[simp] theorem State.modStation_index (s : State) (k : Nat) (f : Station → Station) :
    (s.modStation k f).index = s.index := rfl
@[simp] theorem State.modStation_pigs (s : State) (k : Nat) (f : Station → Station) :
    (s.modStation k f).pigs = s.pigs := rfl
@[simp] theorem State.modStation_train (s : State) (k : Nat) (f : Station → Station) :
    (s.modStation k f).train = s.train := rfl
@[simp] theorem State.modStation_revision (s : State) (k : Nat) (f : Station → Station) :
    (s.modStation k f).revision = s.revision := rfl
@[simp] theorem State.modStation_clock (s : State) (k : Nat) (f : Station → Station) :
    (s.modStation k f).clock = s.clock := rfl
@[simp] theorem State.modStation_link (s : State) (k : Nat) (f : Station → Station) :
    (s.modStation k f).link = s.link := rfl
@[simp] theorem State.modStation_port (s : State) (k : Nat) (f : Station → Station) :
    (s.modStation k f).port = s.port := rfl
@[simp] theorem State.modStation_attention (s : State) (k : Nat) (f : Station → Station) :
    (s.modStation k f).attention = s.attention := rfl
@[simp] theorem State.modStation_lineTrip (s : State) (k : Nat) (f : Station → Station) :
    (s.modStation k f).lineTrip = s.lineTrip := rfl
@[simp] theorem State.modStation_due (s : State) (k : Nat) (f : Station → Station) :
    (s.modStation k f).due = s.due := rfl
@[simp] theorem State.modStation_choices (s : State) (k : Nat) (f : Station → Station) :
    (s.modStation k f).choices = s.choices := rfl
@[simp] theorem State.modStation_pending (s : State) (k : Nat) (f : Station → Station) :
    (s.modStation k f).pending = s.pending := rfl

/-! ### modDetector -/

@[simp] theorem State.modDetector_lineState (s : State) (d : Nat) (f : Detector → Detector) :
    (s.modDetector d f).lineState = s.lineState := rfl
@[simp] theorem State.modDetector_stations (s : State) (d : Nat) (f : Detector → Detector) :
    (s.modDetector d f).stations = s.stations := rfl
@[simp] theorem State.modDetector_detectors (s : State) (d : Nat) (f : Detector → Detector) :
    (s.modDetector d f).detectors = s.detectors.map fun x => if x.num = d then f x else x := rfl
@[simp] theorem State.modDetector_valves (s : State) (d : Nat) (f : Detector → Detector) :
    (s.modDetector d f).valves = s.valves := rfl
@[simp] theorem State.modDetector_meters (s : State) (d : Nat) (f : Detector → Detector) :
    (s.modDetector d f).meters = s.meters := rfl
@[simp] theorem State.modDetector_profiles (s : State) (d : Nat) (f : Detector → Detector) :
    (s.modDetector d f).profiles = s.profiles := rfl
@[simp] theorem State.modDetector_params (s : State) (d : Nat) (f : Detector → Detector) :
    (s.modDetector d f).params = s.params := rfl
@[simp] theorem State.modDetector_commitFault (s : State) (d : Nat) (f : Detector → Detector) :
    (s.modDetector d f).commitFault = s.commitFault := rfl
@[simp] theorem State.modDetector_index (s : State) (d : Nat) (f : Detector → Detector) :
    (s.modDetector d f).index = s.index := rfl
@[simp] theorem State.modDetector_pigs (s : State) (d : Nat) (f : Detector → Detector) :
    (s.modDetector d f).pigs = s.pigs := rfl
@[simp] theorem State.modDetector_train (s : State) (d : Nat) (f : Detector → Detector) :
    (s.modDetector d f).train = s.train := rfl
@[simp] theorem State.modDetector_revision (s : State) (d : Nat) (f : Detector → Detector) :
    (s.modDetector d f).revision = s.revision := rfl
@[simp] theorem State.modDetector_clock (s : State) (d : Nat) (f : Detector → Detector) :
    (s.modDetector d f).clock = s.clock := rfl
@[simp] theorem State.modDetector_link (s : State) (d : Nat) (f : Detector → Detector) :
    (s.modDetector d f).link = s.link := rfl
@[simp] theorem State.modDetector_port (s : State) (d : Nat) (f : Detector → Detector) :
    (s.modDetector d f).port = s.port := rfl
@[simp] theorem State.modDetector_attention (s : State) (d : Nat) (f : Detector → Detector) :
    (s.modDetector d f).attention = s.attention := rfl
@[simp] theorem State.modDetector_lineTrip (s : State) (d : Nat) (f : Detector → Detector) :
    (s.modDetector d f).lineTrip = s.lineTrip := rfl
@[simp] theorem State.modDetector_due (s : State) (d : Nat) (f : Detector → Detector) :
    (s.modDetector d f).due = s.due := rfl
@[simp] theorem State.modDetector_choices (s : State) (d : Nat) (f : Detector → Detector) :
    (s.modDetector d f).choices = s.choices := rfl
@[simp] theorem State.modDetector_pending (s : State) (d : Nat) (f : Detector → Detector) :
    (s.modDetector d f).pending = s.pending := rfl

/-! ### modValve -/

@[simp] theorem State.modValve_lineState (s : State) (v : Nat) (f : Valve → Valve) :
    (s.modValve v f).lineState = s.lineState := rfl
@[simp] theorem State.modValve_stations (s : State) (v : Nat) (f : Valve → Valve) :
    (s.modValve v f).stations = s.stations := rfl
@[simp] theorem State.modValve_detectors (s : State) (v : Nat) (f : Valve → Valve) :
    (s.modValve v f).detectors = s.detectors := rfl
@[simp] theorem State.modValve_valves (s : State) (v : Nat) (f : Valve → Valve) :
    (s.modValve v f).valves = s.valves.map fun x => if x.num = v then f x else x := rfl
@[simp] theorem State.modValve_meters (s : State) (v : Nat) (f : Valve → Valve) :
    (s.modValve v f).meters = s.meters := rfl
@[simp] theorem State.modValve_profiles (s : State) (v : Nat) (f : Valve → Valve) :
    (s.modValve v f).profiles = s.profiles := rfl
@[simp] theorem State.modValve_params (s : State) (v : Nat) (f : Valve → Valve) :
    (s.modValve v f).params = s.params := rfl
@[simp] theorem State.modValve_commitFault (s : State) (v : Nat) (f : Valve → Valve) :
    (s.modValve v f).commitFault = s.commitFault := rfl
@[simp] theorem State.modValve_index (s : State) (v : Nat) (f : Valve → Valve) :
    (s.modValve v f).index = s.index := rfl
@[simp] theorem State.modValve_pigs (s : State) (v : Nat) (f : Valve → Valve) : (s.modValve v f).pigs = s.pigs := rfl
@[simp] theorem State.modValve_train (s : State) (v : Nat) (f : Valve → Valve) :
    (s.modValve v f).train = s.train := rfl
@[simp] theorem State.modValve_revision (s : State) (v : Nat) (f : Valve → Valve) :
    (s.modValve v f).revision = s.revision := rfl
@[simp] theorem State.modValve_clock (s : State) (v : Nat) (f : Valve → Valve) :
    (s.modValve v f).clock = s.clock := rfl
@[simp] theorem State.modValve_link (s : State) (v : Nat) (f : Valve → Valve) : (s.modValve v f).link = s.link := rfl
@[simp] theorem State.modValve_port (s : State) (v : Nat) (f : Valve → Valve) : (s.modValve v f).port = s.port := rfl
@[simp] theorem State.modValve_attention (s : State) (v : Nat) (f : Valve → Valve) :
    (s.modValve v f).attention = s.attention := rfl
@[simp] theorem State.modValve_lineTrip (s : State) (v : Nat) (f : Valve → Valve) :
    (s.modValve v f).lineTrip = s.lineTrip := rfl
@[simp] theorem State.modValve_due (s : State) (v : Nat) (f : Valve → Valve) : (s.modValve v f).due = s.due := rfl
@[simp] theorem State.modValve_choices (s : State) (v : Nat) (f : Valve → Valve) :
    (s.modValve v f).choices = s.choices := rfl
@[simp] theorem State.modValve_pending (s : State) (v : Nat) (f : Valve → Valve) :
    (s.modValve v f).pending = s.pending := rfl

/-! ### modMeter -/

@[simp] theorem State.modMeter_lineState (s : State) (m : Nat) (f : Meter → Meter) :
    (s.modMeter m f).lineState = s.lineState := rfl
@[simp] theorem State.modMeter_stations (s : State) (m : Nat) (f : Meter → Meter) :
    (s.modMeter m f).stations = s.stations := rfl
@[simp] theorem State.modMeter_detectors (s : State) (m : Nat) (f : Meter → Meter) :
    (s.modMeter m f).detectors = s.detectors := rfl
@[simp] theorem State.modMeter_valves (s : State) (m : Nat) (f : Meter → Meter) :
    (s.modMeter m f).valves = s.valves := rfl
@[simp] theorem State.modMeter_meters (s : State) (m : Nat) (f : Meter → Meter) :
    (s.modMeter m f).meters = s.meters.map fun x => if x.num = m then f x else x := rfl
@[simp] theorem State.modMeter_profiles (s : State) (m : Nat) (f : Meter → Meter) :
    (s.modMeter m f).profiles = s.profiles := rfl
@[simp] theorem State.modMeter_params (s : State) (m : Nat) (f : Meter → Meter) :
    (s.modMeter m f).params = s.params := rfl
@[simp] theorem State.modMeter_commitFault (s : State) (m : Nat) (f : Meter → Meter) :
    (s.modMeter m f).commitFault = s.commitFault := rfl
@[simp] theorem State.modMeter_index (s : State) (m : Nat) (f : Meter → Meter) :
    (s.modMeter m f).index = s.index := rfl
@[simp] theorem State.modMeter_pigs (s : State) (m : Nat) (f : Meter → Meter) : (s.modMeter m f).pigs = s.pigs := rfl
@[simp] theorem State.modMeter_train (s : State) (m : Nat) (f : Meter → Meter) :
    (s.modMeter m f).train = s.train := rfl
@[simp] theorem State.modMeter_revision (s : State) (m : Nat) (f : Meter → Meter) :
    (s.modMeter m f).revision = s.revision := rfl
@[simp] theorem State.modMeter_clock (s : State) (m : Nat) (f : Meter → Meter) :
    (s.modMeter m f).clock = s.clock := rfl
@[simp] theorem State.modMeter_link (s : State) (m : Nat) (f : Meter → Meter) : (s.modMeter m f).link = s.link := rfl
@[simp] theorem State.modMeter_port (s : State) (m : Nat) (f : Meter → Meter) : (s.modMeter m f).port = s.port := rfl
@[simp] theorem State.modMeter_attention (s : State) (m : Nat) (f : Meter → Meter) :
    (s.modMeter m f).attention = s.attention := rfl
@[simp] theorem State.modMeter_lineTrip (s : State) (m : Nat) (f : Meter → Meter) :
    (s.modMeter m f).lineTrip = s.lineTrip := rfl
@[simp] theorem State.modMeter_due (s : State) (m : Nat) (f : Meter → Meter) : (s.modMeter m f).due = s.due := rfl
@[simp] theorem State.modMeter_choices (s : State) (m : Nat) (f : Meter → Meter) :
    (s.modMeter m f).choices = s.choices := rfl
@[simp] theorem State.modMeter_pending (s : State) (m : Nat) (f : Meter → Meter) :
    (s.modMeter m f).pending = s.pending := rfl

/-! ### modPig -/

@[simp] theorem State.modPig_lineState (s : State) (t : Nat) (f : Pig → Pig) :
    (s.modPig t f).lineState = s.lineState := rfl
@[simp] theorem State.modPig_stations (s : State) (t : Nat) (f : Pig → Pig) :
    (s.modPig t f).stations = s.stations := rfl
@[simp] theorem State.modPig_detectors (s : State) (t : Nat) (f : Pig → Pig) :
    (s.modPig t f).detectors = s.detectors := rfl
@[simp] theorem State.modPig_valves (s : State) (t : Nat) (f : Pig → Pig) : (s.modPig t f).valves = s.valves := rfl
@[simp] theorem State.modPig_meters (s : State) (t : Nat) (f : Pig → Pig) : (s.modPig t f).meters = s.meters := rfl
@[simp] theorem State.modPig_profiles (s : State) (t : Nat) (f : Pig → Pig) :
    (s.modPig t f).profiles = s.profiles := rfl
@[simp] theorem State.modPig_params (s : State) (t : Nat) (f : Pig → Pig) : (s.modPig t f).params = s.params := rfl
@[simp] theorem State.modPig_commitFault (s : State) (t : Nat) (f : Pig → Pig) :
    (s.modPig t f).commitFault = s.commitFault := rfl
@[simp] theorem State.modPig_index (s : State) (t : Nat) (f : Pig → Pig) : (s.modPig t f).index = s.index := rfl
@[simp] theorem State.modPig_pigs (s : State) (t : Nat) (f : Pig → Pig) :
    (s.modPig t f).pigs = s.pigs.map fun x => if x.tag = t then f x else x := rfl
@[simp] theorem State.modPig_train (s : State) (t : Nat) (f : Pig → Pig) : (s.modPig t f).train = s.train := rfl
@[simp] theorem State.modPig_revision (s : State) (t : Nat) (f : Pig → Pig) :
    (s.modPig t f).revision = s.revision := rfl
@[simp] theorem State.modPig_clock (s : State) (t : Nat) (f : Pig → Pig) : (s.modPig t f).clock = s.clock := rfl
@[simp] theorem State.modPig_link (s : State) (t : Nat) (f : Pig → Pig) : (s.modPig t f).link = s.link := rfl
@[simp] theorem State.modPig_port (s : State) (t : Nat) (f : Pig → Pig) : (s.modPig t f).port = s.port := rfl
@[simp] theorem State.modPig_attention (s : State) (t : Nat) (f : Pig → Pig) :
    (s.modPig t f).attention = s.attention := rfl
@[simp] theorem State.modPig_lineTrip (s : State) (t : Nat) (f : Pig → Pig) :
    (s.modPig t f).lineTrip = s.lineTrip := rfl
@[simp] theorem State.modPig_due (s : State) (t : Nat) (f : Pig → Pig) : (s.modPig t f).due = s.due := rfl
@[simp] theorem State.modPig_choices (s : State) (t : Nat) (f : Pig → Pig) : (s.modPig t f).choices = s.choices := rfl
@[simp] theorem State.modPig_pending (s : State) (t : Nat) (f : Pig → Pig) : (s.modPig t f).pending = s.pending := rfl

/-! ### raise -/

@[simp] theorem State.raise_lineState (s : State) (c : AlertCause) : (s.raise c).lineState = s.lineState := rfl
@[simp] theorem State.raise_stations (s : State) (c : AlertCause) : (s.raise c).stations = s.stations := rfl
@[simp] theorem State.raise_detectors (s : State) (c : AlertCause) : (s.raise c).detectors = s.detectors := rfl
@[simp] theorem State.raise_valves (s : State) (c : AlertCause) : (s.raise c).valves = s.valves := rfl
@[simp] theorem State.raise_meters (s : State) (c : AlertCause) : (s.raise c).meters = s.meters := rfl
@[simp] theorem State.raise_profiles (s : State) (c : AlertCause) : (s.raise c).profiles = s.profiles := rfl
@[simp] theorem State.raise_params (s : State) (c : AlertCause) : (s.raise c).params = s.params := rfl
@[simp] theorem State.raise_commitFault (s : State) (c : AlertCause) : (s.raise c).commitFault = s.commitFault := rfl
@[simp] theorem State.raise_index (s : State) (c : AlertCause) : (s.raise c).index = s.index := rfl
@[simp] theorem State.raise_pigs (s : State) (c : AlertCause) : (s.raise c).pigs = s.pigs := rfl
@[simp] theorem State.raise_train (s : State) (c : AlertCause) : (s.raise c).train = s.train := rfl
@[simp] theorem State.raise_revision (s : State) (c : AlertCause) : (s.raise c).revision = s.revision := rfl
@[simp] theorem State.raise_clock (s : State) (c : AlertCause) : (s.raise c).clock = s.clock := rfl
@[simp] theorem State.raise_link (s : State) (c : AlertCause) : (s.raise c).link = s.link := rfl
@[simp] theorem State.raise_port (s : State) (c : AlertCause) : (s.raise c).port = s.port := rfl
@[simp] theorem State.raise_attention (s : State) (c : AlertCause) :
    (s.raise c).attention = { s.attention with alerts := s.attention.alerts ||| BitVec.ofNat 9 (2 ^ c.ctorIdx) } := rfl
@[simp] theorem State.raise_lineTrip (s : State) (c : AlertCause) : (s.raise c).lineTrip = s.lineTrip := rfl
@[simp] theorem State.raise_due (s : State) (c : AlertCause) : (s.raise c).due = s.due := rfl
@[simp] theorem State.raise_choices (s : State) (c : AlertCause) : (s.raise c).choices = s.choices := rfl
@[simp] theorem State.raise_pending (s : State) (c : AlertCause) : (s.raise c).pending = s.pending := rfl

/-! ### note -/

@[simp] theorem State.note_lineState (s : State) (c : NoteCause) : (s.note c).lineState = s.lineState := rfl
@[simp] theorem State.note_stations (s : State) (c : NoteCause) : (s.note c).stations = s.stations := rfl
@[simp] theorem State.note_detectors (s : State) (c : NoteCause) : (s.note c).detectors = s.detectors := rfl
@[simp] theorem State.note_valves (s : State) (c : NoteCause) : (s.note c).valves = s.valves := rfl
@[simp] theorem State.note_meters (s : State) (c : NoteCause) : (s.note c).meters = s.meters := rfl
@[simp] theorem State.note_profiles (s : State) (c : NoteCause) : (s.note c).profiles = s.profiles := rfl
@[simp] theorem State.note_params (s : State) (c : NoteCause) : (s.note c).params = s.params := rfl
@[simp] theorem State.note_commitFault (s : State) (c : NoteCause) : (s.note c).commitFault = s.commitFault := rfl
@[simp] theorem State.note_index (s : State) (c : NoteCause) : (s.note c).index = s.index := rfl
@[simp] theorem State.note_pigs (s : State) (c : NoteCause) : (s.note c).pigs = s.pigs := rfl
@[simp] theorem State.note_train (s : State) (c : NoteCause) : (s.note c).train = s.train := rfl
@[simp] theorem State.note_revision (s : State) (c : NoteCause) : (s.note c).revision = s.revision := rfl
@[simp] theorem State.note_clock (s : State) (c : NoteCause) : (s.note c).clock = s.clock := rfl
@[simp] theorem State.note_link (s : State) (c : NoteCause) : (s.note c).link = s.link := rfl
@[simp] theorem State.note_port (s : State) (c : NoteCause) : (s.note c).port = s.port := rfl
@[simp] theorem State.note_attention (s : State) (c : NoteCause) :
    (s.note c).attention = { s.attention with notes := s.attention.notes ||| BitVec.ofNat 2 (2 ^ c.ctorIdx) } := rfl
@[simp] theorem State.note_lineTrip (s : State) (c : NoteCause) : (s.note c).lineTrip = s.lineTrip := rfl
@[simp] theorem State.note_due (s : State) (c : NoteCause) : (s.note c).due = s.due := rfl
@[simp] theorem State.note_choices (s : State) (c : NoteCause) : (s.note c).choices = s.choices := rfl
@[simp] theorem State.note_pending (s : State) (c : NoteCause) : (s.note c).pending = s.pending := rfl

/-! ### joinTrain -/

@[simp] theorem State.joinTrain_lineState (s : State) (t x : Nat) : (s.joinTrain t x).lineState = s.lineState := rfl
@[simp] theorem State.joinTrain_stations (s : State) (t x : Nat) : (s.joinTrain t x).stations = s.stations := rfl
@[simp] theorem State.joinTrain_detectors (s : State) (t x : Nat) : (s.joinTrain t x).detectors = s.detectors := rfl
@[simp] theorem State.joinTrain_valves (s : State) (t x : Nat) : (s.joinTrain t x).valves = s.valves := rfl
@[simp] theorem State.joinTrain_meters (s : State) (t x : Nat) : (s.joinTrain t x).meters = s.meters := rfl
@[simp] theorem State.joinTrain_profiles (s : State) (t x : Nat) : (s.joinTrain t x).profiles = s.profiles := rfl
@[simp] theorem State.joinTrain_params (s : State) (t x : Nat) : (s.joinTrain t x).params = s.params := rfl
@[simp] theorem State.joinTrain_commitFault (s : State) (t x : Nat) :
    (s.joinTrain t x).commitFault = s.commitFault := rfl
@[simp] theorem State.joinTrain_index (s : State) (t x : Nat) : (s.joinTrain t x).index = s.index := rfl
@[simp] theorem State.joinTrain_pigs (s : State) (t x : Nat) : (s.joinTrain t x).pigs = s.pigs := rfl
@[simp] theorem State.joinTrain_train (s : State) (t x : Nat) :
    (s.joinTrain t x).train = s.membersAhead x ++ t :: s.membersBehind x := rfl
@[simp] theorem State.joinTrain_revision (s : State) (t x : Nat) :
    (s.joinTrain t x).revision = (s.revision + 1) % 256 := rfl
@[simp] theorem State.joinTrain_clock (s : State) (t x : Nat) : (s.joinTrain t x).clock = s.clock := rfl
@[simp] theorem State.joinTrain_link (s : State) (t x : Nat) : (s.joinTrain t x).link = s.link := rfl
@[simp] theorem State.joinTrain_port (s : State) (t x : Nat) : (s.joinTrain t x).port = s.port := rfl
@[simp] theorem State.joinTrain_attention (s : State) (t x : Nat) : (s.joinTrain t x).attention = s.attention := rfl
@[simp] theorem State.joinTrain_lineTrip (s : State) (t x : Nat) : (s.joinTrain t x).lineTrip = s.lineTrip := rfl
@[simp] theorem State.joinTrain_due (s : State) (t x : Nat) : (s.joinTrain t x).due = s.due := rfl
@[simp] theorem State.joinTrain_choices (s : State) (t x : Nat) : (s.joinTrain t x).choices = s.choices := rfl
@[simp] theorem State.joinTrain_pending (s : State) (t x : Nat) : (s.joinTrain t x).pending = s.pending := rfl

/-! ### freeLink -/

@[simp] theorem State.freeLink_lineState (s : State) : (s.freeLink).lineState = s.lineState := rfl
@[simp] theorem State.freeLink_stations (s : State) : (s.freeLink).stations = s.stations := rfl
@[simp] theorem State.freeLink_detectors (s : State) : (s.freeLink).detectors = s.detectors := rfl
@[simp] theorem State.freeLink_valves (s : State) : (s.freeLink).valves = s.valves := rfl
@[simp] theorem State.freeLink_meters (s : State) : (s.freeLink).meters = s.meters := rfl
@[simp] theorem State.freeLink_profiles (s : State) : (s.freeLink).profiles = s.profiles := rfl
@[simp] theorem State.freeLink_params (s : State) : (s.freeLink).params = s.params := rfl
@[simp] theorem State.freeLink_commitFault (s : State) : (s.freeLink).commitFault = s.commitFault := rfl
@[simp] theorem State.freeLink_index (s : State) : (s.freeLink).index = s.index := rfl
@[simp] theorem State.freeLink_pigs (s : State) : (s.freeLink).pigs = s.pigs := rfl
@[simp] theorem State.freeLink_train (s : State) : (s.freeLink).train = s.train := rfl
@[simp] theorem State.freeLink_revision (s : State) : (s.freeLink).revision = s.revision := rfl
@[simp] theorem State.freeLink_clock (s : State) : (s.freeLink).clock = s.clock := rfl
@[simp] theorem State.freeLink_link (s : State) : (s.freeLink).link = { s.link with slot := none } := rfl
@[simp] theorem State.freeLink_port (s : State) : (s.freeLink).port = s.port := rfl
@[simp] theorem State.freeLink_attention (s : State) : (s.freeLink).attention = s.attention := rfl
@[simp] theorem State.freeLink_lineTrip (s : State) : (s.freeLink).lineTrip = s.lineTrip := rfl
@[simp] theorem State.freeLink_due (s : State) : (s.freeLink).due = s.due := rfl
@[simp] theorem State.freeLink_choices (s : State) : (s.freeLink).choices = s.choices := rfl
@[simp] theorem State.freeLink_pending (s : State) : (s.freeLink).pending = s.pending := rfl

/-! ### respond -/

@[simp] theorem State.respond_lineState (s : State) (st : Status) (data : List Byte) :
    (s.respond st data).lineState = s.lineState := rfl
@[simp] theorem State.respond_stations (s : State) (st : Status) (data : List Byte) :
    (s.respond st data).stations = s.stations := rfl
@[simp] theorem State.respond_detectors (s : State) (st : Status) (data : List Byte) :
    (s.respond st data).detectors = s.detectors := rfl
@[simp] theorem State.respond_valves (s : State) (st : Status) (data : List Byte) :
    (s.respond st data).valves = s.valves := rfl
@[simp] theorem State.respond_meters (s : State) (st : Status) (data : List Byte) :
    (s.respond st data).meters = s.meters := rfl
@[simp] theorem State.respond_profiles (s : State) (st : Status) (data : List Byte) :
    (s.respond st data).profiles = s.profiles := rfl
@[simp] theorem State.respond_params (s : State) (st : Status) (data : List Byte) :
    (s.respond st data).params = s.params := rfl
@[simp] theorem State.respond_commitFault (s : State) (st : Status) (data : List Byte) :
    (s.respond st data).commitFault = s.commitFault := rfl
@[simp] theorem State.respond_index (s : State) (st : Status) (data : List Byte) :
    (s.respond st data).index = s.index := rfl
@[simp] theorem State.respond_pigs (s : State) (st : Status) (data : List Byte) :
    (s.respond st data).pigs = s.pigs := rfl
@[simp] theorem State.respond_train (s : State) (st : Status) (data : List Byte) :
    (s.respond st data).train = s.train := rfl
@[simp] theorem State.respond_revision (s : State) (st : Status) (data : List Byte) :
    (s.respond st data).revision = s.revision := rfl
@[simp] theorem State.respond_clock (s : State) (st : Status) (data : List Byte) :
    (s.respond st data).clock = s.clock := rfl
@[simp] theorem State.respond_link (s : State) (st : Status) (data : List Byte) :
    (s.respond st data).link = s.link := rfl
@[simp] theorem State.respond_attention (s : State) (st : Status) (data : List Byte) :
    (s.respond st data).attention = s.attention := rfl
@[simp] theorem State.respond_lineTrip (s : State) (st : Status) (data : List Byte) :
    (s.respond st data).lineTrip = s.lineTrip := rfl
@[simp] theorem State.respond_due (s : State) (st : Status) (data : List Byte) :
    (s.respond st data).due = s.due := rfl
@[simp] theorem State.respond_choices (s : State) (st : Status) (data : List Byte) :
    (s.respond st data).choices = s.choices := rfl
@[simp] theorem State.respond_pending (s : State) (st : Status) (data : List Byte) :
    (s.respond st data).pending = s.pending := rfl

end Sys2Proof.Machine
end

