-- ==== Sys2Proof/Laws/Tables.lean ====
section
/-! SUPPORT. Looking an item up: what is found has the number asked for, what a change of one item does to every lookup,
that inserting and changing keep a table rising, and the closed forms of the changes that set a station's changed flag. -/

namespace Sys2Proof.Machine

/-! ### Lists with a key -/

/-- A lookup after a change of the items of one key. -/
theorem find?_map_key {α : Type} (key : α → Nat) (k j : Nat) (f : α → α) (hf : ∀ a, key (f a) = key a) (l : List α) :
    (l.map fun x => if key x = k then f x else x).find? (fun x => key x == j) =
      (l.find? fun x => key x == j).map fun x => if key x = k then f x else x := by
  induction l with
  | nil => rfl
  | cons a l ih =>
    have h : key (if key a = k then f a else a) = key a := by split <;> simp [hf]
    by_cases hj : key a = j
    · have hb : (key (if key a = k then f a else a) == j) = true := by simpa [h] using hj
      have hc : (key a == j) = true := by simpa using hj
      simp only [List.map_cons, List.find?_cons, hb, hc, Option.map_some]
    · have hb : (key (if key a = k then f a else a) == j) = false := by simpa [h] using hj
      have hc : (key a == j) = false := by simpa using hj
      simp only [List.map_cons, List.find?_cons, hb, hc, ih]

/-- A change of the items of one key keeps the keys. -/
theorem map_key_map {α : Type} (key : α → Nat) (k : Nat) (f : α → α) (hf : ∀ a, key (f a) = key a) (l : List α) :
    (l.map fun x => if key x = k then f x else x).map key = l.map key := by
  rw [List.map_map]
  refine List.map_congr_left fun a _ => ?_
  simp only [Function.comp]
  split <;> simp [hf]

/-- The keys of a table after an insertion are those before and the new one. -/
theorem mem_insertByKey {α : Type} (key : α → Nat) (a b : α) (l : List α) :
    b ∈ insertByKey key a l ↔ b = a ∨ b ∈ l := by
  induction l with
  | nil => simp [insertByKey]
  | cons c l ih =>
    unfold insertByKey
    split
    · simp
    · simp only [List.mem_cons, ih]
      exact or_left_comm

/-- Inserting an item of a new number keeps a table rising. -/
theorem rising_insertByKey {α : Type} (key : α → Nat) (a : α) (l : List α) (h : Rising (l.map key))
    (hn : ∀ b ∈ l, key b ≠ key a) : Rising ((insertByKey key a l).map key) := by
  induction l with
  | nil => simp [insertByKey, Rising]
  | cons b l ih =>
    simp only [Rising, List.map_cons, List.pairwise_cons, List.mem_map, forall_exists_index, and_imp,
      forall_apply_eq_imp_iff₂] at h
    have hb : key b ≠ key a := hn b (by simp)
    unfold insertByKey
    split
    · rename_i hle
      have hlt : key a < key b := by omega
      simp only [Rising, List.map_cons, List.pairwise_cons, List.mem_cons, List.mem_map, forall_eq_or_imp,
        forall_exists_index, and_imp, forall_apply_eq_imp_iff₂]
      exact ⟨⟨hlt, fun c hc => Nat.lt_trans hlt (h.1 c hc)⟩, h.1, h.2⟩
    · have hrest := ih h.2 fun c hc => hn c (by simp [hc])
      simp only [Rising, List.map_cons, List.pairwise_cons, List.mem_map, forall_exists_index, and_imp,
        forall_apply_eq_imp_iff₂, mem_insertByKey]
      refine ⟨?_, hrest⟩
      rintro c (rfl | hc)
      · omega
      · exact h.1 c hc

/-- In a rising table an item is found under its own number. -/
theorem find?_of_rising {α : Type} (key : α → Nat) (l : List α) (h : Rising (l.map key)) (a : α) (ha : a ∈ l) :
    l.find? (fun x => key x == key a) = some a := by
  induction l with
  | nil => simp at ha
  | cons b l ih =>
    simp only [Rising, List.map_cons, List.pairwise_cons, List.mem_map, forall_exists_index, and_imp,
      forall_apply_eq_imp_iff₂] at h
    rcases List.mem_cons.1 ha with rfl | hm
    · simp
    · have : (key b == key a) = false := by
        have := h.1 a hm
        simp only [beq_eq_false_iff_ne]
        omega
      rw [List.find?_cons, this]
      exact ih h.2 hm

/-! ### What a lookup finds -/

theorem State.station_num {s : State} {k : Nat} {x : Station} (h : s.station k = some x) : x.num = k := by
  simpa using List.find?_some h

theorem State.station_mem {s : State} {k : Nat} {x : Station} (h : s.station k = some x) : x ∈ s.stations :=
  List.mem_of_find?_eq_some h

theorem State.detector_num {s : State} {d : Nat} {x : Detector} (h : s.detector d = some x) : x.num = d := by
  simpa using List.find?_some h

theorem State.detector_mem {s : State} {d : Nat} {x : Detector} (h : s.detector d = some x) : x ∈ s.detectors :=
  List.mem_of_find?_eq_some h

theorem State.valve_num {s : State} {v : Nat} {x : Valve} (h : s.valve v = some x) : x.num = v := by
  simpa using List.find?_some h

theorem State.valve_mem {s : State} {v : Nat} {x : Valve} (h : s.valve v = some x) : x ∈ s.valves :=
  List.mem_of_find?_eq_some h

theorem State.meter_num {s : State} {m : Nat} {x : Meter} (h : s.meter m = some x) : x.num = m := by
  simpa using List.find?_some h

theorem State.meter_mem {s : State} {m : Nat} {x : Meter} (h : s.meter m = some x) : x ∈ s.meters :=
  List.mem_of_find?_eq_some h

theorem State.pig_tag {s : State} {t : Nat} {p : Pig} (h : s.pig t = some p) : p.tag = t := by
  simpa using List.find?_some h

theorem State.pig_mem {s : State} {t : Nat} {p : Pig} (h : s.pig t = some p) : p ∈ s.pigs :=
  List.mem_of_find?_eq_some h

theorem TablesRise.station_of_mem {s : State} (h : TablesRise s) {x : Station} (hx : x ∈ s.stations) :
    s.station x.num = some x := find?_of_rising Station.num _ h.stations x hx

theorem TablesRise.detector_of_mem {s : State} (h : TablesRise s) {x : Detector} (hx : x ∈ s.detectors) :
    s.detector x.num = some x := find?_of_rising Detector.num _ h.detectors x hx

theorem TablesRise.valve_of_mem {s : State} (h : TablesRise s) {x : Valve} (hx : x ∈ s.valves) :
    s.valve x.num = some x := find?_of_rising Valve.num _ h.valves x hx

theorem TablesRise.meter_of_mem {s : State} (h : TablesRise s) {x : Meter} (hx : x ∈ s.meters) :
    s.meter x.num = some x := find?_of_rising Meter.num _ h.meters x hx

theorem TablesRise.pig_of_mem {s : State} (h : TablesRise s) {p : Pig} (hp : p ∈ s.pigs) : s.pig p.tag = some p :=
  find?_of_rising Pig.tag _ h.pigs p hp

/-! ### Lookups after a change -/

theorem State.station_modStation (s : State) (k j : Nat) (f : Station → Station) (hf : ∀ x, (f x).num = x.num) :
    (s.modStation k f).station j = (s.station j).map fun x => if x.num = k then f x else x :=
  find?_map_key Station.num k j f hf s.stations

theorem State.detector_modDetector (s : State) (d j : Nat) (f : Detector → Detector) (hf : ∀ x, (f x).num = x.num) :
    (s.modDetector d f).detector j = (s.detector j).map fun x => if x.num = d then f x else x :=
  find?_map_key Detector.num d j f hf s.detectors

theorem State.valve_modValve (s : State) (v j : Nat) (f : Valve → Valve) (hf : ∀ x, (f x).num = x.num) :
    (s.modValve v f).valve j = (s.valve j).map fun x => if x.num = v then f x else x :=
  find?_map_key Valve.num v j f hf s.valves

theorem State.meter_modMeter (s : State) (m j : Nat) (f : Meter → Meter) (hf : ∀ x, (f x).num = x.num) :
    (s.modMeter m f).meter j = (s.meter j).map fun x => if x.num = m then f x else x :=
  find?_map_key Meter.num m j f hf s.meters

theorem State.pig_modPig (s : State) (t j : Nat) (f : Pig → Pig) (hf : ∀ p, (f p).tag = p.tag) :
    (s.modPig t f).pig j = (s.pig j).map fun p => if p.tag = t then f p else p :=
  find?_map_key Pig.tag t j f hf s.pigs

@[simp] theorem State.pig_modStation (s : State) (k t : Nat) (f : Station → Station) : (s.modStation k f).pig t = s.pig t := rfl
@[simp] theorem State.pig_modValve (s : State) (v t : Nat) (f : Valve → Valve) : (s.modValve v f).pig t = s.pig t := rfl
@[simp] theorem State.pig_modDetector (s : State) (d t : Nat) (f : Detector → Detector) :
    (s.modDetector d f).pig t = s.pig t := rfl
@[simp] theorem State.pig_modMeter (s : State) (m t : Nat) (f : Meter → Meter) : (s.modMeter m f).pig t = s.pig t := rfl
@[simp] theorem State.valve_modStation (s : State) (k v : Nat) (f : Station → Station) :
    (s.modStation k f).valve v = s.valve v := rfl
@[simp] theorem State.valve_modPig (s : State) (t v : Nat) (f : Pig → Pig) : (s.modPig t f).valve v = s.valve v := rfl
@[simp] theorem State.station_modValve (s : State) (v k : Nat) (f : Valve → Valve) :
    (s.modValve v f).station k = s.station k := rfl
@[simp] theorem State.station_modPig (s : State) (t k : Nat) (f : Pig → Pig) : (s.modPig t f).station k = s.station k := rfl
@[simp] theorem State.station_modDetector (s : State) (d k : Nat) (f : Detector → Detector) :
    (s.modDetector d f).station k = s.station k := rfl
@[simp] theorem State.detector_modStation (s : State) (k d : Nat) (f : Station → Station) :
    (s.modStation k f).detector d = s.detector d := rfl
@[simp] theorem State.meter_modStation (s : State) (k m : Nat) (f : Station → Station) :
    (s.modStation k f).meter m = s.meter m := rfl

/-! ### Changes that set a station's changed flag, in closed form -/

/-- touchIf sets the changed flag of the stations of a number where its condition holds, and nothing else. -/
theorem State.touchIf_eq (s : State) (b : Bool) (k : Nat) :
    s.touchIf b k = s.modStation k fun x => { x with changed := x.changed || b } := by
  cases b
  · simp only [State.touchIf, State.modStation, Bool.or_false, ite_self, List.map_id', Bool.false_eq_true, if_false]
  · simp only [State.touchIf, State.touch, Bool.or_true, if_true]

theorem State.updDetector_of_some {s : State} {d : Nat} {x : Detector} (f : Detector → Detector)
    (h : s.detector d = some x) :
    s.updDetector d f = (s.modDetector d f).modStation x.station fun y =>
      let moved := decide ((x.state, x.awaited, x.inRearmSet, x.spurious, x.suspect) ≠
        ((f x).state, (f x).awaited, (f x).inRearmSet, (f x).spurious, (f x).suspect))
      { y with changed := y.changed || moved } := by
  simp only [State.updDetector, h, State.touchIf_eq]

theorem State.updValve_of_some {s : State} {v : Nat} {x : Valve} (f : Valve → Valve) (h : s.valve v = some x) :
    s.updValve v f = (s.modValve v f).modStation x.station fun y =>
      let moved := decide ((x.debounced, x.permit, x.holders.length, x.struck) ≠
        ((f x).debounced, (f x).permit, (f x).holders.length, (f x).struck))
      { y with changed := y.changed || moved } := by
  simp only [State.updValve, h, State.touchIf_eq]

theorem State.updMeter_of_some {s : State} {m : Nat} {x : Meter} (f : Meter → Meter) (h : s.meter m = some x) :
    s.updMeter m f = (s.modMeter m f).modStation x.station fun y =>
      { y with changed := y.changed || decide (x.state ≠ (f x).state) } := by
  simp only [State.updMeter, h, State.touchIf_eq]

end Sys2Proof.Machine
end

