-- ==== Sys2Proof/Laws/Engine.lean ====
section
/-! SUPPORT. How far the shared operations reach. The Hold Map, Valve Control and the Trap Sequencer's engine change
stations, detectors, valves, records and causes, and nothing else (Reaches); what happens to a record and is handed on
reaches the Train List and its revision besides (Spreads). One lemma per operation. -/

namespace Sys2Proof.Machine

/-- t differs from s at most in the stations, the detectors, the valves, the Pig Table and the Attention Unit. -/
def Reaches (s t : State) : Prop :=
  t = { s with stations := t.stations, detectors := t.detectors, valves := t.valves, pigs := t.pigs,
               attention := t.attention }

/-- t differs from s at most there and in the Train List and its revision. -/
def Spreads (s t : State) : Prop :=
  t = { s with stations := t.stations, detectors := t.detectors, valves := t.valves, pigs := t.pigs, train := t.train,
               revision := t.revision, attention := t.attention }

namespace Reaches

theorem refl (s : State) : Reaches s s := rfl

theorem trans {s t u : State} (h : Reaches s t) (g : Reaches t u) : Reaches s u := by
  unfold Reaches at *
  rw [g, h]

theorem spreads {s t : State} (h : Reaches s t) : Spreads s t := by
  unfold Reaches at h
  unfold Spreads
  rw [h]

theorem foldl {α : Type} (f : State → α → State) (h : ∀ s a, Reaches s (f s a)) (l : List α) (s : State) :
    Reaches s (l.foldl f s) := by
  induction l generalizing s with
  | nil => exact refl s
  | cons a l ih => exact (h s a).trans (ih _)

theorem modStation (s : State) (k : Nat) (f : Station → Station) : Reaches s (s.modStation k f) := rfl
theorem modValve (s : State) (v : Nat) (f : Valve → Valve) : Reaches s (s.modValve v f) := rfl
theorem modPig (s : State) (t : Nat) (f : Pig → Pig) : Reaches s (s.modPig t f) := rfl
theorem raise (s : State) (c : AlertCause) : Reaches s (s.raise c) := rfl
theorem note (s : State) (c : NoteCause) : Reaches s (s.note c) := rfl

theorem touchIf (s : State) (b : Bool) (k : Nat) : Reaches s (s.touchIf b k) := by
  rw [State.touchIf_eq]
  exact modStation ..

theorem updValve (s : State) (v : Nat) (f : Valve → Valve) : Reaches s (s.updValve v f) := by
  unfold State.updValve
  split
  · exact refl s
  · exact (modValve ..).trans (touchIf ..)

theorem updSlot (s : State) (k : Nat) (f : Slot → Slot) : Reaches s (s.updSlot k f) := by
  unfold State.updSlot
  split
  · exact refl s
  · exact (modStation ..).trans (touchIf ..)

theorem updLink (s : State) (k : Nat) (f : LinkRecord → LinkRecord) : Reaches s (s.updLink k f) := by
  unfold State.updLink
  split
  · exact refl s
  · exact (modStation ..).trans (touchIf ..)

theorem strikeRecords (s : State) (l : List Nat) : Reaches s (s.strikeRecords l) :=
  foldl _ (fun s t => modPig s t _) l s

theorem applyHold (s : State) (v : Valve) (l : List Nat) : Reaches s (s.applyHold v l) := by
  unfold State.applyHold
  simp only
  split <;> split
  · exact ((updValve ..).trans (strikeRecords ..)).trans (raise ..)
  · exact updValve ..
  · exact ((updValve ..).trans (strikeRecords ..)).trans (raise ..)
  · exact updValve ..

theorem reevalValve (s : State) (v : Nat) : Reaches s (s.reevalValve v) := by
  unfold State.reevalValve
  split
  · exact refl s
  · split
    · exact applyHold ..
    · exact refl s

theorem strikeTest (s : State) (v : Nat) : Reaches s (s.strikeTest v) := by
  unfold State.strikeTest
  split
  · exact refl s
  · split
    · exact applyHold ..
    · exact refl s

theorem reevalAll (s : State) : Reaches s s.reevalAll := foldl _ reevalValve _ s

theorem reevalStation (s : State) (k : Nat) : Reaches s (s.reevalStation k) := foldl _ reevalValve _ s

theorem enqueue (s : State) (v : Valve) (t : Target) (o : Origin) : Reaches s (s.enqueue v t o) :=
  (modValve ..).trans (modStation ..)

theorem endCommand (s : State) (v : Valve) (o : ValveOutcome) : Reaches s (s.endCommand v o) :=
  (modValve ..).trans (modStation ..)

theorem offer (s : State) (v : Valve) (t : Target) : Reaches s (s.offer v t).1 := by
  unfold State.offer
  split
  · exact endCommand ..
  · exact enqueue ..

theorem offerStep (s : State) (k : Nat) (p : SeqStep) : Reaches s (s.offerStep k p).1 := by
  unfold State.offerStep
  split
  · exact refl s
  · split
    · exact refl s
    · exact offer ..

theorem recordAtEnd (s : State) (t : Nat) : Reaches s (s.recordAtEnd t) := modPig ..

theorem endSlot (s : State) (k : Nat) (o : SeqOutcome) (r : Option (SeqStep × Role × ValveOutcome)) :
    Reaches s (s.endSlot k o r) := by
  have h := (updSlot s k fun y => y.ended o).trans (reevalStation _ k)
  unfold State.endSlot
  simp only
  split
  · exact ((h.trans (modStation ..)).trans (note ..)).trans (raise ..)
  · exact h.trans (note ..)

theorem updDetector (s : State) (d : Nat) (f : Detector → Detector) : Reaches s (s.updDetector d f) := by
  unfold State.updDetector
  split
  · exact refl s
  · simp only [State.touchIf_eq]
    rfl

theorem rearmTest (s : State) (d : Nat) : Reaches s (s.rearmTest d) := by
  unfold State.rearmTest
  split
  · exact refl s
  · split
    · exact updDetector ..
    · exact refl s

theorem rearmAwaiting (s : State) (t : Nat) : Reaches s (s.rearmAwaiting t) := foldl _ rearmTest _ s

theorem followerLook (s : State) (k : Nat) (l : List Nat) : Reaches s (s.followerLook k l) := by
  unfold State.followerLook
  simp only
  split
  · exact (modStation ..).trans (raise ..)
  · exact modStation ..

theorem followerWatch (s : State) (k : Nat) : Reaches s (s.followerWatch k) := by
  unfold State.followerWatch
  split
  · exact followerLook ..
  · exact refl s

theorem stepSucceeded (s : State) (k : Nat) (p : SeqStep) : Reaches s (s.stepSucceeded k p) := by
  unfold State.stepSucceeded
  simp only
  split
  · exact (updSlot ..).trans (followerLook ..)
  · exact updSlot ..

/-! The engine with any end that reaches no further. -/

section

variable {e : Ending} (he : ∀ s k o r, Reaches s (e s k o r))

include he

theorem runRestoreBy (k : Nat) (l : List SeqStep) (s : State) : Reaches s (State.runRestoreBy e k l s) := by
  induction l generalizing s with
  | nil => exact he ..
  | cons p l ih =>
    unfold State.runRestoreBy
    split
    · exact ih s
    · split
      · exact updSlot ..
      · have h := (updSlot s k fun x => x.at p .restoring).trans (offerStep _ k p)
        simp only
        split <;> rename_i heq <;> rw [heq] at h
        · exact h
        · split
          · exact (h.trans (updSlot ..)).trans (ih _)
          · exact h.trans (he ..)

theorem beginTailBy (s : State) (k : Nat) (c : SeqOutcome) (f : Option (Role × ValveOutcome)) :
    Reaches s (s.beginTailBy e k c f) := (updSlot ..).trans (runRestoreBy he ..)

theorem cutShortBy (s : State) (k : Nat) (v : Valve) (c : AbortCause) : Reaches s (s.cutShortBy e k v c) := by
  unfold State.cutShortBy
  split
  · exact refl s
  · split
    · exact (endCommand ..).trans (beginTailBy he ..)
    · exact updSlot ..

theorem abandonBy (s : State) (k : Nat) : Reaches s (s.abandonBy e k) := by
  refine (raise s .notReady).trans ?_
  unfold State.abandonBy
  simp only
  split
  · split
    · exact cutShortBy he ..
    · exact beginTailBy he ..
  · exact beginTailBy he ..

theorem runForwardBy (k : Nat) (l : List SeqStep) (s : State) : Reaches s (State.runForwardBy e k l s) := by
  induction l generalizing s with
  | nil => exact he ..
  | cons p l ih =>
    unfold State.runForwardBy
    split
    · exact abandonBy he ..
    · split
      · exact updSlot ..
      · split
        · exact updSlot ..
        · split
          · exact updSlot ..
          · have h := (updSlot s k fun x => x.at p .stepping).trans (offerStep _ k p)
            simp only
            split <;> rename_i heq <;> rw [heq] at h
            · exact h
            · split
              · exact (h.trans (stepSucceeded ..)).trans (ih _)
              · split
                · exact h.trans (updSlot ..)
                · exact h.trans (beginTailBy he ..)

theorem goOnAtBy (s : State) (k : Nat) (p : SeqStep) : Reaches s (s.goOnAtBy e k p) := by
  unfold State.goOnAtBy
  split
  · exact runRestoreBy he ..
  · exact runForwardBy he ..

theorem clearanceGateBy (s : State) (k : Nat) : Reaches s (s.clearanceGateBy e k) := by
  unfold State.clearanceGateBy
  split
  · split
    · exact goOnAtBy he ..
    · exact refl s
  · exact refl s

end

theorem reviewReceive (s : State) (k : Nat) : Reaches s (s.reviewReceive k) := by
  unfold State.reviewReceive
  split
  · split
    · exact (abandonBy endSlot ..).trans (followerWatch ..)
    · exact (clearanceGateBy endSlot ..).trans (followerWatch ..)
  · exact refl s

theorem handAside (s : State) (t : Nat) : Reaches s (s.handAside t) :=
  (rearmAwaiting s t).trans (foldl _ reviewReceive _ _)

theorem endSequence (s : State) (k : Nat) (o : SeqOutcome) (r : Option (SeqStep × Role × ValveOutcome)) :
    Reaches s (s.endSequence k o r) := by
  unfold State.endSequence
  split
  · exact endSlot ..
  · exact ((recordAtEnd ..).trans (handAside ..)).trans (endSlot ..)

theorem runRestore (k : Nat) (l : List SeqStep) (s : State) : Reaches s (State.runRestore k l s) :=
  runRestoreBy endSequence ..

theorem beginTail (s : State) (k : Nat) (c : SeqOutcome) (f : Option (Role × ValveOutcome)) :
    Reaches s (s.beginTail k c f) := beginTailBy endSequence ..

theorem cutShort (s : State) (k : Nat) (v : Valve) (c : AbortCause) : Reaches s (s.cutShort k v c) :=
  cutShortBy endSequence ..

theorem abandon (s : State) (k : Nat) : Reaches s (s.abandon k) := abandonBy endSequence ..

theorem runForward (k : Nat) (l : List SeqStep) (s : State) : Reaches s (State.runForward k l s) :=
  runForwardBy endSequence ..

theorem goOnAt (s : State) (k : Nat) (p : SeqStep) : Reaches s (s.goOnAt k p) := goOnAtBy endSequence ..

theorem clearanceGate (s : State) (k : Nat) : Reaches s (s.clearanceGate k) := clearanceGateBy endSequence ..

theorem restoreOutcome (s : State) (k : Nat) (p : SeqStep) (o : ValveOutcome) : Reaches s (s.restoreOutcome k p o) := by
  unfold State.restoreOutcome
  split
  · exact (updSlot ..).trans (runRestore ..)
  · exact endSequence ..

theorem goOnAfter (s : State) (k : Nat) (p : SeqStep) : Reaches s (s.goOnAfter k p) := runForward ..

theorem forwardOutcome (s : State) (k : Nat) (p : SeqStep) (o : ValveOutcome) : Reaches s (s.forwardOutcome k p o) := by
  unfold State.forwardOutcome
  split
  · simp only
    split
    · exact (updSlot ..).trans (beginTail ..)
    · exact beginTail ..
  · split
    · exact (stepSucceeded ..).trans (goOnAfter ..)
    · split
      · exact updSlot ..
      · exact beginTail ..

theorem slotOutcome (s : State) (k : Nat) (o : ValveOutcome) : Reaches s (s.slotOutcome k o) := by
  unfold State.slotOutcome
  split
  · exact restoreOutcome ..
  · exact forwardOutcome ..
  · exact refl s

theorem finishCommand (s : State) (v : Nat) (o : ValveOutcome) : Reaches s (s.finishCommand v o) := by
  unfold State.finishCommand
  split
  · exact refl s
  · split
    · exact refl s
    · split
      · exact endCommand ..
      · exact (endCommand ..).trans (slotOutcome ..)

theorem acceptCommand (s : State) (x : Valve) (c : Command) : Reaches s (s.acceptCommand x c) := by
  unfold State.acceptCommand
  simp only
  split
  · exact ((modValve ..).trans (modStation ..)).trans (updSlot ..)
  · exact (modValve ..).trans (modStation ..)

theorem strokeTest (s : State) (v : Nat) : Reaches s (s.strokeTest v) := by
  unfold State.strokeTest
  split
  · exact refl s
  · split
    · exact refl s
    · split
      · split
        · exact refl s
        · exact finishCommand ..
      · exact refl s

theorem startLaunch (s : State) (k t : Nat) : Reaches s (s.startLaunch k t) := by
  unfold State.startLaunch
  simp only
  split
  · exact ((updSlot ..).trans (reevalStation ..)).trans (runForward ..)
  · exact ((updSlot ..).trans (reevalStation ..)).trans (endSequence ..)

theorem startReceive (s : State) (k t : Nat) (b : Option Nat) : Reaches s (s.startReceive k t b) := by
  unfold State.startReceive
  simp only
  split
  · exact ((updSlot ..).trans (reevalStation ..)).trans (abandon ..)
  · split
    · exact ((updSlot ..).trans (reevalStation ..)).trans (runForward ..)
    · exact ((updSlot ..).trans (reevalStation ..)).trans (endSequence ..)

theorem holdGate (s : State) (k : Nat) : Reaches s (s.holdGate k) := by
  unfold State.holdGate
  split
  · split
    · exact refl s
    · exact goOnAt ..
  · exact refl s

theorem examine (s : State) (k : Nat) : Reaches s (s.examine k) := by
  unfold State.examine
  split
  · exact (abandon ..).trans (followerWatch ..)
  · exact ((clearanceGate ..).trans (holdGate ..)).trans (followerWatch ..)

theorem examineAll (s : State) : Reaches s s.examineAll := foldl _ examine _ s

theorem excuse (s : State) (t : Nat) : Reaches s (s.excuse t) := modPig ..

theorem endQueued (s : State) (k : Nat) (o : ValveOutcome) : Reaches s (s.endQueued k o) :=
  foldl _ (fun s v => finishCommand s v o) _ s

end Reaches

namespace Spreads

theorem refl (s : State) : Spreads s s := rfl

theorem trans {s t u : State} (h : Spreads s t) (g : Spreads t u) : Spreads s u := by
  unfold Spreads at *
  rw [g, h]

/-- What spreads is what the claims call a change besides which nothing moves. -/
theorem besides {s t : State} (h : Spreads s t) : SameBesidesRecords s t := by
  unfold Spreads at h
  unfold SameBesidesRecords
  rw [h]

theorem foldl {α : Type} (f : State → α → State) (h : ∀ s a, Spreads s (f s a)) (l : List α) (s : State) :
    Spreads s (l.foldl f s) := by
  induction l generalizing s with
  | nil => exact refl s
  | cons a l ih => exact (h s a).trans (ih _)

theorem handOn (s : State) (t : Nat) : Spreads s (s.handOn t) :=
  ((Reaches.reevalAll s).spreads.trans (Reaches.rearmAwaiting ..).spreads).trans (Reaches.examineAll _).spreads

theorem overdueTest (s : State) (d : Detector) (p : Pig) : Spreads s (s.overdueTest d p) := by
  unfold State.overdueTest
  split
  · exact (Reaches.modPig ..).spreads.trans (handOn ..)
  · exact refl s

theorem settleFor (n t : Nat) (s : State) : Spreads s (State.settleFor n t s) := by
  induction n generalizing s with
  | zero => exact refl s
  | succ n ih =>
    unfold State.settleFor
    split
    · exact refl s
    · split
      · exact refl s
      · split
        · simp only
          split
          · exact ((overdueTest ..).trans (Reaches.excuse ..).spreads).trans (ih _)
          · exact overdueTest ..
        · exact refl s

theorem settle (s : State) (t : Nat) : Spreads s (s.settle t) := settleFor ..

theorem excuseAt (s : State) (k : Nat) : Spreads s (s.excuseAt k) := by
  refine foldl _ (fun s t => ?_) _ s
  split
  · exact refl s
  · split
    · exact settle ..
    · exact refl s

theorem becomeSilent (s : State) (k : Nat) : Spreads s (s.becomeSilent k) := by
  unfold State.becomeSilent
  simp only
  split
  · exact (((Reaches.updLink ..).spreads.trans (excuseAt ..)).trans (Reaches.endQueued ..).spreads).trans
      (Reaches.raise ..).spreads
  · exact ((Reaches.updLink ..).spreads.trans (excuseAt ..)).trans (Reaches.raise ..).spreads

theorem joinTrain (s : State) (t x : Nat) : Spreads s (s.joinTrain t x) := rfl

theorem leaveTrain (s : State) (t : Nat) : Spreads s (s.leaveTrain t) := by
  unfold State.leaveTrain
  split <;> rfl

theorem applyFix (s : State) (t x : Nat) (e : Evidence) : Spreads s (s.applyFix t x e) :=
  ((Reaches.modPig ..).spreads.trans (handOn ..)).trans (settle ..)

theorem lose (s : State) (t : Nat) : Spreads s (s.lose t) :=
  (((leaveTrain ..).trans (Reaches.modPig ..).spreads).trans (Reaches.raise ..).spreads).trans (handOn ..)

theorem trap (s : State) (t : Nat) : Spreads s (s.trap t) :=
  ((leaveTrain ..).trans (Reaches.modPig ..).spreads).trans (handOn ..)

theorem miss (s : State) (t : Nat) : Spreads s (s.miss t) := by
  unfold State.miss
  simp only
  split
  · exact refl s
  · split
    · exact ((Reaches.modPig ..).spreads.trans (handOn ..)).trans (settle ..)
    · exact (Reaches.modPig ..).spreads.trans (lose ..)

theorem advance (s : State) (r t : Nat) : Spreads s (s.advance r t) := by
  unfold State.advance
  split
  · exact refl s
  · simp only
    split
    · exact (Reaches.modPig ..).spreads
    · exact ((Reaches.modPig ..).spreads.trans (handOn ..)).trans (settle ..)

theorem applyRelease (s : State) (m r : Nat) : Spreads s (s.applyRelease m r) := by
  unfold State.applyRelease
  split
  · exact refl s
  · exact foldl _ (fun s t => advance s r t) _ s

end Spreads

end Sys2Proof.Machine
end

