-- ==== Sys2Proof/Laws/Operations.lean ====
section
/-! SUPPORT. What the shared operations do where they act: a command's entry, its end and its offer (R109, R112, R116), the
send-time test (R110), the due expiries, the free order, the train's neighbours, and the words of request frames. -/

namespace Sys2Proof.Machine

/-! ### Valve commands -/

/-- A command that enters QUEUED stands fresh in its valve, and every other valve is as it was. -/
theorem State.valve_enqueue (s : State) (v : Valve) (t : Target) (o : Origin) (j : Nat) :
    (s.enqueue v t o).valve j =
      (s.valve j).map fun x => if x.num = v.num then { x with command := some (Command.fresh t o s.clock) } else x := by
  simp only [State.enqueue, State.valve_modStation]
  exact State.valve_modValve s v.num j _ fun _ => rfl

/-- Its number stands at the tail of its station's queue, and every other station is as it was. -/
theorem State.station_enqueue (s : State) (v : Valve) (t : Target) (o : Origin) (j : Nat) :
    (s.enqueue v t o).station j =
      (s.station j).map fun x => if x.num = v.station then { x with queue := x.queue ++ [v.num] } else x :=
  State.station_modStation (s.modValve v.num _) v.station j _ fun _ => rfl

/-- A command that ends leaves its valve with none, and its outcome. -/
theorem State.valve_endCommand (s : State) (v : Valve) (o : ValveOutcome) (j : Nat) :
    (s.endCommand v o).valve j =
      (s.valve j).map fun x => if x.num = v.num then { x with command := none, lastOutcome := some o } else x := by
  simp only [State.endCommand, State.valve_modStation]
  exact State.valve_modValve s v.num j _ fun _ => rfl

/-- It leaves its station's queue, and the station's changed flag is set. -/
theorem State.station_endCommand (s : State) (v : Valve) (o : ValveOutcome) (j : Nat) :
    (s.endCommand v o).station j =
      (s.station j).map fun x =>
        if x.num = v.station then { x with queue := x.queue.filter (· ≠ v.num), changed := true } else x :=
  State.station_modStation (s.modValve v.num _) v.station j _ fun _ => rfl

/-- All that an offer can do: end at once with the outcome R109 gives, or enter QUEUED. -/
theorem State.offer_cases (s : State) (v : Valve) (t : Target) :
    (∃ o, s.offerEnds v t = some o ∧ s.offer v t = (s.endCommand v o, some o)) ∨
      (s.offerEnds v t = none ∧ s.offer v t = (s.enqueue v t .sequence, none)) := by
  unfold State.offer
  cases h : s.offerEnds v t with
  | none => exact .inr ⟨rfl, rfl⟩
  | some o => exact .inl ⟨o, rfl, rfl⟩

/-- A CLOSE that is offered and queued had LINE_TRIP released and close permission. -/
theorem State.offerEnds_none {s : State} {v : Valve} {t : Target} (h : s.offerEnds v t = none) :
    s.lineTrip = false ∧ s.takesNoOffer v.station = false ∧ v.debounced.at t = false ∧
      (t = .toClose → s.closePermitted v = true) := by
  unfold State.offerEnds at h
  split at h
  · cases h
  · split at h
    · cases h
    · split at h
      · cases h
      · split at h
        · cases h
        · split at h
          · cases h
          · rename_i h1 h2 h3 h4 h5
            refine ⟨by simpa using h1, by simpa using h2, by simpa using h3, fun ht => ?_⟩
            simp only [ht, true_and, Bool.not_eq_true] at h4 h5
            simp [State.closePermitted, h4, h5]

/-- A command that passes the send-time test is not at its target, and a CLOSE has close permission. -/
theorem State.sendTest_none {s : State} {v : Valve} {t : Target} (h : s.sendTest v t = none) :
    v.debounced.at t = false ∧ (t = .toClose → s.closePermitted v = true) := by
  unfold State.sendTest at h
  split at h
  · cases h
  · split at h
    · cases h
    · split at h
      · cases h
      · rename_i h3 h4 h5
        refine ⟨by simpa using h3, fun ht => ?_⟩
        simp only [ht, true_and, Bool.not_eq_true] at h4 h5
        simp [State.closePermitted, h4, h5]

/-- All that the end of a command can do: nothing where none is outstanding, the end alone for a host's command, and the
slot's share besides for a sequence's. -/
theorem State.finishCommand_cases (s : State) (v : Nat) (o : ValveOutcome) :
    ((s.valve v).bind Valve.command = none ∧ s.finishCommand v o = s) ∨
      ∃ x c, s.valve v = some x ∧ x.command = some c ∧
        ((c.origin = .host ∧ s.finishCommand v o = s.endCommand x o) ∨
          (c.origin = .sequence ∧ s.finishCommand v o = (s.endCommand x o).slotOutcome x.station o)) := by
  unfold State.finishCommand
  cases hv : s.valve v with
  | none => exact .inl ⟨rfl, rfl⟩
  | some x =>
    cases hc : x.command with
    | none => exact .inl ⟨by simp [hc], by simp [hc]⟩
    | some c =>
      refine .inr ⟨x, c, rfl, hc, ?_⟩
      cases ho : c.origin with
      | host => exact .inl ⟨rfl, by simp [hc, ho]⟩
      | sequence => exact .inr ⟨rfl, by simp [hc, ho]⟩

/-! ### Due expiries and free orders -/

/-- An expiry is due after makeDue if it was due or is the one made due. -/
theorem State.mem_makeDue (s : State) (e f : Expiry) : f ∈ (s.makeDue e).due ↔ f = e ∨ f ∈ s.due := by
  unfold State.makeDue
  split
  · rename_i h
    constructor
    · exact .inr
    · rintro (rfl | hf)
      · exact h
      · exact hf
  · simp [or_comm]

/-- An expiry that is not due does nothing. -/
theorem State.expire_of_not_due {s : State} {e : Expiry} (h : e ∉ s.due) : s.expire e = s := by simp [State.expire, h]

/-- The due list says nothing about a timer. -/
@[simp] theorem State.timerStands_due (s : State) (l : List Expiry) (e : Expiry) :
    ({ s with due := l } : State).timerStands e = s.timerStands e := by cases e <;> rfl

/-- All that taking an expiry can do: nothing where it is not due; off the due list, it acts if its timer still stands, and
does nothing more if it does not. -/
theorem State.expire_cases (s : State) (e : Expiry) :
    (e ∉ s.due ∧ s.expire e = s) ∨
      (e ∈ s.due ∧ s.timerStands e = true ∧
        s.expire e = ({ s with due := s.due.filter (· ≠ e) } : State).expiryActs e) ∨
      (e ∈ s.due ∧ s.timerStands e = false ∧ s.expire e = { s with due := s.due.filter (· ≠ e) }) := by
  unfold State.expire
  by_cases h : e ∈ s.due
  · cases ht : s.timerStands e with
    | true => exact .inr (.inl ⟨h, rfl, by simp [h, ht]⟩)
    | false => exact .inr (.inr ⟨h, rfl, by simp [h, ht]⟩)
  · exact .inl ⟨h, by simp [h]⟩

/-- A change of a meter's record leaves each meter as it was, or as the change makes it. -/
theorem State.meter_updMeter (s : State) (m j : Nat) (f : Meter → Meter) (hf : ∀ x, (f x).num = x.num) :
    (s.updMeter m f).meter j = (s.meter j).map fun x => if x.num = m then f x else x := by
  unfold State.updMeter
  cases h : s.meter m with
  | none =>
    cases hj : s.meter j with
    | none => rfl
    | some x =>
      have hx : x.num = j := State.meter_num hj
      have : x.num ≠ m := by rintro rfl; rw [hx, hj] at h; cases h
      simp [this]
  | some x =>
    refine Eq.trans ?_ (s.meter_modMeter m j f hf)
    simp only [State.touchIf]
    split <;> rfl

/-- The list of due expiries without one of them is the same whether or not it was just made due. -/
theorem State.makeDue_filter (s : State) (e : Expiry) :
    (s.makeDue e).due.filter (· ≠ e) = s.due.filter (· ≠ e) := by
  unfold State.makeDue
  split <;> simp

/-- All that the hold-time test of a meter can do: the expiry is taken at once and is not due after it. -/
theorem State.staleTest_cases (s : State) (m : Nat) :
    (s.expired (.meterStale m) = false ∧ s.staleTest m = s) ∨
      (s.expired (.meterStale m) = true ∧
        s.staleTest m = ({ s with due := s.due.filter (· ≠ .meterStale m) } : State).expiryActs (.meterStale m)) := by
  cases h : s.expired (.meterStale m) with
  | false => exact .inl ⟨rfl, by simp [State.staleTest, h]⟩
  | true =>
    refine .inr ⟨rfl, ?_⟩
    have hs : s.timerStands (.meterStale m) = true := by
      unfold State.expired at h
      unfold State.timerStands
      split at h
      · cases h
      · simp_all
    have he : ({ s.makeDue (.meterStale m) with due := (s.makeDue (.meterStale m)).due.filter (· ≠ .meterStale m) } : State) =
        { s with due := s.due.filter (· ≠ .meterStale m) } := by
      rw [State.makeDue_filter]
      unfold State.makeDue
      split <;> rfl
    unfold State.staleTest
    rw [if_pos h]
    unfold State.expire
    rw [if_pos ((s.mem_makeDue _ _).2 (.inl rfl)), he]
    simp [hs]

/-- The hold-time test leaves every meter as it was, or takes it to STALE. -/
theorem State.meter_staleTest (s : State) (m j : Nat) :
    (s.staleTest m).meter j = (s.meter j).map fun x =>
      if x.num = m ∧ s.expired (.meterStale m) = true then { x with state := .stale } else x := by
  obtain ⟨h, e⟩ | ⟨h, e⟩ := s.staleTest_cases m <;> rw [e, h]
  · simp
  · refine (State.meter_updMeter _ m j (fun x => { x with state := .stale }) fun _ => rfl).trans ?_
    simp only [and_true]
    rfl

/-- A free order of a list holds the list's items. -/
theorem freeOrder_perm {α : Type} (n c : Nat) (l : List α) (h : l.length ≤ n) : (freeOrder n c l).Perm l := by
  induction n generalizing c l with
  | zero =>
    cases l with
    | nil => exact .refl _
    | cons a l => simp at h
  | succ n ih =>
    match l with
    | [] => exact .refl _
    | [a] => exact .refl _
    | a :: b :: l =>
      have hi : Config.pickNext c % (l.length + 2) < (a :: b :: l).length := 
        Nat.mod_lt _ (by simp)
      simp only [freeOrder]
      rw [List.getElem?_eq_getElem hi]
      refine .trans ?_ (List.getElem_cons_eraseIdx_perm hi)
      refine .cons _ (ih _ _ ?_)
      have := List.length_eraseIdx_of_lt hi
      omega

/-- What a free order of a list leaves of the state: the choices drawn are counted. -/
theorem State.inFreeOrder_state {α : Type} (s : State) (l : List α) :
    (s.inFreeOrder l).2 = { s with choices := s.choices + (l.length - 1) } := rfl

/-- A free order of a list in a state holds the list's items. -/
theorem State.inFreeOrder_perm {α : Type} (s : State) (l : List α) : (s.inFreeOrder l).1.Perm l :=
  freeOrder_perm _ _ _ (Nat.le_refl _)

/-- An empty list needs no order. -/
@[simp] theorem State.inFreeOrder_nil {α : Type} (s : State) : s.inFreeOrder ([] : List α) = ([], s) := rfl

/-! ### Neighbours in the train -/

/-- The member ahead of a record is a member. -/
theorem mem_of_aheadOf {l : List Nat} {t a : Nat} (h : aheadOf l t = some a) : a ∈ l := by
  induction l with
  | nil => cases h
  | cons b l ih =>
    cases l with
    | nil => cases h
    | cons c l =>
      unfold aheadOf at h
      split at h
      · cases h
        simp
      · exact List.mem_cons_of_mem _ (ih h)

/-- The member behind a record is a member. -/
theorem mem_of_behindOf {l : List Nat} {t a : Nat} (h : behindOf l t = some a) : a ∈ l := by
  induction l with
  | nil => cases h
  | cons b l ih =>
    cases l with
    | nil => cases h
    | cons c l =>
      unfold behindOf at h
      split at h
      · cases h
        simp
      · exact List.mem_cons_of_mem _ (ih h)

/-- The members a joining record goes between are the whole train. -/
theorem State.members_append (s : State) (x : Nat) : s.membersAhead x ++ s.membersBehind x = s.train :=
  List.takeWhile_append_dropWhile

/-! ### Words of a frame -/

theorem word2_bytes2 (x : BitVec 16) : word2 (x.extractLsb' 8 8) (x.extractLsb' 0 8) = x := by
  unfold word2
  ext i hi
  simp only [BitVec.getElem_append, BitVec.getElem_extractLsb']
  split
  · simp [BitVec.getLsbD_eq_getElem hi]
  · rw [show 8 + (i - 8) = i by omega, BitVec.getLsbD_eq_getElem hi]

theorem word4_bytes4 (x : BitVec 32) :
    word4 (x.extractLsb' 24 8) (x.extractLsb' 16 8) (x.extractLsb' 8 8) (x.extractLsb' 0 8) = x := by
  unfold word4
  ext i hi
  simp only [BitVec.getElem_append, BitVec.getElem_extractLsb']
  split
  · simp [BitVec.getLsbD_eq_getElem hi]
  · split
    · rw [show 8 + (i - 8) = i by omega, BitVec.getLsbD_eq_getElem hi]
    · split
      · rw [show 16 + (i - 8 - 8) = i by omega, BitVec.getLsbD_eq_getElem hi]
      · rw [show 24 + (i - 8 - 8 - 8) = i by omega, BitVec.getLsbD_eq_getElem hi]

end Sys2Proof.Machine
end

