-- ==== Sys2Proof/Laws/Requests.lean ====
section
/-! SUPPORT. What taking a request can do (R167): a refusal by the first check that fails, or the request's own action and
its response; and that the codes of a status and the bytes of a number read back. -/

namespace Sys2Proof.Machine

/-- A response leaves the port as Answered says. -/
theorem State.respond_answered (s t : State) (st : Status) (data : List Byte) (h : t.port = s.port) :
    Answered s (t.respond st data) st data := by
  simp only [Answered, State.respond, Port.holding, State.flagsNow, flagsFor, h]
  rfl

/-- A response changes nothing but the port. -/
theorem State.respond_eq (s : State) (st : Status) (data : List Byte) :
    s.respond st data = { s with port := (s.respond st data).port } := rfl

/-- With no check failing, the request acts. -/
theorem State.ask_taken (s : State) (checks : List (Bool × Status)) (t : Taken) (h : ∀ c ∈ checks, c.1 = false) :
    s.ask checks t = .next (t.state.respond t.status t.data) := by
  have : firstRefusal checks = none := by
    induction checks with
    | nil => rfl
    | cons c l ih =>
      simp only [firstRefusal, h c (by simp), Bool.false_eq_true, if_false]
      exact ih fun d hd => h d (by simp [hd])
  simp only [State.ask, this]

/-- One check of a request that the state passes is passed over. -/
theorem State.ask_pass (s : State) (st : Status) (checks : List (Bool × Status)) (t : Taken) :
    s.ask ((false, st) :: checks) t = s.ask checks t := rfl

/-- The first check that fails is answered. -/
theorem State.ask_fail (s : State) (st : Status) (checks : List (Bool × Status)) (t : Taken) :
    s.ask ((true, st) :: checks) t = .next (s.respond st []) := rfl

/-- A request's checks as the claims say them: the first that fails is answered and changes nothing outside the port,
and where none fails the request acts. -/
theorem checked_of_ask (c : Instr) (s : State) (checks : List (Bool × Status)) (t : Taken)
    (h : exec c s = s.ask checks t) (act : Prop)
    (hact : exec c s = .next (t.state.respond t.status t.data) → act) :
    Checked c s (checks.map fun x => (x.1 = true, x.2)) act := by
  induction checks with
  | nil => exact hact h
  | cons x l ih =>
    obtain ⟨b, st⟩ := x
    refine ⟨fun hb => ?_, fun hb => ?_⟩
    · simp only at hb
      subst hb
      exact ⟨_, h, s.respond_answered s st [] rfl, rfl⟩
    · simp only [Bool.not_eq_true] at hb
      subst hb
      exact ih h

/-- A request taken in some state answers in it, and what its action left holds with the port filled in. -/
theorem answers_of_respond (c : Instr) (s t : State) (st : Status) (data : List Byte) (P : State → Prop)
    (h : exec c s = .next (t.respond st data)) (hp : t.port = s.port) (hP : P (t.respond st data)) :
    Answers c s st data P := ⟨_, h, s.respond_answered t st data hp, hP⟩

/-- A status code refuses exactly from 16 on. -/
theorem Status.code_refuses (st : Status) : 16 ≤ st.code ↔ st ≠ .ok ∧ st ≠ .okClamped := by
  cases st <;> simp [Status.code]

/-- A number has as many bytes as its width. -/
theorem beBytes_length (w n : Nat) : (beBytes w n).length = w := by simp [beBytes]

end Sys2Proof.Machine
end

