-- ==== Sys2Proof/Tests/Slice0.lean ====
section
/-! SUPPORT. Tests: each an expected result taken from the rules of the spec, on a small state built by the helpers below;
and, for each statement with hypotheses, a named state and operands that meet them, at the boundary values of its
clauses. A status list names the checks of a request in the order of its rule; the codes are those of R190. -/

namespace Sys2Proof.Machine

set_option Elab.async false

/-! ### Helpers: a line of two stations

Station 1 has the launcher at 0 L, station 2 the receiver at 40,000 L. -/

/-- A station of the test line, ACTIVE and proven, its doors shut and shown REMOTE. -/
def testStation (k pos : Nat) (launcher receiver : Bool) (meter : Option Nat) : Station :=
  { num := k, address := k, position := pos, hasLauncher := launcher, hasReceiver := receiver, service := .inService,
    tuning := { guardVol := 300, approach := 1500, lead := 3000, clearance := 800, exitTimeout := 20,
                arrivalTimeout := 20, pauseLimit := 12, autoReceive := receiver, policy := .queue, replyCode := 2 },
    segmentMeter := meter,
    link := { LinkRecord.proving with state := .active, proven := true, remote := true, launchDoor := true,
                                      receiveDoor := true },
    queue := [], slot := Slot.idle, trapFault := false, fault := none, changed := false }

/-- A latching detector of the test line, ARMED. -/
def testDetector (d k slot : Nat) (kind : DetectorKind) (pos : Nat) : Detector :=
  { num := d, station := k, slot := slot, kind := kind, position := pos, latching := true, profile := 0,
    rearmVolume := 1000, state := .armed, awaited := none, inRearmSet := false, confirmStart := none,
    confirmCount := 0, spurious := 0, suspect := false, lastMatched := none }

/-- A valve of the test line, in a debounced state. -/
def testValve (v k : Nat) (role : Role) (pos : Nat) (d : Debounced) : Valve :=
  { num := v, station := k, role := role, position := pos, guardVol := 300, strokeTimeout := 5, debounced := d,
    pendingReport := none, command := none, lastOutcome := none, permit := true, holders := [], struck := false }

/-- A record at a position, fixed there by a passage. -/
def testPig (t : Nat) (st : PigState) (pos : Nat) : Pig :=
  { tag := t, state := st, launchStation := some 1, destination := 2, position := pos, residue := 0, slip := 20,
    learning := true, fixPosition := some pos, fixKind := some .manual, fixDetector := none, fixTime := some 0,
    pointer := none, overdue := false, misses := 0, flags := PigFlags.clear, launchTime := 0 }

/-- The meter of the test line, LIVE at rate 100. -/
def testMeter : Meter :=
  { num := 0, station := 1, maxRate := 500, holdTime := 5, state := .live, totalizer := some 1000, baseTime := some 0,
    rate := 100, provisional := 0, debt := 0, implausible := 0, extrapolated := 0 }

/-- The test line in READY, empty. -/
def line : State :=
  { State.reset with
    lineState := .ready
    stations := [testStation 1 0 true false (some 0), testStation 2 40000 false true none]
    detectors := [testDetector 0 1 0 .launchExit 0, testDetector 1 1 1 .mainline 10000,
                  testDetector 2 2 0 .mainline 30000, testDetector 3 2 1 .trapArrival 0]
    valves := [testValve 1 1 .mainline 100 .opened, testValve 2 1 .launchOutlet 0 .closed,
               testValve 3 1 .launchKicker 0 .closed, testValve 4 2 .mainline 39900 .opened,
               testValve 5 2 .receiveInlet 0 .closed]
    meters := [testMeter]
    index := [1, 2] }

/-- The test line in UNCONFIGURED. -/
def openLine : State := { line with lineState := .unconfigured }

/-- The test line with some records, of which those tracked stand in the train in the order given. -/
def withPigs (l : List Pig) : State :=
  { line with pigs := l, train := (l.filter Pig.tracked).map Pig.tag }

/-- A state with one station changed. -/
def withStation (s : State) (k : Nat) (f : Station → Station) : State := s.modStation k f

/-- A state with one station's slot changed. -/
def withSlot (s : State) (k : Nat) (f : Slot → Slot) : State := s.modStation k fun x => { x with slot := f x.slot }

/-- A command that stands in a phase. -/
def testCommand (ph : Phase) (t : Target) (o : Origin) : Command := { Command.fresh t o 0 with phase := ph }

/-- A state with a command outstanding at a valve of station 1, and in its queue where it is QUEUED. -/
def withCommand (s : State) (v : Nat) (c : Command) : State :=
  (s.modValve v fun x => { x with command := some c }).modStation 1 fun x =>
    if c.phase = .queued then { x with queue := x.queue ++ [v] } else x

/-- The state a command leads to. -/
def after (s : State) (c : Instr) : State :=
  match exec c s with
  | .next t => t
  | .fault _ => s
  | .refused _ => s

/-- The status code a request is answered with. -/
def statusOf (s : State) (c : Instr) : Nat := (((after s c).port.held.getD []).getD 1 0).toNat

/-- The status codes of some requests, each in its own state. -/
def statuses (l : List (State × Instr)) : List Nat := l.map fun x => statusOf x.1 x.2

/-- The data a request is answered with. -/
def dataOf (s : State) (c : Instr) : List Nat := ((after s c).port.held.getD []).drop 3 |>.map BitVec.toNat

/-! ### WellFormed refuses what reaches no part -/

theorem test_wellformed_refuses :
    ([.meterStale 16, .strokeTimeout 48, .deliveryLimitExpiry 48, .confirmationLapse 64, .holdLapsed 0, .holdLapsed 25,
      .launchTimeout 0, .arrivalTimeout 25, .pauseLapsed 0, .autoReceiveStart 25, .report [1, 4, 0, 0], .badLength [2, 26, 0],
      .unknownRequest [2, 26, 0], .readResponse 0] : List Instr).map Instr.wellFormed = List.replicate 14 false := by
  decide

/-- The DEFINE form of a station, a valve or a meter, and the form byte 1 that makes it a TUNE. -/
def stationForm (form : Byte) : StationFrame :=
  { form := form, station := 3, address := 3, position := 50000, flags := 0, guardVol := 300, approach := 1500, lead := 3000,
    clearance := 800, exitTimeout := 20, arrivalTimeout := 20, pauseLimit := 12, replyCode := 2, reserved := 0 }

def valveForm (form : Byte) : ValveFrame :=
  { form := form, valve := 47, station := 2, role := 2, position := 0, guardVol := 0, strokeTimeout := 5, reserved := 0 }

def meterForm (form : Byte) : MeterFrame :=
  { form := form, meter := 15, station := 2, maxRate := 500, holdTime := 5, reserved := 0 }

theorem test_wellformed_tells_forms_apart :
    ([.defineStationDefine (stationForm 1), .defineStationTune (stationForm 0), .defineValveDefine (valveForm 1),
      .defineValveTune (valveForm 0), .defineMeterDefine (meterForm 1), .defineMeterTune (meterForm 0),
      .setDetectorServiceOut 3 0 0, .setDetectorServiceIn 3 1 0] : List Instr).map Instr.wellFormed =
      List.replicate 8 false := by decide

theorem test_wellformed_takes :
    ([.meterStale 15, .strokeTimeout 47, .confirmationLapse 63, .holdLapsed 1, .pauseLapsed 24, .report [1, 0, 0, 0],
      .badLength [3, 26, 0], .unknownRequest [2, 1, 0], .readResponse 1, .defineStationTune (stationForm 1),
      .setDetectorServiceOut 3 1 0, .setDetectorServiceIn 3 2 0] : List Instr).map Instr.wellFormed =
      List.replicate 12 true := by decide

/-! ### Frames (R166, R167, R189, R192) -/

/-- R192's worked value: the nine bytes 49 to 57 have the CRC 10,673, sent as 41, 177. -/
theorem test_crc_of_the_manual : crc16 [49, 50, 51, 52, 53, 54, 55, 56, 57] = 10673#16 := by decide +kernel

theorem test_crc_bytes : bytes2 (crc16 [49, 50, 51, 52, 53, 54, 55, 56, 57]) = [41, 177] := by decide +kernel

/-- LAUNCH, code 48: tag 513, launch station 1, destination 2, slip 20, learning yes. -/
theorem test_decode_launch : decodeFrame [9, 48, 2, 1, 1, 2, 0, 20, 1, 0] =
    some (.launch { tag := 513, launch := 1, destination := 2, slip := 20, learning := 1, reserved := 0 }) := by decide

/-- DECLARE_PIG, code 49: the position 16,909,060 in four bytes, most significant first. -/
theorem test_decode_declare : decodeFrame [12, 49, 0, 7, 1, 2, 3, 4, 2, 0, 5, 0, 0] =
    some (.declarePig { tag := 7, position := 16909060, destination := 2, slip := 5, learning := 0, reserved := 0 }) := by
  decide

/-- COMMAND_VALVE, code 80, CLOSE; SET_DETECTOR_SERVICE, code 33, OUT and IN; ABORT_SEQUENCE, code 67. -/
theorem test_decode_short_frames :
    [decodeFrame [4, 80, 7, 1, 0], decodeFrame [4, 33, 9, 1, 0], decodeFrame [4, 33, 9, 0, 0],
      decodeFrame [3, 67, 4, 0]] =
      [some (.commandValve 7 1 0), some (.setDetectorServiceOut 9 1 0), some (.setDetectorServiceIn 9 0 0),
        some (.abortSequence 4 0)] := by decide

/-- DEFINE_METER, code 19: its selector byte tells the two forms apart. -/
theorem test_decode_meter_forms :
    [decodeFrame [9, 19, 0, 15, 2, 1, 244, 0, 5, 0], decodeFrame [9, 19, 1, 15, 2, 1, 244, 0, 5, 0]] =
      [some (.defineMeterDefine (meterForm 0)), some (.defineMeterTune (meterForm 1))] := by decide

/-- Witness of RequestFramesDecodeBack: a well-formed request, its frame, and bytes clocked behind it. -/
theorem test_frame_round_trip :
    Instr.wellFormed (.setAttentionMasks { alerts := 257, notes := 9, globals := 3, reserved := 0 }) = true ∧
      encodeFrame (.setAttentionMasks { alerts := 257, notes := 9, globals := 3, reserved := 0 }) =
        some [6, 101, 1, 1, 9, 3, 0] ∧
      decodeFrame ([6, 101, 1, 1, 9, 3, 0] ++ [170, 187]) =
        some (.setAttentionMasks { alerts := 257, notes := 9, globals := 3, reserved := 0 }) := by decide

/-- Witness of FramingFollowsTheFirstBytes, each clause at the ends of its range: the first byte 0; 64 and 255; too few
bytes behind 1 and 63; a code of no request; a length wrong for its code; a length that is right, at 2 and at 33. -/
theorem test_framing_clauses :
    framing [] = .noFrame ∧ framing [0] = .read ∧ framing [64, 26] = .badLength ∧ framing [255, 26] = .badLength ∧
      framing [1] = .badLength ∧ framing (63 :: List.replicate 62 26) = .badLength ∧ framing [2, 1, 0] = .unknown ∧
      framing [1, 255] = .unknown ∧ framing [3, 26, 0, 0] = .badLength ∧ framing [2, 26, 0] = .request 26 [0] ∧
      framing (33 :: 16 :: List.replicate 32 0) = .request 16 (List.replicate 32 0) := by decide +kernel

/-! ### The queue and the port (chapter 9) -/

theorem test_step_takes_the_front :
    (match step { line with pending := [.readPig 1 0, .requestFrameOverrun] } with
      | .next t => (t.pending, ((t.port.held.getD []).getD 1 0).toNat)
      | .fault _ => ([], 0)
      | .refused _ => ([], 0)) = ([.requestFrameOverrun], 22) := by decide +kernel

/-- Witness of EveryRequestIsAnswered and of RefusedRequestsChangeNothing: a request that is refused with code 22. -/
theorem test_refusal_leaves_the_rest :
    isRequest (.readPig 1 0) = true ∧ after line (.readPig 1 0) = { line with port := (after line (.readPig 1 0)).port } ∧
      (after line (.readPig 1 0)).port.held = some [2, 22, 0] := by decide +kernel

/-- R169: a response clocked out short is kept, and sent again from its first byte; clocked out whole it is consumed. -/
theorem test_read_keeps_a_short_read :
    let s := after line (.readPig 1 0)
    (after s (.readResponse 2)).port.held = some [2, 22, 0] ∧ (after s (.readResponse 2)).port.sdo = [2, 22] ∧
      (after s (.readResponse 3)).port.held = none ∧ (after s (.readResponse 5)).port.sdo = [2, 22, 0, 0, 0] ∧
      (after line (.readResponse 1)).port.sdo = [0] := by decide +kernel

/-- R167 step 2, R169: the request in hand has dropped the unread response by the time a further frame is discarded. -/
theorem test_overrun_drops_the_response :
    (after (after line (.readPig 1 0)) .requestFrameOverrun).port =
        { busy := true, held := none, readPosition := 0, overrun := true, discard := true, sdo := [] } ∧
      (after line .requestFrameOverrun).port.discard = false := by decide +kernel

/-- R166: a request assertion drives SDO with zero bytes. -/
theorem test_request_drives_zeros :
    let s := after (after line (.readPig 1 0)) (.readResponse 3)
    s.port.sdoByte 1 = 22 ∧ (after s (.readPig 1 0)).port.sdoByte 1 = 0 := by decide +kernel

/-- R170, R171: a frame dropped while busy, and a response lost unread, show in the next response's flags. -/
theorem test_port_marks :
    (after (after (after line (.readPig 1 0)) .requestFrameOverrun) (.badLength [1])).port.held = some [2, 16, 3] ∧
      statuses [(line, .badLength [1]), (line, .unknownRequest [1, 1])] = [16, 17] := by decide +kernel

/-! ### Invariants: the witnesses -/

/-- Witness of the nine invariants: the test line with a record meets them all, and a step leads on. -/
theorem test_line_meets_the_invariants :
    let s := withPigs [testPig 3 .inLine 20000]
    (TablesRise s ∧ PigBounds s ∧ TrainInOrder s ∧ NothingBelowStart s ∧ HoldsExact s ∧ StrikesExact s ∧
      ProvisionalOnlyInOutage s ∧ RearmOnlyTripped s ∧ QueuesHoldQueued s) ∧ step s = .next s := by
  refine ⟨⟨⟨?_, ?_, ?_, ?_, ?_⟩, ⟨?_, ?_, ?_, ?_⟩, ⟨?_, ?_, ?_, ?_, ?_, ?_⟩, ⟨?_, ?_, ?_⟩, ?_, ?_, ?_, ?_, ?_⟩, rfl⟩ <;>
    first | unfold Rising | unfold Pig.inBounds | unfold HoldsExact | unfold StrikesExact |
      unfold ProvisionalOnlyInOutage | unfold RearmOnlyTripped | unfold QueuesHoldQueued | skip
  all_goals decide +kernel

/-- A table with a number twice does not rise. -/
theorem test_tables_can_fail : ¬ Rising ([testMeter, testMeter].map Meter.num) := by
  unfold Rising
  decide

/-! ### Building the line (chapter 1) -/

/-- R2's checks in order, then its two answers; R3's checks in order, then its answers. -/
theorem test_station_checks :
    let f := stationForm 0
    let g := { f with form := 1, station := 2 }
    statuses
      [(line, .defineStationDefine f), (openLine, .defineStationDefine { f with station := 25 }),
       (openLine, .defineStationDefine { f with address := 32 }), (openLine, .defineStationDefine { f with flags := 8 }),
       (openLine, .defineStationDefine { f with station := 2 }), (openLine, .defineStationDefine f),
       (openLine, .defineStationDefine { f with exitTimeout := 9 }), (openLine, .defineStationDefine { f with lead := 1499 }),
       (line, .defineStationTune { g with station := 0 }), (line, .defineStationTune { g with station := 3 }),
       (line, .defineStationTune { g with station := 1, flags := 8 }), (line, .defineStationTune g),
       (openLine, .defineStationTune { g with pauseLimit := 3601 })] =
      [20, 18, 18, 18, 23, 0, 1, 1, 18, 22, 18, 0, 1] := by decide +kernel

/-- R2, R3: L_r is clamped up to A_r; a station is added in its place. -/
theorem test_station_defined :
    ((after openLine (.defineStationDefine { stationForm 0 with lead := 1499 })).station 3).map
      (fun x => (x.tuning.lead, x.position, x.link.state)) = some (1500, 50000, .out) := by decide +kernel

/-- Witness of StationIsTuned in both Line States. -/
theorem test_station_tuned :
    let g := { stationForm 1 with station := 2 }
    g.form = 1 ∧ ((after line (.defineStationTune { g with clearance := 900 })).station 2).map
      (fun x => (x.tuning.clearance, x.position)) = some (900, 40000) ∧
      ((after openLine (.defineStationTune { g with guardVol := 500001 })).station 2).map (·.tuning.guardVol) =
        some 500000 := by decide +kernel

/-- R5's checks in order, and its two answers. -/
theorem test_detector_checks :
    let f : DetectorFrame := { detector := 63, station := 1, slot := 5, kind := 0, position := 20000, latching := 1, profile := 3,
                               rearmVolume := 200000, reserved := 0 }
    statuses
      [(line, .defineDetector f), (openLine, .defineDetector { f with slot := 6 }),
       (openLine, .defineDetector { f with kind := 2 }), (openLine, .defineDetector { f with station := 3 }),
       (openLine, .defineDetector { f with kind := 2, position := 0 }), (openLine, .defineDetector { f with detector := 2 }),
       (openLine, .defineDetector { f with slot := 1 }), (openLine, .defineDetector { f with kind := 1, position := 0 }),
       (openLine, .defineDetector f), (openLine, .defineDetector { f with rearmVolume := 200001 })] =
      [20, 18, 18, 22, 18, 23, 23, 23, 0, 1] := by decide +kernel

/-- R6's and R7's checks in order, R8's, and their answers. -/
theorem test_valve_and_meter_checks :
    let f : ValveFrame := { form := 0, valve := 47, station := 1, role := 3, position := 0, guardVol := 0, strokeTimeout := 5,
                            reserved := 0 }
    let m := meterForm 0
    let s := { openLine with valves := openLine.valves.filter fun v => v.num ≠ 5 }
    f.form ≠ 1 ∧ m.form ≠ 1 ∧ statuses
      [(line, .defineValveDefine f), (openLine, .defineValveDefine { f with position := 1 }),
       (openLine, .defineValveDefine { f with form := 2 }), (openLine, .defineValveDefine { f with station := 3 }),
       (openLine, .defineValveDefine f), (openLine, .defineValveDefine { f with station := 2 }),
       (s, .defineValveDefine { f with valve := 4, station := 2 }), (s, .defineValveDefine { f with station := 2 }),
       (s, .defineValveDefine { f with station := 2, strokeTimeout := 4 }),
       (line, .defineMeterDefine m), (openLine, .defineMeterDefine { m with meter := 16 }),
       (openLine, .defineMeterDefine { m with station := 3 }), (openLine, .defineMeterDefine { m with meter := 0 }),
       (openLine, .defineMeterDefine { m with station := 1 }), (openLine, .defineMeterDefine m),
       (openLine, .defineMeterDefine { m with maxRate := 0 })] =
      [20, 18, 18, 22, 18, 23, 23, 0, 1, 20, 18, 22, 23, 23, 0, 1] := by decide +kernel

/-- Witness of ValvesAndMetersAreTuned: R8's checks in order and its answers, in READY and in UNCONFIGURED. -/
theorem test_tune_checks :
    let f : ValveFrame := { form := 1, valve := 4, station := 0, role := 0, position := 0, guardVol := 500000, strokeTimeout := 900,
                            reserved := 0 }
    let m := { meterForm 1 with meter := 0 }
    f.form = 1 ∧ m.form = 1 ∧ statuses
      [(line, .defineValveTune { f with valve := 48 }), (line, .defineValveTune { f with valve := 6 }),
       (line, .defineValveTune { f with valve := 5 }), (line, .defineValveTune f),
       (openLine, .defineValveTune { f with guardVol := 500001 }), (line, .defineMeterTune { m with reserved := 1 }),
       (line, .defineMeterTune { m with meter := 1 }), (line, .defineMeterTune m),
       (openLine, .defineMeterTune { m with holdTime := 601 })] = [18, 22, 18, 0, 1, 18, 22, 0, 1] := by decide +kernel

/-- R119, R8: a guard widened in READY takes in the record that stands within it. -/
theorem test_tuned_guard_moves_the_hold :
    ((after (withPigs [testPig 3 .inLine 35000]) (.defineValveTune
        { form := 1, valve := 4, station := 0, role := 0, position := 0, guardVol := 2900, strokeTimeout := 5,
          reserved := 0 })).valve 4).map
      Valve.holders = some [3] := by decide +kernel

/-- R9's checks in order; 255 is none. -/
theorem test_segment_meter_checks :
    statuses [(line, .setSegmentMeter 1 0 0), (openLine, .setSegmentMeter 25 0 0), (openLine, .setSegmentMeter 1 16 0),
      (openLine, .setSegmentMeter 3 0 0), (openLine, .setSegmentMeter 1 15 0), (openLine, .setSegmentMeter 1 255 0)] =
      [20, 18, 18, 22, 22, 0] ∧
    ((after openLine (.setSegmentMeter 1 255 0)).station 1).map Station.segmentMeter = some none := by decide +kernel

/-- R10, R11: the one check of each, and values at and beyond the ends of their ranges. -/
theorem test_profile_and_parameters :
    let f : ProfileFrame := { profile := 3, base := 65536, growth := 200, cap := 5, reserved := 0 }
    let g : ParametersFrame :=
      { spacing := 100000, holdProfile := 3, lostHalfWidth := 1000000, deliveryLimit := 5, silenceLimit := 15,
        fairness := 24, holdWaitLimit := 3600, learningSpan := 1000, reserved := 0 }
    statuses [(line, .setProfile { f with profile := 4 }), (line, .setProfile f), (line, .setLineParameters { g with holdProfile := 4 }),
      (line, .setLineParameters g), (openLine, .setLineParameters { g with fairness := 25 })] = [18, 1, 18, 0, 1] ∧
    (after line (.setProfile f)).profile 3 = { base := 65535, growth := 200, cap := 65535 } ∧
    (after openLine (.setLineParameters { g with fairness := 1 })).params.fairness = 2 := by decide +kernel

/-- R14: COMMIT_LINE's two own checks; R15, R16: a good line enters READY. -/
theorem test_commit :
    statuses [(line, .commitLine 0), (openLine, .commitLine 1), (openLine, .commitLine 0)] = [25, 18, 0] ∧
    dataOf openLine (.commitLine 0) = [2] ∧
      ((after openLine (.commitLine 0)).station 1).map (·.link) = some LinkRecord.proving := by decide +kernel

/-- Witness of CommitSetsTheEntryStates: R14's seven checks, each with the item it names; an earlier check wins. -/
theorem test_commit_checks :
    let s := openLine
    let fails (u : State) : List Nat := statusOf u (.commitLine 0) :: dataOf u (.commitLine 0)
    let without (v : Nat) : State := { s with valves := s.valves.filter fun x => x.num ≠ v }
    [fails { s with stations := [] }, fails { s with stations := s.stations.take 1 },
      fails (withStation s 2 fun x => { x with position := 0 }),
      fails (s.modDetector 2 fun d => { d with position := 40001 }),
      fails (s.modDetector 2 fun d => { d with position := 10000 }),
      fails (after s (.setSegmentMeter 1 255 0)), fails (without 3),
      fails { s with detectors := s.detectors.filter fun d => d.num ≠ 3 },
      fails (s.modValve 4 fun v => { v with position := 40001 }),
      fails (after (without 3) (.setSegmentMeter 1 255 0))] =
      [[21, 1, 0], [21, 1, 1], [21, 2, 2], [21, 3, 2], [21, 3, 2], [21, 4, 1], [21, 5, 1], [21, 6, 2], [21, 7, 4],
        [21, 4, 1]] ∧
    TablesRise s := by
  refine ⟨by decide +kernel, ⟨?_, ?_, ?_, ?_, ?_⟩⟩ <;> (unfold Rising; decide +kernel)

/-- R17, R18: OPEN_LINE is refused while a record is live; CLEAR_LINE is refused in READY. -/
theorem test_open_and_clear :
    statuses [(line, .openLine 1), (withPigs [testPig 3 .trapped 40000], .openLine 0), (openLine, .openLine 0),
      (line, .openLine 0), (line, .clearLine 0), (openLine, .clearLine 1), (openLine, .clearLine 0)] =
      [18, 20, 0, 0, 20, 18, 0] ∧
    (after line (.openLine 0)).lineState = .unconfigured ∧ (after openLine (.clearLine 0)).stations = [] := by
  decide +kernel

/-! ### Reads (chapter 10) -/

/-- R176, R189: READ_VALVE shows the close permit ON as 0 and OFF as 1, before the hold flag, hold count and struck field. -/
theorem test_read_permit :
    ([line, line.modValve 1 fun v => { v with permit := false }].map fun s =>
      ((dataOf s (.readValve 1 0)).reverse.take 4)) = [[0, 0, 0, 0], [0, 0, 0, 1]] := by decide +kernel

/-- The checks of the reads in order. -/
theorem test_read_checks :
    statuses
      [(line, .readLineStatus 1), (line, .readLineStatus 0), (line, .readDetector 64 0), (line, .readDetector 63 0),
       (line, .readDetector 3 0), (line, .readValve 48 0), (line, .readValve 47 0), (line, .readValve 5 0),
       (line, .readMeter 16 0), (line, .readMeter 15 0), (line, .readMeter 0 0), (line, .readAttention 1),
       (line, .readAttention 0), (line, .listTrain 32 0), (line, .listTrain 31 0), (line, .listAll 1), (line, .listAll 0),
       (line, .readStation 25 0), (line, .readStation 24 0), (line, .readStation 2 0), (line, .readPig 0 0),
       (line, .readPig 1 0), (withPigs [testPig 3 .lost 20000], .readPig 3 0)] =
      [18, 0, 18, 22, 0, 18, 22, 0, 18, 22, 0, 18, 0, 18, 0, 18, 0, 18, 22, 0, 18, 22, 0] := by decide +kernel

/-- R183, R184: a read shows and clears the changed flag. -/
theorem test_reads_clear_changed :
    let s := line.touch 2
    (s.station 2).map Station.changed = some true ∧ (after s (.readStation 2 0)) =
      { line with port := (after s (.readStation 2 0)).port } := by decide +kernel

/-! ### Service (chapters 3, 5, 6, 8) -/

/-- R161: the checks in order, and the station OUT with cause HOST; IN takes it to PROVING. -/
theorem test_station_service :
    let s := withSlot line 1 fun x => { x with state := .stepping }
    let out := after line (.setStationService 2 1 0)
    statuses [(line, .setStationService 0 0 0), (line, .setStationService 1 2 0), (line, .setStationService 3 0 0),
      (s, .setStationService 1 1 0), (s, .setStationService 2 1 0), (openLine, .setStationService 1 1 0)] =
      [18, 18, 22, 28, 0, 0] ∧
    out.linkStateOf 2 = .out ∧ (after out (.setStationService 2 0 0)).linkStateOf 2 = .proving ∧
      after line (.setStationService 2 0 0) = { line with port := (after line (.setStationService 2 0 0)).port } := by
  decide +kernel

/-- R101, R102: the checks in order, and the two effects. -/
theorem test_detector_service :
    let out := after line (.setDetectorServiceOut 3 1 0)
    statuses [(openLine, .setDetectorServiceOut 3 1 0), (line, .setDetectorServiceOut 64 1 0),
      (line, .setDetectorServiceOut 63 1 0), (line, .setDetectorServiceOut 3 1 0), (openLine, .setDetectorServiceIn 3 0 0),
      (line, .setDetectorServiceIn 3 2 0), (line, .setDetectorServiceIn 4 0 0), (line, .setDetectorServiceIn 3 0 0)] =
      [19, 18, 22, 0, 19, 18, 22, 0] ∧
    (out.detector 3).map Detector.state = some .out ∧
      ((after out (.setDetectorServiceIn 3 0 0)).detector 3).map Detector.state = some .unknown := by decide +kernel

/-- R57: the checks in order, and the baseline awaited. -/
theorem test_rebase :
    statuses [(openLine, .rebaseMeter 0 0), (line, .rebaseMeter 16 0), (line, .rebaseMeter 15 0), (line, .rebaseMeter 0 0)] =
      [19, 18, 22, 0] ∧
    ((after line (.rebaseMeter 0 0)).meter 0).map (fun m => (m.state, m.totalizer, m.rate)) =
      some (.baselinePending, none, 0) := by decide +kernel

/-- R118: the checks in order, and the permit. -/
theorem test_permit :
    statuses [(openLine, .setValvePermit 4 1 0), (line, .setValvePermit 4 2 0), (line, .setValvePermit 6 1 0),
      (line, .setValvePermit 4 1 0), (line, .setValvePermit 4 0 0)] = [19, 18, 22, 0, 0] ∧
    ((after line (.setValvePermit 4 1 0)).valve 4).map Valve.permit = some false := by decide +kernel

/-! ### Pig requests (chapter 2) -/

/-- A LAUNCH of a tag from station 1 to station 2. -/
def launchOf (tag : BitVec 16) (slip : BitVec 16) : LaunchFrame :=
  { tag := tag, launch := 1, destination := 2, slip := slip, learning := 1, reserved := 0 }

/-- R31's thirteen checks in order, then its two answers. -/
theorem test_launch_checks :
    let f := launchOf 3 250
    let link (st : LinkState) := withStation line 1 fun x => { x with link := { x.link with state := st } }
    statuses
      [(openLine, .launch f), (line, .launch (launchOf 0 0)), (line, .launch { f with launch := 25 }),
       (line, .launch { f with launch := 3 }), (line, .launch { f with launch := 2, destination := 2 }),
       (withPigs [testPig 3 .lost 20000], .launch f), (link .silent, .launch f), (link .proving, .launch f),
       (link .out, .launch f), (withStation line 1 fun x => { x with trapFault := true }, .launch f),
       (withSlot line 1 fun x => { x with state := .paused }, .launch f),
       (withPigs [testPig 4 .launchFailed 0], .launch f),
       (withCommand line 1 (testCommand .queued .toOpen .host), .launch f),
       (withPigs ((List.range 32).map fun t => testPig (t + 4) .lost 20000), .launch f),
       (withPigs [testPig 4 .inLine 2300], .launch f), (withPigs [testPig 4 .inLine 2301], .launch f),
       (line, .launch (launchOf 3 251)), (withPigs [testPig 3 .launchFailed 0], .launch f)] =
      [19, 18, 18, 22, 18, 23, 32, 25, 25, 34, 28, 33, 26, 24, 35, 0, 1, 0] := by decide +kernel

/-- R127, R130, R145: the three ways a launch begins. -/
theorem test_launch_begins :
    let f := launchOf 3 20
    let open_ := withStation line 1 fun x => { x with link := { x.link with launchDoor := false } }
    ((after line (.launch f)).slotOf 1).step = some .l2 ∧
      ((after line (.launch f)).valve 2).bind Valve.command = some (testCommand .queued .toOpen .sequence) ∧
      ((after { line with lineTrip := true } (.launch f)).slotOf 1).state = .paused ∧
      ((after open_ (.launch f)).slotOf 1).lastOutcome = some .notSecure ∧
      ((after open_ (.launch f)).pig 3).map Pig.state = some .launchFailed ∧ TablesRise line := by
  refine ⟨?_, ?_, ?_, ?_, ?_, ⟨?_, ?_, ?_, ?_, ?_⟩⟩ <;> first | decide +kernel | (unfold Rising; decide +kernel)

/-- A receive of record 3 at station 2 that waits for its clearance, with record 2 ahead at a position, beside others. -/
def awaitsClearance (ahead : Nat) (others : List Pig) : State :=
  withSlot (withPigs ([testPig 2 .inLine ahead, testPig 3 .inLine 20000] ++ others)) 2 fun x =>
    { x with kind := some .receive, bound := some 3, state := .waitClearance, step := some .rx3 }

/-- R29, R135: a record that becomes STAGED, or LAUNCH_FAILED as its launch is given up, is handed on, so that a receive
whose clearance gate stands open unlooked-at goes on; at a shut gate, the record ahead being no farther than the valve's
zone, it waits on, which meets the premises of LaunchStartsItsSequence and LineTripActsOnQueuesAndSlots at its bound. -/
theorem test_launch_is_handed_on :
    let launched (ahead : Nat) := after (awaitsClearance ahead []) (.launch (launchOf 5 20))
    let givenUp (ahead : Nat) := (withSlot (awaitsClearance ahead [testPig 5 .staged 0]) 1 fun x =>
      { x with kind := some .launch, bound := some 5, state := .waitPassage, step := some .l5 }).endSequence 1 .aborted none
    ((launched 40200).slotOf 2).state = .waitClearance ∧ ((launched 40201).slotOf 2).state ≠ .waitClearance ∧
      ((givenUp 40200).slotOf 2).state = .waitClearance ∧ ((givenUp 40201).slotOf 2).state ≠ .waitClearance ∧
      ((givenUp 40201).pig 5).map Pig.state = some .launchFailed ∧ TrainInOrder (awaitsClearance 40000 []) := by
  refine ⟨?_, ?_, ?_, ?_, ?_, ⟨?_, ?_, ?_, ?_, ?_, ?_⟩⟩ <;> decide +kernel

/-- R29, R97: a TRIPPED latching detector that awaits the launched record joins its re-arm set. -/
theorem test_launch_rearms :
    let s := line.modDetector 2 fun d => { d with state := .tripped, awaited := some 5 }
    let joins (tag : BitVec 16) := ((after s (.launch (launchOf tag 20))).detector 2).map Detector.inRearmSet
    joins 5 = some true ∧ joins 6 = some false := by decide +kernel

/-- R36's checks in order, then its answers; R24: a joining record goes behind those at its own position. -/
theorem test_declare :
    let f : DeclareFrame := { tag := 7, position := 39999, destination := 2, slip := 250, learning := 1, reserved := 0 }
    let s := withPigs [testPig 3 .inLine 20000, testPig 4 .inLine 15000]
    statuses [(openLine, .declarePig f), (line, .declarePig { f with position := 40001 }),
      (line, .declarePig { f with destination := 3 }), (line, .declarePig { f with destination := 1 }),
      (line, .declarePig { f with position := 40000 }), (s, .declarePig { f with tag := 4 }),
      (withPigs ((List.range 32).map fun t => testPig (t + 8) .lost 20000), .declarePig f), (line, .declarePig f),
      (line, .declarePig { f with slip := 251, position := 0 })] = [19, 18, 22, 18, 18, 23, 24, 0, 1] ∧
    (after s (.declarePig { f with position := 20000 })).train = [3, 7, 4] ∧
      (after s (.declarePig { f with position := 10000 })).train = [3, 4, 7] := by decide +kernel

/-- R39's checks in order, then its answers. -/
theorem test_amend :
    let f : AmendFrame := { tag := 3, parts := 4, slip := 0, learning := 0, destination := 2, reserved := 0 }
    let s := withPigs [testPig 3 .inLine 20000]
    let receiving (t : Nat) := withSlot s 2 fun x => { x with state := .paused, kind := some .receive, bound := some t }
    statuses [(openLine, .amendPig f), (s, .amendPig { f with parts := 0, destination := 0 }),
      (s, .amendPig { f with parts := 1 }), (s, .amendPig { f with parts := 8, destination := 0 }),
      (line, .amendPig f), (s, .amendPig { f with destination := 3 }), (withPigs [testPig 3 .trapped 40000], .amendPig f),
      (receiving 3, .amendPig f), (s, .amendPig { f with destination := 1 }), (receiving 4, .amendPig f),
      (s, .amendPig f), (s, .amendPig { f with parts := 1, slip := 251, destination := 0 })] =
      [19, 18, 18, 18, 22, 22, 25, 28, 18, 28, 0, 1] := by decide +kernel

/-- R86's checks in order; R87: the clamp between neighbours, and the position in the data. -/
theorem test_fix :
    let f : FixFrame := { tag := 3, position := 20000, reserved := 0 }
    let s := withPigs [testPig 4 .inLine 21000, testPig 3 .inLine 20000, testPig 5 .lost 9000]
    let u := { s with pigs := [testPig 3 .inLine 20000, testPig 4 .inLine 21000, testPig 5 .lost 9000] }
    statuses [(openLine, .fixPig f), (line, .fixPig { f with position := 40001 }), (line, .fixPig f),
      (withPigs [testPig 3 .staged 0], .fixPig f), (u, .fixPig f), (u, .fixPig { f with position := 30000 })] =
      [19, 18, 22, 25, 0, 1] ∧
    dataOf u (.fixPig { f with position := 30000 }) = [0, 0, 82, 8] ∧
      (after u (.fixPig { f with tag := 5, position := 20500 })).train = [4, 5, 3] := by decide +kernel

/-- R41's checks in order and both cases; R42's checks in order; R43: the record is gone. -/
theorem test_lost_and_retired :
    let s := withPigs [testPig 3 .inLine 20000]
    let l := withPigs [testPig 3 .lost 20000]
    statuses [(openLine, .declareLost 3 0), (line, .declareLost 0 0), (line, .declareLost 3 0),
      (withPigs [testPig 3 .trapped 40000], .declareLost 3 0), (l, .declareLost 3 0), (s, .declareLost 3 0),
      (openLine, .retirePig 3 0), (line, .retirePig 0 0), (line, .retirePig 3 0),
      (withPigs [testPig 3 .staged 0], .retirePig 3 0), (s, .retirePig 3 0),
      (withSlot l 2 fun x => { x with state := .paused, bound := some 3 }, .retirePig 3 0), (l, .retirePig 3 0)] =
      [19, 18, 22, 25, 0, 0, 19, 18, 22, 28, 25, 28, 0] ∧
    (after s (.declareLost 3 0)).train = [] ∧ (after s (.declareLost 3 0)).alertSet .pigLost = true ∧
      (after l (.retirePig 3 0)).pigs = [] := by decide +kernel

/-! ### Sequences (chapter 7) -/

/-- R128's checks in order, and the two ways a receive begins that are not under LINE_TRIP. -/
theorem test_receive :
    let s := withPigs [testPig 3 .inLine 20000]
    let at2 (f : Station → Station) := withStation s 2 f
    statuses [(openLine, .armReceive 3 0), (s, .armReceive 0 0), (line, .armReceive 3 0),
      (withPigs [testPig 3 .launchFailed 0], .armReceive 3 0),
      (at2 fun x => { x with link := { x.link with state := .silent } }, .armReceive 3 0),
      (at2 fun x => { x with link := { x.link with state := .proving } }, .armReceive 3 0),
      (at2 fun x => { x with trapFault := true }, .armReceive 3 0),
      (withSlot s 2 fun x => { x with state := .paused }, .armReceive 3 0),
      (withPigs [testPig 3 .inLine 20000, testPig 4 .trapped 40000], .armReceive 3 0),
      (s.modValve 5 fun x => { x with command := some (testCommand .travelling .toOpen .host) }, .armReceive 3 0),
      (withSlot s 1 fun x => { x with state := .paused, kind := some .launch, bound := some 3 }, .armReceive 3 0),
      (s, .armReceive 3 0)] = [19, 18, 22, 25, 32, 25, 34, 28, 33, 26, 28, 0] ∧
    ((after s (.armReceive 3 0)).slotOf 2).step = some .rx2 ∧
      ((after (withPigs [testPig 3 .inLine 36500]) (.armReceive 3 0)).slotOf 2).lastOutcome = some .notReady ∧
      ((after (withPigs [testPig 3 .inLine 36499]) (.armReceive 3 0)).slotOf 2).state = .stepping := by decide +kernel

/-- R129: an automatic receive starts for a record within the lead, and not short of it. -/
theorem test_auto_receive :
    let s := withPigs [testPig 3 .inLine 35000]
    ((s.station 2).map fun x => (s.autoReady x, s.pigs.map (s.autoQualifies x))) = some (true, [true]) ∧
      ((after s (.autoReceiveStart 2)).slotOf 2).bound = some 3 ∧
      (let u := withPigs [testPig 3 .inLine 34999]; after u (.autoReceiveStart 2) = u) := by decide +kernel

/-- R140, R141: the checks in order; the waits and the valve step a PAUSED slot goes on to. -/
theorem test_pause_and_continue :
    let s := withPigs [testPig 3 .staged 0]
    let run := withSlot s 1 fun x => { x with kind := some .launch, state := .waitPassage, bound := some 3, step := some .l5 }
    let paused (p : SeqStep) := withSlot run 1 fun x => { x with state := .paused, step := some p, resume := some p }
    statuses [(openLine, .pauseSequence 1 0), (line, .pauseSequence 25 0), (line, .pauseSequence 3 0),
      (line, .pauseSequence 1 0), (run, .pauseSequence 1 0), (paused .l5, .pauseSequence 1 0),
      (openLine, .continueSequence 1 0), (line, .continueSequence 0 0), (line, .continueSequence 3 0),
      ({ paused .l5 with lineTrip := true }, .continueSequence 1 0), (run, .continueSequence 1 0),
      (paused .l5, .continueSequence 1 0), (withSlot run 1 fun x => { x with pausePending := some .host }, .continueSequence 1 0)] =
      [19, 18, 22, 25, 0, 0, 19, 18, 22, 31, 25, 0, 0] ∧
    ((after run (.pauseSequence 1 0)).slotOf 1).pausePending = some .host ∧
      ((after (paused .l5) (.continueSequence 1 0)).slotOf 1).state = .waitPassage ∧
      ((after (paused .l2) (.continueSequence 1 0)).slotOf 1).state = .stepping ∧
      (paused .l2).deadlineReached 1 = false ∧ (paused .l2).gate 1 .l2 = none := by decide +kernel

/-- R142, R144, R148: the checks in order; an abort in a wait, in a valve step that waits, and in one that travels. -/
theorem test_abort :
    let s := withPigs [testPig 3 .staged 0]
    let run := withSlot s 1 fun x => { x with kind := some .launch, state := .waitPassage, bound := some 3, step := some .l5 }
    let stepping (ph : Phase) := withCommand (withSlot run 1 fun x => { x with state := .stepping, step := some .l2 }) 2
      (testCommand ph .toOpen .sequence)
    statuses [(openLine, .abortSequence 1 0), (line, .abortSequence 1 1), (line, .abortSequence 3 0),
      (line, .abortSequence 1 0), (withSlot run 1 fun x => { x with state := .restoring }, .abortSequence 1 0),
      (run, .abortSequence 1 0)] = [19, 18, 22, 25, 0, 0] ∧
    ((after run (.abortSequence 1 0)).slotOf 1).lastOutcome = some .aborted ∧
      ((after run (.abortSequence 1 0)).pig 3).map Pig.state = some .launchFailed ∧
      ((after (stepping .queued) (.abortSequence 1 0)).valve 2).map Valve.lastOutcome = some (some .withdrawn) ∧
      ((after (stepping .travelling) (.abortSequence 1 0)).slotOf 1).abortPending = some .aborted := by decide +kernel

/-- R144, R145, R146: an abort with two valves moved restores the kicker before the outlet; under LINE_TRIP the tail of a
sequence that the host had paused stops at its first boundary. -/
theorem test_abort_restores :
    let s := withSlot ((withPigs [testPig 3 .staged 0]).modValve 3 fun v => { v with debounced := .opened }) 1 fun x =>
      { x with kind := some .launch, state := .paused, pauseCause := some .host, bound := some 3, step := some .l4,
               resume := some .l4, marks := { x.marks with kicker := true, outlet := true } }
    let shows (u : State) := ((u.slotOf 1).state, (u.slotOf 1).step, (u.slotOf 1).cause, (u.slotOf 1).pauseCause)
    shows (after s (.abortSequence 1 0)) = (.restoring, some .restoreKicker, some .aborted, none) ∧
      ((after s (.abortSequence 1 0)).valve 3).bind Valve.command = some (testCommand .queued .toClose .sequence) ∧
      shows (after { s with lineTrip := true } (.abortSequence 1 0)) =
        (.paused, some .restoreKicker, some .aborted, some .trip) := by decide +kernel

/-- R151. -/
theorem test_clear_trap_fault :
    let s := withStation line 2 fun x => { x with trapFault := true }
    statuses [(line, .clearTrapFault 25 0), (line, .clearTrapFault 24 0), (line, .clearTrapFault 2 0), (s, .clearTrapFault 2 0)] =
      [18, 22, 0, 0] ∧ (after s (.clearTrapFault 2 0)).trapFaultOf 2 = false := by decide +kernel

/-! ### Valve requests (chapter 6) -/

/-- R108's ten checks in order, and R109's two answers. -/
theorem test_command_valve :
    let at1 (f : Station → Station) := withStation line 1 f
    let held := line.modValve 1 fun x => { x with holders := [3] }
    statuses [(openLine, .commandValve 1 1 0), (line, .commandValve 1 2 0), (line, .commandValve 6 1 0),
      ({ line with lineTrip := true }, .commandValve 1 1 0),
      (withSlot line 1 fun x => { x with state := .paused }, .commandValve 1 1 0),
      (withCommand line 1 (testCommand .queued .toOpen .host), .commandValve 1 1 0),
      (at1 fun x => { x with link := { x.link with state := .out } }, .commandValve 1 1 0),
      (at1 fun x => { x with link := { x.link with state := .silent }, tuning := { x.tuning with policy := .refuse } },
        .commandValve 1 1 0),
      (held, .commandValve 1 1 0), (line.modValve 1 fun x => { x with permit := false }, .commandValve 1 1 0),
      (at1 fun x => { x with link := { x.link with remote := false } }, .commandValve 1 1 0),
      (held, .commandValve 1 0 0), (line, .commandValve 1 1 0)] = [19, 18, 22, 31, 27, 26, 25, 32, 29, 30, 30, 0, 0] ∧
    dataOf held (.commandValve 1 0 0) = [1, 0, 1] ∧ dataOf line (.commandValve 1 1 0) = [0, 1, 0] := by decide +kernel

/-- R114's checks in order. -/
theorem test_withdraw :
    let s := withCommand line 1 (testCommand .queued .toOpen .host)
    statuses [(openLine, .withdrawValveCommand 1 0), (line, .withdrawValveCommand 48 0), (line, .withdrawValveCommand 6 0),
      (withSlot s 1 fun x => { x with state := .paused }, .withdrawValveCommand 1 0), (line, .withdrawValveCommand 1 0),
      (withCommand line 1 (testCommand .travelling .toOpen .host), .withdrawValveCommand 1 0),
      (withCommand line 1 { testCommand .queued .toOpen .host with carried := true }, .withdrawValveCommand 1 0),
      (s, .withdrawValveCommand 1 0)] = [19, 18, 22, 27, 25, 25, 25, 0] ∧
    ((after s (.withdrawValveCommand 1 0)).station 1).map Station.queue = some [] := by decide +kernel

/-! ### Attention (chapter 10) -/

/-- R187, R190: the checks, what is left, and the levels of the pins. -/
theorem test_attention :
    let s := (line.raise .lineTrip).note .passage
    statuses [(line, .ackAlert { alerts := 512, notes := 0, reserved := 0 }),
      (s, .ackAlert { alerts := 256, notes := 0, reserved := 0 }),
      (line, .setAttentionMasks { alerts := 511, notes := 16, globals := 0, reserved := 0 }),
      (line, .setAttentionMasks { alerts := 511, notes := 15, globals := 3, reserved := 0 })] = [18, 0, 18, 0] ∧
    dataOf s (.ackAlert { alerts := 255, notes := 1, reserved := 0 }) = [1, 0, 0] ∧
      dataOf (s.touch 1) (.ackAlert { alerts := 256, notes := 0, reserved := 0 }) = [0, 0, 9] ∧
      (s.alertLow, s.noteLow, line.alertLow, (line.touch 1).noteLow) = (true, true, false, true) := by decide +kernel

/-! ### The Station Link (chapter 8) -/

/-- R163, R164: both stations cold, the count goes on from the last served; a poll wait at F wins. -/
theorem test_arbiter :
    ((after line .pollSlotStart).link.lastServed,
      (after { line with link := { line.link with lastServed := some 1 } } .pollSlotStart).link.lastServed,
      (after (withStation line 2 fun x => { x with link := { x.link with pollWait := 8 } }) .pollSlotStart).link.lastServed) =
      (some 1, some 2, some 2) ∧ after openLine .pollSlotStart = openLine := by decide +kernel

/-- R110, R155: the head of the queue is carried; with the queue empty, the lowest slot of the re-arm set. -/
theorem test_poll_carries :
    let item (s : State) := (after s .pollSlotStart).link.slot.map PollSlot.item
    item line = some .nothing ∧ item (withCommand line 2 (testCommand .queued .toOpen .host)) = some (.valve 2) ∧
      item (line.modDetector 1 fun d => { d with state := .tripped, inRearmSet := true }) = some (.rearm 1) ∧
      (after line .pollSlotStart).link.txFrame.take 3 = [1, 0, 0] := by decide +kernel

/-- R110: a head that fails a test of R110 ends with its outcome and leaves the queue, and the next head is carried; where
all fail, the poll carries nothing. -/
theorem test_heads_fail :
    let s := withCommand line 2 (testCommand .queued .toClose .host)
    let u := after (withCommand (withCommand (s.modValve 1 fun v => { v with permit := false }) 1
      (testCommand .queued .toClose .host)) 3 (testCommand .queued .toOpen .host)) .pollSlotStart
    ([1, 2].map fun v => (u.valve v).map fun y => (y.command, y.lastOutcome)) =
        [some (none, some .inhibited), some (none, some .already)] ∧
      u.link.slot.map PollSlot.item = some (.valve 3) ∧ (u.station 1).map Station.queue = some [3] ∧
      (after s .pollSlotStart).link.slot.map PollSlot.item = some .nothing := by decide +kernel

/-- A slot that waits for the report of station 1, carrying an item. -/
def waiting (s : State) (item : Carried) : State :=
  { s with link := { s.link with slot := some { station := 1, item := item, timeout := 80, fate := .awaited } } }

/-- The report of station 1 with the totalizer 1,100, its detectors ARMED and its valves as they stand. -/
def testReport (reply : Byte) : List Byte :=
  withCrc [1, 15, reply, 7, 3, 23, 8, 0, 8, 0, 0, 1, 1, 0, 0, 4, 76]

/-- Witness of AcceptedReportIsProcessed: the lists match, and the report is processed; R158: unmatched, unproven. -/
theorem test_report_accepted :
    let s := { waiting line .nothing with clock := 10 }
    reportWhole (testReport 0) = true ∧ (judge 1 (testReport 0)).map (s.listsMatch 1) = some true ∧
      (after s (.report (testReport 0))).link.slot = none ∧
      ((after s (.report (testReport 0))).meter 0).map (fun m => (m.state, m.totalizer, m.rate)) = some (.live, some 1100, 10) ∧
      (let u := withStation s 1 fun x => { x with link := LinkRecord.proving, address := 2 }
       (judge 2 (withCrc [2, 4, 0, 7, 0, 0])).map (u.listsMatch 1) = some false ∧
         (after u (.report (withCrc [2, 4, 0, 7, 0, 0]))).linkStateOf 1 = .out) := by decide +kernel

/-- R111: ACCEPTED takes the carried command to TRAVELLING. -/
theorem test_reply_accepted :
    let s := waiting (withCommand line 2 { testCommand .queued .toOpen .host with carried := true }) (.valve 2)
    ((after s (.report (testReport 1))).valve 2).bind Valve.command =
      some { testCommand .travelling .toOpen .host with strokeStart := some 0 } := by decide +kernel

/-- R111, R112, R123: a refusal, a refusal of a command that LINE_TRIP marked, NONE without a mark and with one, and ACCEPTED at
the target already. -/
theorem test_replies :
    let s (c : Command) := withCommand line 2 { c with carried := true }
    let shows (u : State) := (u.valve 2).map fun y => (y.command.map fun c => (c.phase, c.carried), y.lastOutcome)
    let c := testCommand .queued .toOpen .host
    [shows ((s c).commandReply (.valve 2) .refusedLocal),
      shows ((s { c with marks := [.lineTripped] }).commandReply (.valve 2) .unknownTarget),
      shows ((s c).commandReply (.valve 2) .none),
      shows ((s { c with marks := [.lapsed, .lineTripped] }).commandReply (.valve 2) .none),
      shows ((s { c with marks := [.lineTripped] }).commandReply (.valve 2) .none),
      shows ((s { c with target := .toClose }).commandReply (.valve 2) .accepted),
      shows (((s c).modValve 2 fun v => { v with debounced := .fault }).commandReply (.valve 2) .accepted)] =
      [some (none, some .refused), some (none, some .inhibited), some (some (.queued, false), none),
        some (none, some .undelivered), some (none, some .inhibited), some (none, some .done), some (none, some .fault)] ∧
    (let t := (withCommand line 2 (testCommand .travelling .toOpen .host)).modValve 2 fun v => { v with pendingReport := some .opened }
     shows (t.valvePart 2 .opened) = some (none, some .done)) := by decide +kernel

/-- R131: ACCEPTED of a sequence's command that moves its valve sets the moved mark. -/
theorem test_accepted_sets_the_mark :
    let s := withSlot (withCommand line 2 { testCommand .queued .toOpen .sequence with carried := true }) 1
      fun x => { x with kind := some .launch, state := .stepping, step := some .l2 }
    ((s.commandReply (.valve 2) .accepted).slotOf 1).marks.outlet = true := by decide +kernel

/-- R98: each reply to a carried REARM, of a detector that stands in its set; and of one that has left it. -/
theorem test_rearm_replies :
    let s := line.modDetector 1 fun d => { d with state := .tripped, inRearmSet := true }
    let shows (r : Reply) := ((s.commandReply (.rearm 1) r).detector 1).map fun d => (d.state, d.inRearmSet)
    [shows .accepted, shows .refusedFault, shows .unknownTarget, shows .refusedLocal, shows .none] =
      [some (.rearming, false), some (.faulted, false), some (.faulted, false), some (.tripped, true), some (.tripped, true)] ∧
    line.commandReply (.rearm 1) .accepted = line := by decide +kernel

/-- Witness of MissedReplyCounts: R56, R159, R160, each clause: no slot, an abandoned one, a station taken OUT, a bad frame,
and the third miss in a row, at the silence limit. -/
theorem test_missed_replies :
    let s := waiting line .nothing
    let fate (f : SlotFate) := s.setFate f
    let nearly := withStation s 1 fun x => { x with link := { x.link with missed := 2 } }
    after line .replyTimeout = line ∧ after (fate .abandoned) .replyTimeout = line ∧
      after (fate .abandoned) (.report (testReport 0)) = fate .abandoned ∧
      after (fate .stationOut) (.report (testReport 0)) = line ∧
      judge 1 [1, 0, 0, 0] = none ∧ after s (.report [1, 0, 0, 0]) = after s .replyTimeout ∧
      ((after s .replyTimeout).meter 0).map Meter.state = some .extrapolating ∧
      ((after s .replyTimeout).station 1).map (fun x => (x.link.missed, x.link.state)) = some (1, .active) ∧
      (after nearly .replyTimeout).linkStateOf 1 = .silent ∧ (after nearly .replyTimeout).alertSet .stationSilent = true := by
  decide +kernel

/-- R165: the checks in order. -/
theorem test_link_reset :
    statuses [(openLine, .linkReset 0), (line, .linkReset 1), (withSlot line 1 fun x => { x with state := .paused }, .linkReset 0),
      (withCommand line 1 (testCommand .travelling .toOpen .host), .linkReset 0), (line, .linkReset 0)] = [19, 18, 28, 26, 0] ∧
    ((after line (.linkReset 0)).valve 1).map Valve.debounced = some .unknown := by decide +kernel

/-! ### Time (chapter 3) -/

/-- Witness of SecondAdvancesTheCounts: UNCONFIGURED, nothing extrapolating, and the clock at its bound. -/
theorem test_second :
    after openLine .lineClockSecond = { openLine with clock := 1 } ∧
      (∀ k ∈ [1, 2], line.autoCandidate k = none) ∧ line.due = [] ∧
      after line .lineClockSecond = { line with clock := 1 } ∧
      (after { line with clock := 4294967295 } .lineClockSecond).clock = 4294967295 := by decide +kernel

/-- The line with pig 3 in it at 20000 and the meter `n` seconds into an outage, a second on. -/
def outageSecond (n : Nat) : State :=
  after ((withPigs [testPig 3 .inLine 20000]).modMeter 0 fun x => { x with state := .extrapolating, extrapolated := n })
    .lineClockSecond

/-- The meter's provisional volume and seconds, whether it is STALE, and the position of pig 3, as `outageSecond n` has them. -/
def outageShows (n volume seconds position : Nat) (stale : Bool) : Bool :=
  let s := outageSecond n
  (s.meter 0).any (fun x => x.provisional == volume && x.extrapolated == seconds && (x.state == .stale) == stale) &&
    s.pigPos 3 == position

/-- Witness of SecondAdvancesTheCounts, R54, R56, R58: the second before the hold time, the one that reaches it, which
releases first, and a meter at it already, which releases nothing. -/
theorem test_outage_second :
    outageShows 3 100 4 20098 false = true ∧ outageShows 4 100 5 20098 true = true ∧
      outageShows 5 0 5 20000 true = true := by decide +kernel

/-- R12, R112, R113, R139: the counts of a command and of a slot, and the slot's under LINE_TRIP. -/
theorem test_counts :
    let s := withSlot (withCommand line 1 { testCommand .travelling .toClose .host with strokeCount := 4 }) 2
      fun x => { x with kind := some .receive, state := .waitPassage, passage := 19 }
    let t := after s .lineClockSecond
    t.due = [.stroke 1, .arrival 2] ∧ (t.slotOf 2).passage = 20 ∧
      (after { s with lineTrip := true } .lineClockSecond).due = [.stroke 1] ∧
      ((after { s with lineTrip := true } .lineClockSecond).slotOf 2).passage = 19 := by decide +kernel

/-- Witness of MeterAndDetectorTimersExpire, the meter's clauses. -/
theorem test_meter_stale :
    let m := { line.modMeter 0 (fun x => { x with state := .extrapolating, extrapolated := 5 }) with due := [.meterStale 0] }
    after { m with due := [] } (.meterStale 0) = { m with due := [] } ∧
      after { line with due := [.meterStale 0] } (.meterStale 0) = line ∧
      ((after m (.meterStale 0)).meter 0).map Meter.state = some .stale ∧ (after m (.meterStale 0)).due = [] ∧
      ((after { m with lineState := .unconfigured } (.meterStale 0)).meter 0).map Meter.state = some .extrapolating := by
  decide +kernel

/-- R8, R12, R56: a hold time lowered to the count reached takes the meter to STALE at the next second, not before, with
no release at that second. -/
theorem test_lowered_hold_time :
    let s := line.modMeter 0 fun x => { x with state := .extrapolating, extrapolated := 3, holdTime := 2 }
    after s (.meterStale 0) = s ∧ ((after s .lineClockSecond).meter 0).map Meter.state = some .stale ∧
      ((after s .lineClockSecond).meter 0).map Meter.provisional = (s.meter 0).map Meter.provisional ∧
      (after s .lineClockSecond).due = [] := by decide +kernel

/-- Witness of MeterAndDetectorTimersExpire, the detector's clauses. -/
theorem test_confirmation_lapse :
    let d (n : Nat) := { line.modDetector 1 (fun x => { x with state := .rearming, confirmCount := n }) with
      due := [.confirmation 1] }
    after line (.confirmationLapse 1) = line ∧
      ((after (d 0) (.confirmationLapse 1)).detector 1).map Detector.state = some .rearming ∧
      ((after (d 60) (.confirmationLapse 1)).detector 1).map (fun x => (x.state, x.inRearmSet)) = some (.tripped, true) := by
  decide +kernel

/-- R12: a timer that a second made due expires by the limit then held; a limit raised after that second does not stop it. -/
theorem test_raised_limit :
    let s := after (withCommand line 2 { testCommand .travelling .toOpen .host with strokeCount := 4 }) .lineClockSecond
    let u := s.modValve 2 fun v => { v with strokeTimeout := 900 }
    s.due = [.stroke 2] ∧ ((after u (.strokeTimeout 2)).valve 2).map Valve.lastOutcome = some (some .timeout) ∧
      ((after u .lineClockSecond).valve 2).map Valve.lastOutcome = some (some .timeout) := by decide +kernel

/-- Witness of ValveTimersExpire, each clause. -/
theorem test_valve_timers :
    let s (c : Command) := { withCommand line 2 c with due := [.stroke 2, .delivery 2] }
    let restoring := withSlot (s { testCommand .travelling .toClose .sequence with strokeCount := 5 }) 1
      fun x => { x with kind := some .launch, state := .restoring, step := some .restoreOutlet, cause := some .aborted,
                        marks := { x.marks with outlet := true } }
    ((after (s { testCommand .travelling .toOpen .host with strokeCount := 5 }) (.strokeTimeout 2)).valve 2).map
        Valve.lastOutcome = some (some .timeout) ∧
      ((after (s { testCommand .queued .toOpen .host with queuedCount := 60 }) (.deliveryLimitExpiry 2)).valve 2).map
        Valve.lastOutcome = some (some .undelivered) ∧
      (((after (s { testCommand .queued .toOpen .host with queuedCount := 60, carried := true })
        (.deliveryLimitExpiry 2)).valve 2).bind Valve.command).map Command.marks = some [.lapsed] ∧
      (after restoring (.strokeTimeout 2)).trapFaultOf 1 = true ∧
      ((after restoring (.strokeTimeout 2)).slotOf 1).lastOutcome = some .restoreFailed := by decide +kernel

/-- Witness of SequenceWaitsExpire, each clause at its limit. -/
theorem test_sequence_waits :
    let s := withPigs [testPig 3 .staged 0]
    let l (f : Slot → Slot) := { withSlot s 1 (fun x => f { x with kind := some .launch, bound := some 3, step := some .l5 }) with
      due := [.holdWait 1, .launchExit 1, .pause 1] }
    let r := { withSlot s 2 (fun x => { x with kind := some .receive, state := .waitPassage, passage := 20, step := some .rx4 }) with
      due := [.arrival 2] }
    let outcome (t : State) (k : Nat) := (t.slotOf k).lastOutcome
    outcome (after (l fun x => { x with state := .waitHold, holdWait := 300 }) (.holdLapsed 1)) 1 = some .holdLapsed ∧
      outcome (after (l fun x => { x with state := .waitPassage, passage := 20 }) (.launchTimeout 1)) 1 = some .launchTimeout ∧
      outcome (after r (.arrivalTimeout 2)) 2 = some .arrivalTimeout ∧
      outcome (after (l fun x => { x with state := .paused, pause := 12, resume := some .l5 }) (.pauseLapsed 1)) 1 =
        some .pauseLapsed ∧
      ((after (l fun x =>
        { x with state := .paused, pause := 12, resume := some .restoreMainline, cause := some .aborted,
                 marks := { x.marks with mainline := true } }) (.pauseLapsed 1)).slotOf 1).lastOutcome = some .aborted := by decide +kernel

/-- R132: the hold-wait limit comes at a second, and the hold's end is taken first; a HELD that returns the slot to WAIT_HOLD
does not bring the expiry back, with the count kept or the limit now 0. The next second decides afresh. -/
theorem test_held_again :
    let s := withSlot (withPigs [testPig 3 .staged 0]) 1 fun x =>
      { x with kind := some .launch, bound := some 3, step := some .l4, state := .waitHold, holdWait := 299 }
    let t := after s .lineClockSecond
    let u := (t.updSlot 1 fun x => x.at .l4 .stepping).forwardOutcome 1 .l4 .held
    t.due = [.holdWait 1] ∧ ((after t (.holdLapsed 1)).slotOf 1).lastOutcome = some .holdLapsed ∧
      (after (t.updSlot 1 fun x => x.at .l4 .stepping) (.holdLapsed 1)).due = [] ∧
      (u.slotOf 1).holdWait = 300 ∧ u.due = [.holdWait 1] ∧
      ((after u (.holdLapsed 1)).slotOf 1).state = .waitHold ∧ (after u (.holdLapsed 1)).due = [] ∧
      (after u .lineClockSecond).due = [.holdWait 1] ∧ ((after u .lineClockSecond).slotOf 1).state = .waitHold ∧
      (after { u with params := { u.params with holdWaitLimit := 0 } } .lineClockSecond).due = [] := by decide +kernel

/-- R12, R139: a launch whose exit timeout comes at a second ends by it though LINE_TRIP is asserted right after that second;
a second under LINE_TRIP makes none due. -/
theorem test_trip_after_the_second :
    let s := withSlot (withPigs [testPig 3 .staged 0]) 1 fun x =>
      { x with kind := some .launch, bound := some 3, step := some .l5, state := .waitPassage, passage := 19 }
    let t := after s .lineClockSecond
    t.due = [.launchExit 1] ∧
      ((after (after t .lineTripAsserted) (.launchTimeout 1)).slotOf 1).lastOutcome = some .launchTimeout ∧
      (after { s with lineTrip := true } .lineClockSecond).due = [] := by decide +kernel

/-! ### Resets and LINE_TRIP -/

/-- R19, R188: power-on, and RESTART's answer with LINE_TRIP asserted. -/
theorem test_resets :
    after line (.powerOn 0) = State.reset ∧ (after line (.powerOn 2)).link.linkRate = 2 ∧ statuses [(line, .restart 1)] = [18] ∧
      (after { line with lineTrip := true } (.restart 0)).alertSet .lineTrip = true ∧
      (after line (.restart 0)).port.held = some [2, 0, 0] := by decide +kernel

/-- Witness of LineTripActsOnQueuesAndSlots, each clause. -/
theorem test_line_trip :
    let host := withCommand line 2 (testCommand .queued .toOpen .host)
    let carried := withCommand line 2 { testCommand .queued .toOpen .host with carried := true }
    let run := withSlot line 1 fun x => { x with kind := some .launch, state := .waitPassage, step := some .l5 }
    let trip (s : State) := after s .lineTripAsserted
    trip { line with lineTrip := true } = { line with lineTrip := true } ∧ after line .lineTripReleased = line ∧
      ((trip host).valve 2).map Valve.lastOutcome = some (some .inhibited) ∧
      (((trip carried).valve 2).bind Valve.command).map Command.marks = some [.lineTripped] ∧
      ((trip run).slotOf 1).pausePending = some .trip ∧ (trip line).alertSet .lineTrip = true ∧
      (after (trip run) .lineTripReleased).slotOf 1 = run.slotOf 1 := by decide +kernel

/-! ### Volumes, passages and misses (chapters 2 to 4) -/

/-- R59, R60: 100 L at a slip of 20 per mille move a record 98 L; its leader less the spacing binds. -/
theorem test_advance :
    let far := withPigs [testPig 3 .inLine 20000]
    let near := { withPigs [testPig 3 .inLine 20000, testPig 4 .inLine 9950] with params := { line.params with spacing := 10000 } }
    (far.advance 100 3).pigPos 3 = 20098 ∧ (near.advance 100 4).pigPos 4 = 10000 ∧
      ((near.advance 100 4).pig 4).map (·.flags.clamped) = some true ∧
      ((far.advance 1 3).pig 3).map (fun p => (p.position, p.residue)) = some (20000, 980) := by decide +kernel

/-- R50 to R55: each state of the meter, a delta at the maximum rate and one above it, and the second implausible report. -/
theorem test_meter_stage :
    let s (st : MeterState) (n : Nat) := { line with clock := 1, meters := [{ testMeter with state := st, implausible := n }] }
    let shows (st : MeterState) (n new : Nat) :=
      (((s st n).meterStage { testMeter with state := st, implausible := n } new).meter 0).map
        fun m => (m.state, m.totalizer, m.implausible)
    [shows .failed 0 1500, shows .baselinePending 0 7, shows .live 0 1500, shows .stale 0 1501, shows .live 1 1501] =
      [some (.failed, some 1000, 0), some (.live, some 7, 0), some (.live, some 1500, 0), some (.stale, some 1000, 1),
        some (.failed, some 1000, 1)] := by decide +kernel

/-- R58: a release moves the records standing in the meter's segments, line end included, and no record in another. -/
theorem test_release_reaches_its_segments :
    let s := { withPigs [testPig 3 .inLine 30000, testPig 4 .inLine 10000] with
      clock := 1, stations := [testStation 1 0 true false (some 0), testStation 2 20000 false false none,
                               testStation 3 40000 false true none] }
    let t := s.meterStage testMeter 1100
    (t.pigPos 3, t.pigPos 4) = (30000, 10098) ∧ (s.stations.map Station.position).Pairwise (· < ·) := by decide +kernel

/-- R54: the delta goes first to the provisional volume, then to the debt. -/
theorem test_reconciliation :
    let m := { testMeter with state := .extrapolating, provisional := 300, debt := 50 }
    let s := { line with clock := 1, meters := [m] }
    ((s.meterStage m 1200).meter 0).map Meter.debt = some 150 ∧ ((s.meterStage m 1320).meter 0).map Meter.debt = some 30 ∧
      m.release 400 = 50 := by decide +kernel

/-- A record that points at detector 1, fixed at 5,000 L. -/
def approaching (pos : Nat) (overdue : Bool) (misses : Nat) : State :=
  withPigs [{ testPig 3 .inLine pos with fixPosition := some 5000, pointer := some 0, overdue := overdue, misses := misses }]

/-- Witness of PassageFixPlacesTheRecord: in the window, at the early band's upper end, and outside both. -/
theorem test_passage :
    let fix (s : State) := ((s.mainlineTrip 1 0).1.pig 3).map fun p => (p.position, p.flags.early, p.pointer)
    (line.detector 1).map line.isDuplicate = some false ∧ fix (approaching 9900 false 0) = some (10000, false, some 1) ∧
      ((approaching 9900 false 0).detector 1).bind (approaching 9900 false 0).expected =
        (approaching 9900 false 0).pig 3 ∧
      fix (approaching 7925 false 0) = some (10000, false, some 1) ∧ fix (approaching 7924 false 0) = some (10000, true, some 1) ∧
      ((approaching 5849 false 0).mainlineTrip 1 0).2 = none := by decide +kernel

/-- R74, R75, R85, R100: the LOST record with the greatest position within reach is recovered, the lower tag between equals;
with none in reach the trip is spurious, and the third in a row sets SUSPECT. -/
theorem test_recovery_and_spurious :
    let s := withPigs [testPig 3 .lost 9000, testPig 4 .lost 9500, testPig 5 .lost 9500, testPig 6 .lost 60001]
    let t := (s.mainlineTrip 1 2)
    let u := line.modDetector 1 fun d => { d with spurious := 2 }
    t.2 = some 4 ∧ ((t.1.pig 4).map fun p => (p.state, p.position, p.fixPosition, p.pointer)) =
        some (.inLine, 10200, some 10000, some 1) ∧ t.1.train = [4] ∧ t.1.noteSet .passage = true ∧
      (line.mainlineTrip 1 0).2 = none ∧
      ((line.mainlineTrip 1 0).1.detector 1).map (fun d => (d.spurious, d.suspect)) = some (1, false) ∧
      ((u.mainlineTrip 1 0).1.detector 1).map (fun d => (d.spurious, d.suspect)) = some (3, true) ∧
      (u.mainlineTrip 1 0).1.alertSet .detectorSuspect = true := by decide +kernel

/-- The line with pig 3 STAGED at the line start, bound to the launcher's sequence with the fields `f` gives. -/
def launchBound (f : Slot → Slot) : State :=
  withSlot (withPigs [testPig 3 .staged 0]) 1 fun x => f { x with kind := some .launch, bound := some 3 }

/-- The trip `u` was pig 3's and left it in state `z` at `position`. -/
def tookPig (u : State × Option Nat) (z : PigState) (position : Nat) : Bool :=
  u.2 == some 3 && (u.1.pig 3).any fun p => p.state == z && p.position == position

/-- R34, R35, R84: a LAUNCH_EXIT trip aged 4 s at 100 L/s in the exit wait, and of a record in LAUNCH_FAILED. -/
theorem test_exit_trips :
    tookPig ((launchBound fun x => { x with state := .waitPassage, step := some .l5 }).exitTrip 0 4) .inLine 400 = true ∧
      tookPig ((withPigs [testPig 3 .launchFailed 0]).exitTrip 0 4) .inLine 400 = true := by decide +kernel

/-- R133: the same PAUSED at L5, where the sequence resumes at L6, and in the restore tail. -/
theorem test_exit_trips_outside_the_wait :
    let u := (launchBound fun x => { x with state := .paused, step := some .l5, resume := some .l5 }).exitTrip 0 4
    let v := (launchBound fun x => { x with state := .restoring, step := some .restoreOutlet, cause := some .aborted }).exitTrip 0 4
    tookPig u .inLine 400 = true ∧ (u.1.slotOf 1).resume = some .l6 ∧
      tookPig v .inLine 400 = true ∧ (v.1.slotOf 1).exitInTail = true := by decide +kernel

/-- The line with pig 3 UNCONFIRMED before the trap, bound to the receiver's sequence with the fields `f` gives. -/
def receiveBound (f : Slot → Slot) : State :=
  withSlot (withPigs [testPig 3 .unconfirmed 39000]) 2 fun x => f { x with kind := some .receive, bound := some 3 }

/-- R38, R137: a TRAP_ARRIVAL trip in the arrival wait, and PAUSED at RX4, where the sequence resumes at RX5. -/
theorem test_arrival_trips :
    let u := (receiveBound fun x => { x with state := .waitPassage, step := some .rx4 }).arrivalTrip 3
    let v := (receiveBound fun x => { x with state := .paused, step := some .rx4, resume := some .rx4 }).arrivalTrip 3
    tookPig u .trapped 40000 = true ∧ u.1.train = [] ∧
      tookPig v .trapped 40000 = true ∧ (v.1.slotOf 2).resume = some .rx5 := by decide +kernel

/-- R75: a TRAP_ARRIVAL trip at any other time is spurious. -/
theorem test_arrival_trip_spurious :
    (line.arrivalTrip 3).2 = none ∧ ((line.arrivalTrip 3).1.detector 3).map Detector.spurious = some 1 := by decide +kernel

/-- Witness of MissNeedsEvidence: the first miss, the second in a row, and an excused one. -/
theorem test_misses :
    let decided (s : State) (sh : Shown) :=
      ((s.detector 1).map fun d => (State.decideRecord d sh 0 s 3).pig 3).getD none |>.map fun p => (p.state, p.misses, p.pointer)
    decided (approaching 13000 true 0) .armed = some (.unconfirmed, 1, some 1) ∧
      decided (approaching 13000 true 1) .armed = some (.lost, 2, none) ∧
      decided (approaching 13000 true 0) .fault = some (.inLine, 0, some 1) := by decide +kernel

/-- R68: a record that becomes overdue-pending is handed on, so that a receive whose clearance gate stands open unlooked-at
goes on; one that was overdue-pending already hands on nothing. -/
theorem test_overdue_is_handed_on :
    let s (overdue : Bool) := withSlot (approaching 13000 overdue 0) 2 fun x =>
      { x with kind := some .receive, bound := some 3, state := .waitClearance, step := some .rx3 }
    ((s false).settle 3).pig 3 = ((s true).settle 3).pig 3 ∧
      (((s false).settle 3).pig 3).map Pig.overdue = some true ∧
      (((s false).settle 3).slotOf 2).state ≠ .waitClearance ∧ (s true).settle 3 = s true := by decide +kernel

/-! ### Premises met together -/

/-- The premises that the statements about every state carry, as one test of a state. -/
def premises (s : State) : Bool :=
  let rises (l : List Nat) : Bool := decide (l.Pairwise (· < ·))
  (rises (s.stations.map Station.num) && rises (s.detectors.map Detector.num) && rises (s.valves.map Valve.num) &&
      rises (s.meters.map Meter.num) && rises (s.pigs.map Pig.tag)) &&
    (decide s.train.Nodup && decide (∀ t ∈ s.train, (s.pig t).any Pig.tracked = true) &&
      decide (∀ p ∈ s.pigs, p.tracked = true → p.tag ∈ s.train) &&
      decide (s.train.Pairwise fun a b => s.pigPos b ≤ s.pigPos a) && decide (∀ t ∈ s.train, s.pigPos t ≤ s.lineEnd) &&
      decide (s.lineState = .unconfigured → s.pigs = [])) &&
    decide (∀ x ∈ s.stations, ∀ v ∈ x.queue, s.queueEntryOk x.num v = true)

theorem premises_sound {s : State} (h : premises s = true) : TablesRise s ∧ TrainInOrder s ∧ QueuesHoldQueued s := by
  simp only [premises, Bool.and_eq_true, decide_eq_true_eq] at h
  obtain ⟨⟨⟨⟨⟨⟨h1, h2⟩, h3⟩, h4⟩, h5⟩, ⟨⟨⟨⟨⟨g1, g2⟩, g3⟩, g4⟩, g5⟩, g6⟩⟩, q⟩ := h
  exact ⟨⟨h1, h2, h3, h4, h5⟩, ⟨g1, g2, g3, g4, g5, g6⟩, q⟩

/-- The states of the tests above meet them, so that each statement's premises are met together with its operands. -/
theorem test_premises_met :
    ([line, openLine, withPigs [testPig 3 .inLine 20000], withPigs [testPig 3 .inLine 36500], withPigs [testPig 3 .lost 20000],
      withPigs [testPig 3 .inLine 20000, testPig 4 .inLine 15000], withPigs [testPig 3 .staged 0], waiting line .nothing,
      withCommand line 2 (testCommand .queued .toOpen .host), withCommand line 1 (testCommand .queued .toClose .host),
      approaching 9900 false 0, approaching 7924 false 0, approaching 13000 true 0, approaching 13000 true 1,
      withPigs [testPig 3 .lost 9000, testPig 4 .lost 9500, testPig 5 .lost 9500, testPig 6 .lost 60001],
      withPigs [testPig 3 .launchFailed 0], withPigs [testPig 3 .unconfirmed 39000]] :
        List State).all premises = true := by decide +kernel

/-- Witness of NoCloseGoesOutUnpermitted: a CLOSE with close permission goes out; without the permit it does not. -/
theorem test_close_goes_out :
    let s := withCommand line 1 (testCommand .queued .toClose .host)
    (after s .pollSlotStart).link.slot.map PollSlot.item = some (.valve 1) ∧
      (after (s.modValve 1 fun v => { v with permit := false }) .pollSlotStart).link.slot.map PollSlot.item = some .nothing ∧
      s.link.slot = none := by decide +kernel

/-- Witness of AlertsStandUntilAcknowledged. -/
theorem test_alert_stands :
    let s := line.raise .pigLost
    s.alertSet .pigLost = true ∧ (after s .lineClockSecond).alertSet .pigLost = true ∧
      (after s (.ackAlert { alerts := 2, notes := 0, reserved := 0 })).alertSet .pigLost = false := by decide +kernel

/-- Witness of PollSlotGoesToTheChosenStation: the first cold station, and one whose poll wait has reached F. -/
theorem test_chosen :
    Chosen line (testStation 1 0 true false (some 0)) ∧
      (∀ x, (withStation line 2 fun y => { y with link := { y.link with pollWait := 8 } }).station 2 = some x →
        Chosen (withStation line 2 fun y => { y with link := { y.link with pollWait := 8 } }) x) := by
  refine ⟨?_, fun x hx => ?_⟩
  · unfold Chosen
    simp only [noLater, show line.link.lastServed = none from rfl]
    decide +kernel
  · cases hx
    unfold Chosen
    simp only [noLater, show (withStation line 2 fun y => { y with link := { y.link with pollWait := 8 } }).link.lastServed =
      none from rfl]
    decide +kernel

/-- R141, R146: a PAUSED slot whose resume point is a restore step goes on with the tail. -/
theorem test_continue_the_tail :
    let s := withSlot (line.modValve 2 fun v => { v with debounced := .opened }) 1 fun x =>
      { x with kind := some .launch, state := .paused, resume := some .restoreOutlet, cause := some .aborted,
               marks := { x.marks with outlet := true } }
    ((after s (.continueSequence 1 0)).slotOf 1).state = .restoring ∧
      ((after s (.continueSequence 1 0)).valve 2).bind Valve.command = some (testCommand .queued .toClose .sequence) := by
  decide +kernel

end Sys2Proof.Machine
end

section
/-! SUPPORT. Whatever relation each elementary change of the engine keeps, the whole engine keeps: the Hold Map, Detector
Control's re-arm tests and the Trap Sequencer, up to the handing on of a record's change (R29). The induction over the
engine's steps is made here once, for every such relation. -/

namespace Sys2Proof.Machine

/-- A relation that holds from a state to itself, chains, and holds across each elementary change the engine makes. -/
structure EngineKeeps (R : State → State → Prop) : Prop where
  refl : ∀ s, R s s
  trans : ∀ {s t u}, R s t → R t u → R s u
  /-- A valve's hold is re-evaluated (R119, R122). -/
  reevalValve : ∀ s v, R s (s.reevalValve v)
  /-- A detector found due joins its re-arm set (R97). -/
  rearmTest : ∀ s d, R s (s.rearmTest d)
  /-- A step offers its command (R109). -/
  offerStep : ∀ s k p, R s (s.offerStep k p).1
  /-- A command ends (R116). -/
  endCommand : ∀ s v o, R s (s.endCommand v o)
  updSlot : ∀ s k f, R s (s.updSlot k f)
  /-- A follower watch stores its closing records (R138). -/
  storeClosing : ∀ s k l, R s (s.modStation k fun x => { x with slot := { x.slot with closing := l } })
  /-- The fault record of an ended sequence is written (R150). -/
  writeFault : ∀ s k f b, R s (s.modStation k fun x =>
    { x with fault := some f, trapFault := x.trapFault || b, changed := true })
  /-- The STAGED record of a launch is given up (R35). -/
  giveUp : ∀ s k o t, s.givenUp k o = some t → R s (s.recordAtEnd t)
  raise : ∀ s c, R s (s.raise c)
  note : ∀ s c, R s (s.note c)

namespace EngineKeeps

section

variable {R : State → State → Prop} (h : EngineKeeps R)

include h

theorem foldl {α : Type} (f : State → α → State) (hf : ∀ s a, R s (f s a)) (l : List α) (s : State) :
    R s (l.foldl f s) := by
  induction l generalizing s with
  | nil => exact h.refl s
  | cons a l ih => exact h.trans (hf s a) (ih _)

theorem reevalAll (s : State) : R s s.reevalAll := h.foldl _ h.reevalValve _ s

theorem reevalStation (s : State) (k : Nat) : R s (s.reevalStation k) := h.foldl _ h.reevalValve _ s

theorem rearmAwaiting (s : State) (t : Nat) : R s (s.rearmAwaiting t) := h.foldl _ h.rearmTest _ s

theorem followerLook (s : State) (k : Nat) (l : List Nat) : R s (s.followerLook k l) := by
  unfold State.followerLook
  simp only
  split
  · exact h.trans (h.storeClosing ..) (h.raise ..)
  · exact h.storeClosing ..

theorem followerWatch (s : State) (k : Nat) : R s (s.followerWatch k) := by
  unfold State.followerWatch
  split
  · exact h.followerLook ..
  · exact h.refl s

theorem stepSucceeded (s : State) (k : Nat) (p : SeqStep) : R s (s.stepSucceeded k p) := by
  unfold State.stepSucceeded
  simp only
  split
  · exact h.trans (h.updSlot ..) (h.followerLook ..)
  · exact h.updSlot ..

theorem endSlot (s : State) (k : Nat) (o : SeqOutcome) (r : Option (SeqStep × Role × ValveOutcome)) :
    R s (s.endSlot k o r) := by
  have hfreed := h.trans (h.updSlot s k fun y => y.ended o) (h.reevalStation _ k)
  unfold State.endSlot
  simp only
  split
  · exact h.trans (h.trans (h.trans hfreed (h.writeFault ..)) (h.note ..)) (h.raise ..)
  · exact h.trans hfreed (h.note ..)

/-- A change of a slot, and the offer of a step's command from it. -/
theorem offerFrom (s : State) (k : Nat) (f : Slot → Slot) (p : SeqStep) : R s ((s.updSlot k f).offerStep k p).1 :=
  h.trans (h.updSlot ..) (h.offerStep ..)

/-! The engine with any ending that keeps the relation. -/

section

variable {e : Ending} (he : ∀ s k o r, R s (e s k o r))

include he

theorem runRestoreBy (k : Nat) (l : List SeqStep) (s : State) : R s (State.runRestoreBy e k l s) := by
  induction l generalizing s with
  | nil => exact he ..
  | cons p l ih =>
    unfold State.runRestoreBy
    split
    · exact ih s
    · split
      · exact h.updSlot ..
      · have hoffer := h.offerFrom s k (fun x => x.at p .restoring) p
        simp only
        split <;> rename_i heq <;> rw [heq] at hoffer
        · exact hoffer
        · split
          · exact h.trans (h.trans hoffer (h.updSlot ..)) (ih _)
          · exact h.trans hoffer (he ..)

theorem beginTailBy (s : State) (k : Nat) (c : SeqOutcome) (f : Option (Role × ValveOutcome)) :
    R s (s.beginTailBy e k c f) := h.trans (h.updSlot ..) (h.runRestoreBy he ..)

theorem cutShortBy (s : State) (k : Nat) (v : Valve) (c : AbortCause) : R s (s.cutShortBy e k v c) := by
  unfold State.cutShortBy
  split
  · exact h.refl s
  · split
    · exact h.trans (h.endCommand ..) (h.beginTailBy he ..)
    · exact h.updSlot ..

theorem abandonBy (s : State) (k : Nat) : R s (s.abandonBy e k) := by
  refine h.trans (h.raise s .notReady) ?_
  unfold State.abandonBy
  simp only
  split
  · split
    · exact h.cutShortBy he ..
    · exact h.beginTailBy he ..
  · exact h.beginTailBy he ..

theorem runForwardBy (k : Nat) (l : List SeqStep) (s : State) : R s (State.runForwardBy e k l s) := by
  induction l generalizing s with
  | nil => exact he ..
  | cons p l ih =>
    unfold State.runForwardBy
    split
    · exact h.abandonBy he ..
    · split
      · exact h.updSlot ..
      · split
        · exact h.updSlot ..
        · split
          · exact h.updSlot ..
          · have hoffer := h.offerFrom s k (fun x => x.at p .stepping) p
            simp only
            split <;> rename_i heq <;> rw [heq] at hoffer
            · exact hoffer
            · split
              · exact h.trans (h.trans hoffer (h.stepSucceeded ..)) (ih _)
              · split
                · exact h.trans hoffer (h.updSlot ..)
                · exact h.trans hoffer (h.beginTailBy he ..)

theorem goOnAtBy (s : State) (k : Nat) (p : SeqStep) : R s (s.goOnAtBy e k p) := by
  unfold State.goOnAtBy
  split
  · exact h.runRestoreBy he ..
  · exact h.runForwardBy he ..

theorem clearanceGateBy (s : State) (k : Nat) : R s (s.clearanceGateBy e k) := by
  unfold State.clearanceGateBy
  split
  · split
    · exact h.goOnAtBy he ..
    · exact h.refl s
  · exact h.refl s

end

theorem reviewReceive (s : State) (k : Nat) : R s (s.reviewReceive k) := by
  unfold State.reviewReceive
  split
  · refine h.trans ?_ (h.followerWatch ..)
    split
    · exact h.abandonBy h.endSlot ..
    · exact h.clearanceGateBy h.endSlot ..
  · exact h.refl s

theorem handAside (s : State) (t : Nat) : R s (s.handAside t) :=
  h.trans (h.rearmAwaiting s t) (h.foldl _ h.reviewReceive _ _)

theorem endSequence (s : State) (k : Nat) (o : SeqOutcome) (r : Option (SeqStep × Role × ValveOutcome)) :
    R s (s.endSequence k o r) := by
  unfold State.endSequence
  split
  · exact h.endSlot ..
  · rename_i t ht
    exact h.trans (h.trans (h.giveUp s k o t ht) (h.handAside ..)) (h.endSlot ..)

theorem holdGate (s : State) (k : Nat) : R s (s.holdGate k) := by
  unfold State.holdGate
  split
  · split
    · exact h.refl s
    · exact h.goOnAtBy h.endSequence ..
  · exact h.refl s

theorem examine (s : State) (k : Nat) : R s (s.examine k) := by
  refine h.trans ?_ (h.followerWatch ..)
  split
  · exact h.abandonBy h.endSequence ..
  · exact h.trans (h.clearanceGateBy h.endSequence ..) (h.holdGate ..)

theorem examineAll (s : State) : R s s.examineAll := h.foldl _ h.examine _ s

/-- Handing a record's change on (R29) keeps what the engine keeps. -/
theorem handOn (s : State) (t : Nat) : R s (s.handOn t) :=
  h.trans (h.trans (h.reevalAll s) (h.rearmAwaiting ..)) (h.examineAll _)

end

end EngineKeeps

end Sys2Proof.Machine
end

section
/-! SUPPORT. The engine and the test of R68 and R69 move no record: they leave the train as it is, and of each record at
most the pointer, overdue-pending, VALVE_STRIKE and CHANGED, and the state of a STAGED record whose launch is given up. -/

namespace Sys2Proof.Machine

/-- q is p but for its pointer, overdue-pending, VALVE_STRIKE and CHANGED, and stands in p's state unless p was STAGED and
is given up (R35). -/
def Pig.KeepsPlace (p q : Pig) : Prop :=
  q = { p with
    state := q.state, pointer := q.pointer, overdue := q.overdue
    flags := { p.flags with valveStrike := q.flags.valveStrike, changed := q.flags.changed } } ∧
  (q.state = p.state ∨ (p.state = .staged ∧ q.state = .launchFailed))

theorem Pig.KeepsPlace.refl (p : Pig) : p.KeepsPlace p := ⟨rfl, .inl rfl⟩

theorem Pig.KeepsPlace.trans {p q r : Pig} (hpq : p.KeepsPlace q) (hqr : q.KeepsPlace r) : p.KeepsPlace r := by
  obtain ⟨hq, hstate⟩ := hpq
  obtain ⟨hr, hstate'⟩ := hqr
  refine ⟨by rw [hr, hq], ?_⟩
  rcases hstate with same | ⟨staged, failed⟩
  · rwa [same] at hstate'
  · rcases hstate' with same | ⟨staged', -⟩
    · exact .inr ⟨staged, same.trans failed⟩
    · rw [failed] at staged'
      cases staged'

/-- The record a launch gives up is STAGED. -/
theorem State.staged_of_givenUp {s : State} {k t : Nat} {o : SeqOutcome} (h : s.givenUp k o = some t) :
    ∃ p, s.pig t = some p ∧ p.state = .staged := by
  unfold State.givenUp at h
  split at h
  · rename_i p _ hbound
    obtain ⟨b, -, hp⟩ := Option.bind_eq_some_iff.1 hbound
    split at h
    · rename_i hstaged
      cases h
      exact ⟨p, by rwa [State.pig_tag hp], hstaged.1⟩
    · cases h
  · cases h

/-- The train is the same, and each tag names a record that keeps its place, or none in both states. -/
structure RecordsKeepPlace (s t : State) : Prop where
  train : t.train = s.train
  records : ∀ u, Option.Rel Pig.KeepsPlace (s.pig u) (t.pig u)

namespace RecordsKeepPlace

theorem of_same {s t : State} (hpigs : t.pigs = s.pigs) (htrain : t.train = s.train) : RecordsKeepPlace s t := by
  refine ⟨htrain, fun u => ?_⟩
  have hu : t.pig u = s.pig u := by simp only [State.pig, hpigs]
  rw [hu]
  cases s.pig u with
  | none => exact .none
  | some p => exact .some (Pig.KeepsPlace.refl p)

theorem refl (s : State) : RecordsKeepPlace s s := of_same rfl rfl

theorem trans {s t u : State} (h : RecordsKeepPlace s t) (g : RecordsKeepPlace t u) : RecordsKeepPlace s u := by
  refine ⟨g.train.trans h.train, fun v => ?_⟩
  have hv := h.records v
  have gv := g.records v
  generalize s.pig v = a, t.pig v = b, u.pig v = c at hv gv
  cases hv with
  | none => exact gv
  | some hab =>
    cases gv with
    | some hbc => exact .some (hab.trans hbc)

/-- A change of one record under which that record keeps its place. -/
theorem modPig {s : State} {t : Nat} {f : Pig → Pig} (htag : ∀ p, (f p).tag = p.tag)
    (hf : ∀ p, s.pig t = some p → p.KeepsPlace (f p)) : RecordsKeepPlace s (s.modPig t f) := by
  refine ⟨rfl, fun u => ?_⟩
  rw [State.pig_modPig s t u f htag]
  cases hu : s.pig u with
  | none => exact .none
  | some p =>
    refine .some ?_
    dsimp only
    split
    · rename_i ht
      rw [← State.pig_tag hu, ht] at hu
      exact hf p hu
    · exact Pig.KeepsPlace.refl p

/-- A record found before the change is found after it, keeping its place. -/
theorem of_some {s t : State} (h : RecordsKeepPlace s t) {u : Nat} {p : Pig} (hp : s.pig u = some p) :
    ∃ q, t.pig u = some q ∧ p.KeepsPlace q := by
  have hu := h.records u
  rw [hp] at hu
  generalize t.pig u = o at hu
  cases hu with
  | some hpq => exact ⟨_, rfl, hpq⟩

theorem pigPos {s t : State} (h : RecordsKeepPlace s t) (u : Nat) : t.pigPos u = s.pigPos u := by
  have hu := h.records u
  unfold State.pigPos
  generalize s.pig u = a, t.pig u = b at hu
  cases hu with
  | none => rfl
  | some hpq => rw [hpq.1]; rfl

/-! ### The elementary changes of the engine -/

theorem modStation (s : State) (k : Nat) (f : Station → Station) : RecordsKeepPlace s (s.modStation k f) :=
  of_same rfl rfl

theorem modValve (s : State) (v : Nat) (f : Valve → Valve) : RecordsKeepPlace s (s.modValve v f) := of_same rfl rfl

theorem modDetector (s : State) (d : Nat) (f : Detector → Detector) : RecordsKeepPlace s (s.modDetector d f) :=
  of_same rfl rfl

theorem raise (s : State) (c : AlertCause) : RecordsKeepPlace s (s.raise c) := of_same rfl rfl

theorem note (s : State) (c : NoteCause) : RecordsKeepPlace s (s.note c) := of_same rfl rfl

theorem touchIf (s : State) (b : Bool) (k : Nat) : RecordsKeepPlace s (s.touchIf b k) := by
  rw [State.touchIf_eq]
  exact modStation ..

theorem updSlot (s : State) (k : Nat) (f : Slot → Slot) : RecordsKeepPlace s (s.updSlot k f) := by
  unfold State.updSlot
  split
  · exact refl s
  · exact (modStation ..).trans (touchIf ..)

theorem updValve (s : State) (v : Nat) (f : Valve → Valve) : RecordsKeepPlace s (s.updValve v f) := by
  unfold State.updValve
  split
  · exact refl s
  · exact (modValve ..).trans (touchIf ..)

theorem updDetector (s : State) (d : Nat) (f : Detector → Detector) : RecordsKeepPlace s (s.updDetector d f) := by
  unfold State.updDetector
  split
  · exact refl s
  · exact (modDetector ..).trans (touchIf ..)

theorem strikeRecords (s : State) (l : List Nat) : RecordsKeepPlace s (s.strikeRecords l) := by
  unfold State.strikeRecords
  induction l generalizing s with
  | nil => exact refl s
  | cons t l ih =>
    refine trans ?_ (ih _)
    exact modPig (fun _ => rfl) fun _ _ => ⟨rfl, .inl rfl⟩

theorem applyHold (s : State) (v : Valve) (l : List Nat) : RecordsKeepPlace s (s.applyHold v l) := by
  unfold State.applyHold
  extract_lets struck joined s1
  have hs1 : RecordsKeepPlace s s1 := updValve ..
  split
  · exact (hs1.trans (strikeRecords ..)).trans (raise ..)
  · exact hs1

theorem reevalValve (s : State) (v : Nat) : RecordsKeepPlace s (s.reevalValve v) := by
  unfold State.reevalValve
  split
  · exact refl s
  · split
    · exact applyHold ..
    · exact refl s

theorem rearmTest (s : State) (d : Nat) : RecordsKeepPlace s (s.rearmTest d) := by
  unfold State.rearmTest
  split
  · exact refl s
  · split
    · exact updDetector ..
    · exact refl s

theorem endCommand (s : State) (v : Valve) (o : ValveOutcome) : RecordsKeepPlace s (s.endCommand v o) :=
  of_same rfl rfl

theorem offer (s : State) (v : Valve) (t : Target) : RecordsKeepPlace s (s.offer v t).1 := by
  obtain ⟨o, -, heq⟩ | ⟨-, heq⟩ := s.offer_cases v t <;> rw [heq]
  · exact endCommand ..
  · exact of_same rfl rfl

theorem offerStep (s : State) (k : Nat) (p : SeqStep) : RecordsKeepPlace s (s.offerStep k p).1 := by
  unfold State.offerStep
  split
  · exact refl s
  · split
    · exact refl s
    · exact offer ..

theorem giveUp (s : State) (k : Nat) (o : SeqOutcome) (t : Nat) (h : s.givenUp k o = some t) :
    RecordsKeepPlace s (s.recordAtEnd t) := by
  obtain ⟨p, hp, hstaged⟩ := State.staged_of_givenUp h
  refine modPig (fun _ => rfl) fun q hq => ?_
  rw [hp] at hq
  cases hq
  exact ⟨rfl, .inr ⟨hstaged, rfl⟩⟩

/-- So the engine moves no record. -/
theorem engineKeeps : EngineKeeps RecordsKeepPlace where
  refl := refl
  trans := trans
  reevalValve := reevalValve
  rearmTest := rearmTest
  offerStep := offerStep
  endCommand := endCommand
  updSlot := updSlot
  storeClosing s k _ := modStation s k _
  writeFault s k _ _ := modStation s k _
  giveUp := giveUp
  raise := raise
  note := note

theorem handOn (s : State) (t : Nat) : RecordsKeepPlace s (s.handOn t) := engineKeeps.handOn s t

/-! ### The test of a record against its window -/

theorem overdueTest (s : State) (d : Detector) (p : Pig) : RecordsKeepPlace s (s.overdueTest d p) := by
  unfold State.overdueTest
  split
  · refine trans ?_ (handOn ..)
    exact modPig (fun _ => rfl) fun _ _ => ⟨rfl, .inl rfl⟩
  · exact refl s

theorem excuse (s : State) (t : Nat) : RecordsKeepPlace s (s.excuse t) :=
  modPig (fun _ => rfl) fun _ _ => ⟨rfl, .inl rfl⟩

theorem settleFor (n t : Nat) (s : State) : RecordsKeepPlace s (State.settleFor n t s) := by
  induction n generalizing s with
  | zero => exact refl s
  | succ n ih =>
    unfold State.settleFor
    split
    · exact refl s
    · split
      · exact refl s
      · split
        · simp only
          split
          · exact ((overdueTest ..).trans (excuse ..)).trans (ih _)
          · exact overdueTest ..
        · exact refl s

theorem settle (s : State) (t : Nat) : RecordsKeepPlace s (s.settle t) := settleFor ..

end RecordsKeepPlace

end Sys2Proof.Machine
end

section
/-! SUPPORT. The advance of one record (R59 to R62): the record it leaves, and that it moves no other. -/

namespace Sys2Proof.Machine

/-- What a release moves a record by, in thousandths of a litre: the release less the slip, and the residue (R59). -/
def Pig.releaseTotal (p : Pig) (release : Nat) : Nat := release * (1000 - p.slip) + p.residue

/-- The candidate position of a record's advance (R59). -/
def Pig.candidate (p : Pig) (release : Nat) : Nat := p.position + p.releaseTotal release / 1000

/-- The record an advance leaves (R59 to R61), the two branches of the limit in one. -/
theorem State.advanced_eq (s : State) (p : Pig) (release : Nat) :
    s.advanced p release =
      { p.withFlags (s.advanceFlags p (decide (s.advanceLimit p < p.candidate release))
          (min (p.candidate release) (s.advanceLimit p))) with
        position := min (p.candidate release) (s.advanceLimit p)
        residue := if s.advanceLimit p < p.candidate release then 0 else p.releaseTotal release % 1000 } := by
  change (if s.advanceLimit p < p.candidate release then _ else _) = _
  by_cases hbound : s.advanceLimit p < p.candidate release
  · simp only [hbound, if_true, decide_true, min_eq_right hbound.le]
  · simp only [hbound, if_false, decide_false, min_eq_left (not_lt.1 hbound)]
    rfl

@[simp] theorem State.advanced_tag (s : State) (p : Pig) (release : Nat) : (s.advanced p release).tag = p.tag := by
  rw [State.advanced_eq]
  rfl

/-- Putting a record in the place of the one of its tag: that tag finds it, every other finds what it found. -/
theorem State.pig_modPig_const {s : State} {p q : Pig} (hp : s.pig p.tag = some p) (htag : q.tag = p.tag) (u : Nat) :
    (s.modPig p.tag fun _ => q).pig u = if u = p.tag then some q else s.pig u := by
  have hmod : s.modPig p.tag (fun _ => q) = s.modPig p.tag fun x => { q with tag := x.tag } := by
    unfold State.modPig
    congr 1
    refine List.map_congr_left fun x _ => ?_
    split
    · rename_i hx
      change q = { q with tag := x.tag }
      rw [hx, ← htag]
    · rfl
  rw [hmod, State.pig_modPig s p.tag u (fun x => { q with tag := x.tag }) fun _ => rfl]
  by_cases hu : u = p.tag
  · subst hu
    rw [hp, Option.map_some, if_pos rfl, if_pos rfl, ← htag]
  · cases hx : s.pig u with
    | none => simp [hu]
    | some x => simp [hu, State.pig_tag hx]

/-- The advance puts the advanced record in its place; what it then hands on moves no record. -/
theorem State.advance_keepsPlace {s : State} {p : Pig} (hp : s.pig p.tag = some p) (release : Nat) :
    RecordsKeepPlace (s.modPig p.tag fun _ => s.advanced p release) (s.advance release p.tag) := by
  unfold State.advance
  simp only [hp]
  split
  · exact .refl _
  · exact (RecordsKeepPlace.handOn ..).trans (RecordsKeepPlace.settle ..)

/-- After its advance the record is found with the place and flags R59 to R61 give. -/
theorem State.pig_advance {s : State} {p : Pig} (hp : s.pig p.tag = some p) (release : Nat) :
    ∃ q, (s.advance release p.tag).pig p.tag = some q ∧ (s.advanced p release).KeepsPlace q :=
  (State.advance_keepsPlace hp release).of_some <| by
    rw [State.pig_modPig_const hp (s.advanced_tag p release), if_pos rfl]

/-- An advance moves no other record (R88). -/
theorem State.othersStand_advance {s : State} {p : Pig} (hp : s.pig p.tag = some p) (release : Nat) :
    OthersStand s (s.advance release p.tag) p.tag := fun u hu => by
  rw [(State.advance_keepsPlace hp release).pigPos u]
  simp only [State.pigPos, State.pig_modPig_const hp (s.advanced_tag p release), if_neg hu]

/-- An advance leaves a tracked record in its state. -/
theorem Pig.KeepsPlace.state_of_tracked {p q : Pig} (h : p.KeepsPlace q) (htracked : p.tracked = true) :
    q.state = p.state := by
  obtain ⟨-, same | ⟨staged, -⟩⟩ := h
  · exact same
  · simp [Pig.tracked, staged] at htracked

/-- Settles O57: what an advance hands on moves no record, so the record found after it is the advanced one. -/
theorem advanceFollowsTheRelease : Obligations.AdvanceFollowsTheRelease := by
  unfold Obligations.AdvanceFollowsTheRelease
  intro s release p _ hp htracked total candidate limit place t
  obtain ⟨q, hq, hkeeps⟩ := State.pig_advance hp release
  have hadvanced := s.advanced_eq p release
  have hstate : q.state = p.state := by
    rw [hkeeps.state_of_tracked (by rw [hadvanced]; exact htracked), hadvanced]
    rfl
  obtain ⟨hplace, -⟩ := hkeeps
  refine ⟨?_, ?_, (State.advance_keepsPlace hp release).train, State.othersStand_advance hp release,
    (Spreads.advance ..).besides⟩
  · rw [hq, Option.map_some, hstate, hplace, hadvanced]
    rfl
  · rw [hq, Option.map_some, hplace, hadvanced]
    rfl

end Sys2Proof.Machine
end

section
/-! SUPPORT. The checks of requests in the words of the claims, and REBASE_METER (R57). -/

namespace Sys2Proof.Machine

theorem State.not_ready_iff (s : State) : (!s.ready) = true ↔ s.lineState = .unconfigured := by
  unfold State.ready
  cases s.lineState <;> decide

theorem above_iff (b : Byte) (largest : Nat) : above b largest = true ↔ largest < b.toNat := decide_eq_true_iff

theorem nonzero_iff (b : Byte) : nonzero b = true ↔ b ≠ 0 := decide_eq_true_iff

/-- What REBASE_METER does to a defined meter: the record is rebased, and its station's changed flag set. -/
theorem State.rebase_of_some {s : State} {m : Nat} {x : Meter} (h : s.meter m = some x) :
    s.rebase m = (s.modMeter m Meter.rebased).touch x.station := by
  simp only [State.rebase, h]

theorem exec_rebaseMeter : ∀ (m r : Byte) (s : State), exec (.rebaseMeter m r) s = execRebaseMeter m r s := by
  intros; rfl

/-- The checks of REBASE_METER (R57) as the claim says them. -/
theorem State.rebaseChecks_eq (s : State) (m r : Byte) :
    (s.rebaseChecks m r).map (fun x => (x.1 = true, x.2)) =
      [(s.lineState = .unconfigured, .notConfigured), (15 < m.toNat ∨ r ≠ 0, .badField),
       (s.meter m.toNat = none, .noSuch)] := by
  simp only [State.rebaseChecks, List.map_cons, List.map_nil, s.not_ready_iff, Bool.or_eq_true, above_iff, nonzero_iff,
    Option.isNone_iff_eq_none]

/-- Settles O32: the checks are the model's own, and the action is the rebasing of the meter found. -/
theorem rebasedMeterAwaitsItsBaseline : Obligations.RebasedMeterAwaitsItsBaseline := by
  unfold Obligations.RebasedMeterAwaitsItsBaseline
  intro s m r
  rw [← s.rebaseChecks_eq m r]
  refine checked_of_ask _ s _ (.ok (s.rebase m.toNat)) (exec_rebaseMeter m r s) _ fun hexec x hx => ?_
  rw [State.rebase_of_some hx] at hexec
  exact answers_of_respond _ s _ _ _ _ hexec rfl rfl

end Sys2Proof.Machine
end

section
/-! SUPPORT. The valve requests: COMMAND_VALVE (R108, R109) and WITHDRAW_VALVE_COMMAND (R114). The model reads some of
their checks only of a valve it found; the claims ask of every check whether the table holds a valve of that kind. The two
lists refuse alike. -/

namespace Sys2Proof.Machine

/-! ### Checks of requests -/

/-- Taking a request depends on its checks only through the first that fails. -/
theorem State.ask_congr (s : State) {l m : List (Bool × Status)} (t : Taken) (h : firstRefusal l = firstRefusal m) :
    s.ask l t = s.ask m t := by
  simp only [State.ask, h]

/-- Behind the same checks, checks that refuse alike refuse alike. -/
theorem firstRefusal_append_congr (l : List (Bool × Status)) {m n : List (Bool × Status)}
    (h : firstRefusal m = firstRefusal n) : firstRefusal (l ++ m) = firstRefusal (l ++ n) := by
  induction l with
  | nil => exact h
  | cons c l ih => simp only [List.cons_append, firstRefusal, ih]

/-- Behind a check that fails, no check is read. -/
theorem firstRefusal_append_of_fail (l m n : List (Bool × Status)) (st : Status) :
    firstRefusal (l ++ (true, st) :: m) = firstRefusal (l ++ (true, st) :: n) :=
  firstRefusal_append_congr l rfl

/-- What a request does needs to hold only where every check has passed. -/
theorem Checked.mono {c : Instr} {s : State} {checks : List (Prop × Status)} {act act' : Prop}
    (h : Checked c s checks act) (hact : (∀ x ∈ checks, ¬ x.1) → act → act') : Checked c s checks act' := by
  induction checks with
  | nil => exact hact (by simp) h
  | cons x l ih =>
    obtain ⟨hfail, hpass⟩ := h
    refine ⟨hfail, fun hx => ih (hpass hx) fun hl => hact ?_⟩
    exact List.forall_mem_cons.2 ⟨hx, hl⟩

/-- A flag read with the stand-in false, as a question to what is found. -/
theorem getD_map_false {α : Type} (o : Option α) (f : α → Bool) : (o.map f).getD false = o.any f := by
  cases o <;> rfl

theorem State.refusesSilent_eq (s : State) (k : Nat) :
    s.refusesSilent k = (s.station k).any fun x => decide (x.tuning.policy = .refuse) := getD_map_false ..

theorem State.remoteShown_eq (s : State) (k : Nat) : s.remoteShown k = (s.station k).any fun x => x.link.remote :=
  getD_map_false ..

theorem State.claimed_eq (s : State) (v : Nat) :
    s.claimed v = (s.valve v).any fun x => decide ((s.slotOf x.station).state ≠ .idle) := getD_map_false ..

theorem State.commanded_eq (s : State) (v : Nat) : s.commanded v = (s.valve v).any fun x => x.command.isSome := by
  unfold State.commanded
  cases s.valve v <;> rfl

/-! ### Targets, and the end of a command no sequence claims -/

/-- A debounced state at a target: OPEN for the one, CLOSED for the other. -/
theorem Debounced.at_eq (d : Debounced) (t : Target) :
    d.at t = decide (d = .opened ∧ t = .toOpen ∨ d = .closed ∧ t = .toClose) := by
  cases d <;> cases t <;> rfl

theorem targetOf_eq (b : Byte) : targetOf b = if b = 0 then .toOpen else .toClose :=
  if_congr (BitVec.toNat_eq (x := b) (y := 0)).symm rfl rfl

/-- The end of a command leaves every slot as it is. -/
theorem State.slotOf_endCommand (s : State) (v : Valve) (o : ValveOutcome) (k : Nat) :
    (s.endCommand v o).slotOf k = s.slotOf k := by
  unfold State.slotOf
  rw [State.station_endCommand]
  cases s.station k with
  | none => rfl
  | some x =>
    simp only [Option.map_some]
    split <;> rfl

/-- An idle slot takes no outcome. -/
theorem State.slotOutcome_of_idle {s : State} {k : Nat} (h : (s.slotOf k).state = .idle) (o : ValveOutcome) :
    s.slotOutcome k o = s := by
  simp only [State.slotOutcome, h]

/-- A command outstanding on a valve that no sequence claims ends, and nothing more. -/
theorem State.finishCommand_of_unclaimed {s : State} {v : Nat} {y : Valve} (hy : s.valve v = some y)
    (hcommand : y.command ≠ none) (hidle : (s.slotOf y.station).state = .idle) (o : ValveOutcome) :
    s.finishCommand v o = s.endCommand y o := by
  obtain ⟨hnone, -⟩ | ⟨x, c, hx, -, ⟨-, heq⟩ | ⟨-, heq⟩⟩ := s.finishCommand_cases v o
  · exact absurd (by simpa [hy] using hnone) hcommand
  · cases hy.symm.trans hx
    exact heq
  · cases hy.symm.trans hx
    rw [heq]
    exact State.slotOutcome_of_idle (by rwa [State.slotOf_endCommand]) o

/-! ### COMMAND_VALVE -/

theorem exec_commandValve : ∀ (v target r : Byte) (s : State),
    exec (.commandValve v target r) s = execCommandValve v target r s := by
  intros; rfl

/-- Checks 7 to 10 of COMMAND_VALVE (R108), asked of whatever valve the table holds. -/
def State.commandChecksAny (s : State) (x : Option Valve) (t : Target) : List (Bool × Status) :=
  [(x.any fun y => decide (s.linkStateOf y.station = .out), .wrongState),
   (x.any fun y => decide (s.linkStateOf y.station = .silent) && s.refusesSilent y.station, .silent),
   (x.any fun y => closeToSend y t && y.held, .held),
   (x.any fun y => closeToSend y t && s.closeInhibited y, .inhibited)]

/-- They refuse as the model's do. -/
theorem State.firstRefusal_commandChecksAny (s : State) (x : Option Valve) (t : Target) :
    firstRefusal (s.commandChecks x t) = firstRefusal (s.commandChecksAny x t) := by
  cases x <;> rfl

/-- The ten checks of COMMAND_VALVE (R108), each asked of whatever the tables hold. -/
def State.commandValveChecksAny (s : State) (v target r : Byte) : List (Bool × Status) :=
  [(!s.ready, .notConfigured), (above v 47 || above target 1 || nonzero r, .badField),
   ((s.valve v.toNat).isNone, .noSuch), (s.lineTrip, .tripped), (s.claimed v.toNat, .seqOwned),
   (s.commanded v.toNat, .busyValve)] ++ s.commandChecksAny (s.valve v.toNat) (targetOf target)

theorem exec_commandValve_eq_ask (s : State) (v target r : Byte) :
    exec (.commandValve v target r) s =
      s.ask (s.commandValveChecksAny v target r) (s.commandTaken v.toNat (targetOf target)) :=
  (exec_commandValve v target r s).trans <|
    s.ask_congr _ (firstRefusal_append_congr _ (s.firstRefusal_commandChecksAny _ _))

/-- The checks of COMMAND_VALVE as the claim says them. -/
theorem State.commandValveChecksAny_eq (s : State) (v target r : Byte) :
    (s.commandValveChecksAny v target r).map (fun x => (x.1 = true, x.2)) =
      [(s.lineState = .unconfigured, .notConfigured),
       (47 < v.toNat ∨ 1 < target.toNat ∨ r ≠ 0, .badField),
       (s.valve v.toNat = none, .noSuch),
       (s.lineTrip = true, .tripped),
       ((s.valve v.toNat).any (fun y => decide ((s.slotOf y.station).state ≠ .idle)) = true, .seqOwned),
       ((s.valve v.toNat).any (fun y => y.command.isSome) = true, .busyValve),
       ((s.valve v.toNat).any (fun y => decide (s.linkStateOf y.station = .out)) = true, .wrongState),
       ((s.valve v.toNat).any (fun y => decide (s.linkStateOf y.station = .silent) &&
          (s.station y.station).any fun k => decide (k.tuning.policy = .refuse)) = true, .silent),
       ((s.valve v.toNat).any (fun y => closeToSend y (targetOf target) && decide (y.holders ≠ [])) = true, .held),
       ((s.valve v.toNat).any (fun y => closeToSend y (targetOf target) &&
          (!y.permit || !(s.station y.station).any fun k => k.link.remote)) = true, .inhibited)] := by
  simp only [State.commandValveChecksAny, State.commandChecksAny, List.cons_append, List.nil_append, List.map_cons,
    List.map_nil, s.not_ready_iff, Bool.or_eq_true, above_iff, nonzero_iff, or_assoc, Option.isNone_iff_eq_none,
    s.claimed_eq, s.commanded_eq, s.refusesSilent_eq, s.remoteShown_eq, State.closeInhibited, Valve.held]

/-- COMMAND_VALVE at its target already: the command ends ALREADY at once (R109). -/
theorem State.commandTaken_of_there {s : State} {v : Nat} {t : Target} {y : Valve} (hy : s.valve v = some y)
    (hthere : y.debounced.at t = true) :
    s.commandTaken v t = .withData (s.endCommand y .already) [1, 0, 1] := by
  simp only [State.commandTaken, hy, hthere, if_true]
  rfl

/-- COMMAND_VALVE away from its target: the command enters QUEUED (R109). -/
theorem State.commandTaken_of_not_there {s : State} {v : Nat} {t : Target} {y : Valve} (hy : s.valve v = some y)
    (hthere : y.debounced.at t = false) :
    s.commandTaken v t = .withData (s.enqueue y t .host) [0, 1, 0] := by
  simp only [State.commandTaken, hy, hthere, Bool.false_eq_true, if_false]
  rfl

/-- Settles O44: the ten checks refuse as the model's do, and the action is that of the valve found, by whether it stands
at its target. -/
theorem hostCommandIsQueued : Obligations.HostCommandIsQueued := by
  unfold Obligations.HostCommandIsQueued
  intro s v target r wanted there found queued
  have hwanted : wanted = targetOf target := (targetOf_eq target).symm
  have hthere : there = fun y => y.debounced.at wanted := funext fun y => (y.debounced.at_eq wanted).symm
  clear_value there wanted
  subst hthere hwanted
  have hchecked := checked_of_ask _ s _ _ (exec_commandValve_eq_ask s v target r) _ id
  rw [s.commandValveChecksAny_eq v target r] at hchecked
  refine hchecked.mono fun _ hexec y hy => ?_
  rw [← State.valve_num hy]
  refine ⟨fun hat => ?_, fun haway => ?_⟩
  · rw [State.commandTaken_of_there hy hat] at hexec
    exact answers_of_respond _ s _ _ _ _ hexec rfl rfl
  · rw [State.commandTaken_of_not_there hy haway] at hexec
    exact answers_of_respond _ s _ _ _ _ hexec rfl rfl

/-! ### WITHDRAW_VALVE_COMMAND -/

theorem exec_withdrawValveCommand : ∀ (v r : Byte) (s : State),
    exec (.withdrawValveCommand v r) s = execWithdrawValveCommand v r s := by
  intros; rfl

/-- A valve has no command that can be withdrawn (R114): none outstanding, or one that is TRAVELLING or carried. -/
def Valve.noneToWithdraw (y : Valve) : Bool :=
  match y.command with
  | none => true
  | some c => decide (c.phase = .travelling) || c.carried

theorem Valve.command_of_toWithdraw {y : Valve} (h : y.noneToWithdraw = false) : y.command ≠ none := fun hnone => by
  simp [Valve.noneToWithdraw, hnone] at h

/-- Of a valve found, that is the model's own check 5 of R114. -/
theorem State.withdrawable_of_some {s : State} {v : Nat} {y : Valve} (hy : s.valve v = some y) :
    (!s.withdrawable v) = y.noneToWithdraw := by
  unfold State.withdrawable Valve.noneToWithdraw
  rw [hy, Option.bind_some]
  cases y.command with
  | none => rfl
  | some c => cases hphase : c.phase <;> simp [hphase]

/-- The checks of WITHDRAW_VALVE_COMMAND (R114), each asked of whatever the table holds. -/
def State.withdrawChecksAny (s : State) (v r : Byte) : List (Bool × Status) :=
  [(!s.ready, .notConfigured), (above v 47 || nonzero r, .badField), ((s.valve v.toNat).isNone, .noSuch),
   (s.claimed v.toNat, .seqOwned), ((s.valve v.toNat).any Valve.noneToWithdraw, .wrongState)]

/-- They refuse as the model's do: with no valve found, check 3 fails before check 5 is read. -/
theorem State.firstRefusal_withdrawChecksAny (s : State) (v r : Byte) :
    firstRefusal (s.withdrawChecks v r) = firstRefusal (s.withdrawChecksAny v r) := by
  simp only [State.withdrawChecks, State.withdrawChecksAny]
  cases hv : s.valve v.toNat with
  | none => exact firstRefusal_append_of_fail [_, _] _ _ _
  | some y =>
    rw [State.withdrawable_of_some hv]
    rfl

theorem exec_withdrawValveCommand_eq_ask (s : State) (v r : Byte) :
    exec (.withdrawValveCommand v r) s =
      s.ask (s.withdrawChecksAny v r) (.ok (s.finishCommand v.toNat .withdrawn)) :=
  (exec_withdrawValveCommand v r s).trans (s.ask_congr _ (s.firstRefusal_withdrawChecksAny v r))

/-- The checks of WITHDRAW_VALVE_COMMAND as the claim says them. -/
theorem State.withdrawChecksAny_eq (s : State) (v r : Byte) :
    (s.withdrawChecksAny v r).map (fun x => (x.1 = true, x.2)) =
      [(s.lineState = .unconfigured, .notConfigured), (47 < v.toNat ∨ r ≠ 0, .badField),
       (s.valve v.toNat = none, .noSuch),
       ((s.valve v.toNat).any (fun y => decide ((s.slotOf y.station).state ≠ .idle)) = true, .seqOwned),
       ((s.valve v.toNat).any Valve.noneToWithdraw = true, .wrongState)] := by
  simp only [State.withdrawChecksAny, List.map_cons, List.map_nil, s.not_ready_iff, Bool.or_eq_true, above_iff,
    nonzero_iff, Option.isNone_iff_eq_none, s.claimed_eq]

/-- Settles O45: past its checks the valve found is unclaimed and has a command, which ends WITHDRAWN with nothing handed
to a sequence. -/
theorem hostCommandIsWithdrawn : Obligations.HostCommandIsWithdrawn := by
  unfold Obligations.HostCommandIsWithdrawn
  intro s v r found
  have hchecked := checked_of_ask _ s _ _ (exec_withdrawValveCommand_eq_ask s v r) _ id
  rw [s.withdrawChecksAny_eq v r] at hchecked
  refine hchecked.mono fun hpassed hexec y hy => ?_
  simp only [List.forall_mem_cons, hy, Option.any_some, decide_eq_true_eq, Bool.not_eq_true, not_not] at hpassed
  obtain ⟨-, -, -, hidle, htaken, -⟩ := hpassed
  rw [State.finishCommand_of_unclaimed hy (Valve.command_of_toWithdraw htaken) hidle] at hexec
  rw [← State.valve_num hy]
  exact answers_of_respond _ s _ _ _ _ hexec rfl rfl

end Sys2Proof.Machine
end

section
/-! SUPPORT. The engine as a run of elementary changes, for the relations that hold of a re-arm test only where the change
of a given-up record made it (R29, R35, R97): an EngineKeeps relation has to hold of every re-arm test. -/

namespace Sys2Proof.Machine

/-- An elementary change the engine makes, the re-arm tests only of the detectors that await a record given up. -/
inductive EngineStep : State → State → Prop
  /-- A valve's hold is re-evaluated (R119, R122). -/
  | reevalValve (s : State) (v : Nat) : EngineStep s (s.reevalValve v)
  /-- A step offers its command (R109). -/
  | offerStep (s : State) (k : Nat) (p : SeqStep) : EngineStep s (s.offerStep k p).1
  /-- A command ends (R116). -/
  | endCommand (s : State) (v : Valve) (o : ValveOutcome) : EngineStep s (s.endCommand v o)
  | updSlot (s : State) (k : Nat) (f : Slot → Slot) : EngineStep s (s.updSlot k f)
  /-- A follower watch stores its closing records (R138). -/
  | storeClosing (s : State) (k : Nat) (l : List Nat) :
    EngineStep s (s.modStation k fun x => { x with slot := { x.slot with closing := l } })
  /-- The fault record of an ended sequence is written (R150). -/
  | writeFault (s : State) (k : Nat) (f : FaultRecord) (b : Bool) :
    EngineStep s (s.modStation k fun x => { x with fault := some f, trapFault := x.trapFault || b, changed := true })
  /-- The STAGED record of a launch is given up (R35), and the detectors that await it are tested (R97). -/
  | giveUp (s : State) (k : Nat) (o : SeqOutcome) (t : Nat) (h : s.givenUp k o = some t) :
    EngineStep s ((s.recordAtEnd t).rearmAwaiting t)
  | raise (s : State) (c : AlertCause) : EngineStep s (s.raise c)
  | note (s : State) (c : NoteCause) : EngineStep s (s.note c)

/-- t is reached from s by elementary changes of the engine. -/
def EngineRun : State → State → Prop := Relation.ReflTransGen EngineStep

namespace EngineRun

theorem refl (s : State) : EngineRun s s := Relation.ReflTransGen.refl

theorem trans {s t u : State} (h : EngineRun s t) (g : EngineRun t u) : EngineRun s u := Relation.ReflTransGen.trans h g

theorem of_step {s t : State} (h : EngineStep s t) : EngineRun s t := Relation.ReflTransGen.single h

/-- What holds from a state to itself, chains, and holds across each elementary change holds across the run. -/
theorem keeps {R : State → State → Prop} (hrefl : ∀ s, R s s) (htrans : ∀ {s t u}, R s t → R t u → R s u)
    (hstep : ∀ {s t}, EngineStep s t → R s t) {s t : State} (h : EngineRun s t) : R s t := by
  induction h with
  | refl => exact hrefl s
  | tail _ hlast ih => exact htrans ih (hstep hlast)

theorem foldl {α : Type} (f : State → α → State) (hf : ∀ s a, EngineRun s (f s a)) (l : List α) (s : State) :
    EngineRun s (l.foldl f s) := by
  induction l generalizing s with
  | nil => exact refl s
  | cons a l ih => exact (hf s a).trans (ih _)

theorem updSlot (s : State) (k : Nat) (f : Slot → Slot) : EngineRun s (s.updSlot k f) := of_step (.updSlot ..)

theorem reevalStation (s : State) (k : Nat) : EngineRun s (s.reevalStation k) :=
  foldl _ (fun s v => of_step (.reevalValve s v)) _ s

theorem followerLook (s : State) (k : Nat) (l : List Nat) : EngineRun s (s.followerLook k l) := by
  have hstored := of_step (.storeClosing s k (s.closingNow k))
  unfold State.followerLook
  extract_lets now s1
  split
  · exact hstored.trans (of_step (.raise ..))
  · exact hstored

theorem followerWatch (s : State) (k : Nat) : EngineRun s (s.followerWatch k) := by
  unfold State.followerWatch
  split
  · exact followerLook ..
  · exact refl s

theorem stepSucceeded (s : State) (k : Nat) (p : SeqStep) : EngineRun s (s.stepSucceeded k p) := by
  unfold State.stepSucceeded
  extract_lets s1
  split
  · exact (updSlot ..).trans (followerLook ..)
  · exact updSlot ..

theorem endSlot (s : State) (k : Nat) (o : SeqOutcome) (r : Option (SeqStep × Role × ValveOutcome)) :
    EngineRun s (s.endSlot k o r) := by
  have hfreed := (updSlot s k fun y => y.ended o).trans (reevalStation _ k)
  unfold State.endSlot
  cases hfailed : o.failed with
  | false => exact hfreed.trans (of_step (.note ..))
  | true => exact ((hfreed.trans (of_step (.writeFault ..))).trans (of_step (.note ..))).trans (of_step (.raise ..))

/-- A change of a slot, and the offer of a step's command from it. -/
theorem offerFrom (s : State) (k : Nat) (f : Slot → Slot) (p : SeqStep) :
    EngineRun s ((s.updSlot k f).offerStep k p).1 := (updSlot ..).trans (of_step (.offerStep ..))

/-! The engine with any ending that is such a run. -/

section

variable {e : Ending} (he : ∀ s k o r, EngineRun s (e s k o r))

include he

theorem runRestoreBy (k : Nat) (l : List SeqStep) (s : State) : EngineRun s (State.runRestoreBy e k l s) := by
  induction l generalizing s with
  | nil => exact he ..
  | cons p l ih =>
    have hoffer := offerFrom s k (fun x => x.at p .restoring) p
    unfold State.runRestoreBy
    split
    · exact ih s
    · split
      · exact updSlot ..
      · extract_lets s1
        split <;> rename_i heq <;> rw [heq] at hoffer
        · exact hoffer
        · split
          · exact (hoffer.trans (updSlot ..)).trans (ih _)
          · exact hoffer.trans (he ..)

theorem beginTailBy (s : State) (k : Nat) (c : SeqOutcome) (f : Option (Role × ValveOutcome)) :
    EngineRun s (s.beginTailBy e k c f) := (updSlot ..).trans (runRestoreBy he ..)

theorem cutShortBy (s : State) (k : Nat) (v : Valve) (c : AbortCause) : EngineRun s (s.cutShortBy e k v c) := by
  unfold State.cutShortBy
  split
  · exact refl s
  · split
    · exact (of_step (.endCommand ..)).trans (beginTailBy he ..)
    · exact updSlot ..

theorem abandonBy (s : State) (k : Nat) : EngineRun s (s.abandonBy e k) := by
  refine (of_step (.raise s .notReady)).trans ?_
  unfold State.abandonBy
  extract_lets s1 x
  split
  · split
    · exact cutShortBy he ..
    · exact beginTailBy he ..
  · exact beginTailBy he ..

theorem runForwardBy (k : Nat) (l : List SeqStep) (s : State) : EngineRun s (State.runForwardBy e k l s) := by
  induction l generalizing s with
  | nil => exact he ..
  | cons p l ih =>
    have hoffer := offerFrom s k (fun x => x.at p .stepping) p
    unfold State.runForwardBy
    split
    · exact abandonBy he ..
    · split
      · exact updSlot ..
      · split
        · exact updSlot ..
        · split
          · exact updSlot ..
          · extract_lets s1
            split <;> rename_i heq <;> rw [heq] at hoffer
            · exact hoffer
            · split
              · exact (hoffer.trans (stepSucceeded ..)).trans (ih _)
              · split
                · exact hoffer.trans (updSlot ..)
                · exact hoffer.trans (beginTailBy he ..)

theorem clearanceGateBy (s : State) (k : Nat) : EngineRun s (s.clearanceGateBy e k) := by
  unfold State.clearanceGateBy
  split
  · split
    · unfold State.goOnAtBy
      split
      · exact runRestoreBy he ..
      · exact runForwardBy he ..
    · exact refl s
  · exact refl s

end

theorem reviewReceive (s : State) (k : Nat) : EngineRun s (s.reviewReceive k) := by
  unfold State.reviewReceive
  split
  · refine .trans ?_ (followerWatch ..)
    split
    · exact abandonBy endSlot ..
    · exact clearanceGateBy endSlot ..
  · exact refl s

theorem endSequence (s : State) (k : Nat) (o : SeqOutcome) (r : Option (SeqStep × Role × ValveOutcome)) :
    EngineRun s (s.endSequence k o r) := by
  unfold State.endSequence
  split
  · exact endSlot ..
  · rename_i t ht
    exact ((of_step (.giveUp s k o t ht)).trans (foldl _ reviewReceive _ _)).trans (endSlot ..)

/-! The outcome of a valve command (R116). -/

theorem restoreOutcome (s : State) (k : Nat) (p : SeqStep) (o : ValveOutcome) :
    EngineRun s (s.restoreOutcome k p o) := by
  unfold State.restoreOutcome
  split
  · exact (updSlot ..).trans (runRestoreBy endSequence ..)
  · exact endSequence ..

theorem forwardOutcome (s : State) (k : Nat) (p : SeqStep) (o : ValveOutcome) :
    EngineRun s (s.forwardOutcome k p o) := by
  unfold State.forwardOutcome
  split
  · extract_lets s1
    refine .trans ?_ (beginTailBy endSequence ..)
    unfold s1
    split
    · exact updSlot ..
    · exact refl s
  · split
    · exact (stepSucceeded ..).trans (runForwardBy endSequence ..)
    · split
      · exact updSlot ..
      · exact beginTailBy endSequence ..

theorem slotOutcome (s : State) (k : Nat) (o : ValveOutcome) : EngineRun s (s.slotOutcome k o) := by
  unfold State.slotOutcome
  split
  · exact restoreOutcome ..
  · exact forwardOutcome ..
  · exact refl s

theorem finishCommand (s : State) (v : Nat) (o : ValveOutcome) : EngineRun s (s.finishCommand v o) := by
  obtain ⟨-, heq⟩ | ⟨x, c, -, -, ⟨-, heq⟩ | ⟨-, heq⟩⟩ := s.finishCommand_cases v o <;> rw [heq]
  · exact refl s
  · exact of_step (.endCommand ..)
  · exact (of_step (.endCommand ..)).trans (slotOutcome ..)

end EngineRun

end Sys2Proof.Machine
end

section
/-! SUPPORT. What the engine leaves of the stations and the detectors: a station keeps its definition, tuning and link record,
and a detector can only join its re-arm set, where the change of a STAGED record that it awaits found it due (R29, R97). -/

namespace Sys2Proof.Machine

/-- What of a station the engine does not change: its definition, tuning, segment meter and link record. -/
def Station.site (x : Station) : Station :=
  { x with queue := [], slot := Slot.idle, trapFault := false, fault := none, changed := false }

theorem Station.link_of_site {x y : Station} (h : x.site = y.site) : x.link = y.link :=
  (congrArg Station.link h : x.site.link = y.site.link)

theorem Station.num_of_site {x y : Station} (h : x.site = y.site) : x.num = y.num :=
  (congrArg Station.num h : x.site.num = y.site.num)

/-- Every station keeps its site, and every detector its whole record. -/
structure SitesStand (s t : State) : Prop where
  stations : ∀ k, (t.station k).map Station.site = (s.station k).map Station.site
  detectors : t.detectors = s.detectors

namespace SitesStand

theorem of_same {s t : State} (hstations : t.stations = s.stations) (hdetectors : t.detectors = s.detectors) :
    SitesStand s t := ⟨fun _ => by simp only [State.station, hstations], hdetectors⟩

theorem refl (s : State) : SitesStand s s := of_same rfl rfl

theorem trans {s t u : State} (h : SitesStand s t) (g : SitesStand t u) : SitesStand s u :=
  ⟨fun k => (g.stations k).trans (h.stations k), g.detectors.trans h.detectors⟩

/-- A change of a station that keeps its site. -/
theorem modStation {s : State} {k : Nat} {f : Station → Station} (hf : ∀ x, (f x).site = x.site) :
    SitesStand s (s.modStation k f) := by
  refine ⟨fun j => ?_, rfl⟩
  rw [State.station_modStation s k j f fun x => Station.num_of_site (hf x), Option.map_map]
  refine Option.map_congr fun x _ => ?_
  simp only [Function.comp]
  split
  · exact hf x
  · rfl

theorem touchIf (s : State) (b : Bool) (k : Nat) : SitesStand s (s.touchIf b k) := by
  rw [State.touchIf_eq]
  exact modStation fun _ => rfl

theorem updSlot (s : State) (k : Nat) (f : Slot → Slot) : SitesStand s (s.updSlot k f) := by
  unfold State.updSlot
  split
  · exact refl s
  · refine trans ?_ (touchIf ..)
    exact modStation fun _ => rfl

theorem updValve (s : State) (v : Nat) (f : Valve → Valve) : SitesStand s (s.updValve v f) := by
  unfold State.updValve
  split
  · exact refl s
  · exact trans (of_same rfl rfl : SitesStand s (s.modValve v f)) (touchIf ..)

theorem strikeRecords (s : State) (l : List Nat) : SitesStand s (s.strikeRecords l) := by
  unfold State.strikeRecords
  induction l generalizing s with
  | nil => exact refl s
  | cons t l ih =>
    refine trans ?_ (ih _)
    exact of_same rfl rfl

theorem reevalValve (s : State) (v : Nat) : SitesStand s (s.reevalValve v) := by
  unfold State.reevalValve State.applyHold
  split
  · exact refl s
  · split
    · extract_lets struck joined s1
      have hs1 : SitesStand s s1 := updValve ..
      split
      · exact (hs1.trans (strikeRecords ..)).trans (of_same rfl rfl)
      · exact hs1
    · exact refl s

theorem endCommand (s : State) (v : Valve) (o : ValveOutcome) : SitesStand s (s.endCommand v o) :=
  trans (of_same rfl rfl : SitesStand s (s.modValve v.num _)) (modStation fun _ => rfl)

theorem offerStep (s : State) (k : Nat) (p : SeqStep) : SitesStand s (s.offerStep k p).1 := by
  unfold State.offerStep
  split
  · exact refl s
  · split
    · exact refl s
    · rename_i a _ _ v _
      obtain ⟨o, -, heq⟩ | ⟨-, heq⟩ := s.offer_cases v a.2 <;> rw [heq]
      · exact endCommand ..
      · exact trans (of_same rfl rfl : SitesStand s (s.modValve v.num _)) (modStation fun _ => rfl)

theorem stationPos {s t : State} (h : ∀ k, (t.station k).map Station.site = (s.station k).map Station.site) (k : Nat) :
    t.stationPos k = s.stationPos k := by
  have hpos := congrArg (Option.map Station.position) (h k)
  simp only [Option.map_map] at hpos
  exact congrArg (Option.getD · 0) hpos

end SitesStand

/-- The record of a tag is STAGED. -/
def State.stagedTag (s : State) (u : Nat) : Prop := ∃ p, s.pig u = some p ∧ p.state = .staged

/-- No record becomes STAGED where each keeps its place. -/
theorem RecordsKeepPlace.stagedTag_of {s t : State} (h : RecordsKeepPlace s t) {u : Nat} (hu : t.stagedTag u) :
    s.stagedTag u := by
  obtain ⟨q, hq, hstaged⟩ := hu
  have hrel := h.records u
  rw [hq] at hrel
  generalize hs : s.pig u = o at hrel
  cases hrel with
  | some hpq =>
    obtain ⟨-, same | ⟨-, failed⟩⟩ := hpq
    · exact ⟨_, hs, same.symm.trans hstaged⟩
    · rw [failed] at hstaged
      cases hstaged

/-- The stations keep their sites, the records their places, and the detectors have done nothing but join their re-arm sets,
each that a change of one of these records found due. -/
structure RearmsOnly (changed : Nat → Prop) (s t : State) : Prop where
  stations : ∀ k, (t.station k).map Station.site = (s.station k).map Station.site
  places : RecordsKeepPlace s t
  nums : t.detectors.map Detector.num = s.detectors.map Detector.num
  detectors : OnlyRearmed changed s t

theorem OnlyRearmed.mono {c c' : Nat → Prop} (hc : ∀ u, c u → c' u) {s t : State} (h : OnlyRearmed c s t) :
    OnlyRearmed c' s t := fun d hd =>
  (h d hd).imp_right fun ⟨⟨hlatching, htripped, hdue, u, hu, hawaited⟩, hjoined⟩ =>
    ⟨⟨hlatching, htripped, hdue, u, hc u hu, hawaited⟩, hjoined⟩

/-- What a re-arm test reads beside the detector is the train and places (R97). -/
theorem State.rearmDue_congr {s t : State} (hplaces : RecordsKeepPlace s t)
    (hstations : ∀ k, (t.station k).map Station.site = (s.station k).map Station.site) (d : Detector) :
    t.rearmDue d = s.rearmDue d := by
  unfold State.rearmDue
  simp only [hplaces.train, hplaces.pigPos, SitesStand.stationPos hstations]

/-- All that a re-arm test can do: nothing, or a TRIPPED latching detector that is due joins its re-arm set (R97). -/
theorem State.rearmTest_cases (s : State) (i : Nat) :
    s.rearmTest i = s ∨ ∃ x, s.detector i = some x ∧ x.latching = true ∧ x.state = .tripped ∧ s.rearmDue x = true ∧
      s.rearmTest i = (s.modDetector i fun y => { y with inRearmSet := true }).modStation x.station
        fun y => { y with changed := true } := by
  unfold State.rearmTest
  split
  · exact .inl rfl
  · rename_i x hx
    split
    · rename_i hfound
      obtain ⟨hlatching, htripped, hout, hdue⟩ := hfound
      refine .inr ⟨x, hx, hlatching, htripped, hdue, ?_⟩
      simp [State.updDetector_of_some _ hx, hout]
    · exact .inl rfl

namespace RearmsOnly

variable {changed : Nat → Prop} {s t u : State}

theorem mono {changed' : Nat → Prop} (hc : ∀ u, changed u → changed' u) (h : RearmsOnly changed s t) :
    RearmsOnly changed' s t := { h with detectors := h.detectors.mono hc }

theorem trans (h : RearmsOnly changed s t) (g : RearmsOnly changed t u) : RearmsOnly changed s u where
  stations k := (g.stations k).trans (h.stations k)
  places := h.places.trans g.places
  nums := g.nums.trans h.nums
  detectors d hd := by
    obtain same | ⟨⟨hlatching, htripped, hdue, hawaited⟩, joined⟩ := h.detectors d hd
    · exact g.detectors d (State.detector_mem same)
    · have hrearmed : Rearmed changed u d :=
        ⟨hlatching, htripped, (State.rearmDue_congr g.places g.stations d).trans hdue, hawaited⟩
      obtain same | ⟨-, again⟩ := g.detectors _ (State.detector_mem joined)
      · exact .inr ⟨hrearmed, same⟩
      · exact .inr ⟨hrearmed, again⟩

/-- Where the detectors are the same, none has joined. -/
theorem of_sitesStand (hrise : Rising (s.detectors.map Detector.num)) (hplaces : RecordsKeepPlace s t)
    (hsites : SitesStand s t) : RearmsOnly changed s t where
  stations := hsites.stations
  places := hplaces
  nums := by rw [hsites.detectors]
  detectors d hd := .inl <| by
    rw [State.detector, hsites.detectors]
    exact find?_of_rising Detector.num _ hrise d hd

/-- The re-arm test of a detector that awaits a record that has changed. -/
theorem rearmTest (hrise : Rising (s.detectors.map Detector.num)) (i : Nat)
    (hawaits : ∀ d, s.detector i = some d → ∃ u, changed u ∧ d.awaited = some u) :
    RearmsOnly changed s (s.rearmTest i) := by
  have hplaces := RecordsKeepPlace.rearmTest s i
  obtain same | ⟨x, hx, hlatching, htripped, hdue, heq⟩ := s.rearmTest_cases i
  · rw [same]
    exact of_sitesStand hrise (.refl s) (.refl s)
  · have hstations : ∀ k, ((s.rearmTest i).station k).map Station.site = (s.station k).map Station.site := by
      rw [heq]
      exact (SitesStand.modStation (s := s) (f := fun y => { y with changed := true }) fun _ => rfl).stations
    have hlookup : ∀ j, (s.rearmTest i).detector j =
        (s.detector j).map fun y => if y.num = i then { y with inRearmSet := true } else y := by
      rw [heq]
      exact fun j => s.detector_modDetector i j _ fun _ => rfl
    refine ⟨hstations, hplaces, ?_, fun d hd => ?_⟩
    · rw [heq]
      exact map_key_map Detector.num i (fun y => { y with inRearmSet := true }) (fun _ => rfl) s.detectors
    · have hfind : s.detector d.num = some d := find?_of_rising Detector.num _ hrise d hd
      rw [hlookup, hfind, Option.map_some]
      split
      · rename_i hi
        obtain rfl : d = x := Option.some.inj (hfind.symm.trans (hi ▸ hx))
        exact .inr ⟨⟨hlatching, htripped, (State.rearmDue_congr hplaces hstations d).trans hdue, hawaits d hx⟩, rfl⟩
      · exact .inl rfl

/-- A detector goes on awaiting the record it awaited. -/
theorem awaited (h : RearmsOnly changed s t) {i : Nat} {e : Detector} (he : t.detector i = some e)
    (hrise : Rising (s.detectors.map Detector.num)) : ∃ d, s.detector i = some d ∧ d.awaited = e.awaited := by
  have hnum : i ∈ s.detectors.map Detector.num := by
    rw [← h.nums, ← State.detector_num he]
    exact List.mem_map_of_mem (State.detector_mem he)
  obtain ⟨d, hd, rfl⟩ := List.mem_map.1 hnum
  refine ⟨d, find?_of_rising Detector.num _ hrise d hd, ?_⟩
  obtain same | ⟨-, joined⟩ := h.detectors d hd
  · cases he.symm.trans same
    rfl
  · cases he.symm.trans joined
    rfl

/-- The re-arm tests at a change of a record reach only the detectors that await it (R97). -/
theorem rearmAwaiting (hrise : Rising (s.detectors.map Detector.num)) (tag : Nat) :
    RearmsOnly (· = tag) s (s.rearmAwaiting tag) := by
  unfold State.rearmAwaiting
  have hawait : ∀ i ∈ (s.detectors.filter fun d => d.awaited == some tag).map Detector.num,
      ∀ d, s.detector i = some d → d.awaited = some tag := by
    intro i hi d hd
    obtain ⟨e, he, rfl⟩ := List.mem_map.1 hi
    obtain ⟨hmem, hawaited⟩ := List.mem_filter.1 he
    cases hd.symm.trans (find?_of_rising Detector.num _ hrise e hmem)
    exact beq_iff_eq.1 hawaited
  generalize (s.detectors.filter fun d => d.awaited == some tag).map Detector.num = l at hawait
  induction l generalizing s with
  | nil => exact of_sitesStand hrise (.refl s) (.refl s)
  | cons i l ih =>
    have hfirst : RearmsOnly (· = tag) s (s.rearmTest i) :=
      rearmTest hrise i fun d hd => ⟨tag, rfl, hawait i List.mem_cons_self d hd⟩
    refine hfirst.trans (ih (by rwa [hfirst.nums]) fun j hj e he => ?_)
    obtain ⟨d, hd, hsame⟩ := hfirst.awaited he hrise
    exact hsame.symm.trans (hawait j (List.mem_cons_of_mem _ hj) d hd)

end RearmsOnly

/-- From a rising table, the detectors have only joined their re-arm sets, by changes of STAGED records. -/
def StagedRearm (s t : State) : Prop :=
  Rising (s.detectors.map Detector.num) → RearmsOnly s.stagedTag s t

namespace StagedRearm

theorem of_sitesStand {s t : State} (hplaces : RecordsKeepPlace s t) (hsites : SitesStand s t) : StagedRearm s t :=
  fun hrise => .of_sitesStand hrise hplaces hsites

theorem refl (s : State) : StagedRearm s s := of_sitesStand (.refl s) (.refl s)

theorem trans {s t u : State} (h : StagedRearm s t) (g : StagedRearm t u) : StagedRearm s u := fun hrise =>
  have hs := h hrise
  hs.trans ((g (by rwa [hs.nums])).mono fun _ => hs.places.stagedTag_of)

theorem engineStep {s t : State} (h : EngineStep s t) : StagedRearm s t := by
  cases h with
  | reevalValve v => exact of_sitesStand (.reevalValve ..) (.reevalValve ..)
  | offerStep k p => exact of_sitesStand (.offerStep ..) (.offerStep ..)
  | endCommand v o => exact of_sitesStand (.endCommand ..) (.endCommand ..)
  | updSlot k f => exact of_sitesStand (.updSlot ..) (.updSlot ..)
  | storeClosing k l => exact of_sitesStand (.modStation ..) (.modStation fun _ => rfl)
  | writeFault k f b => exact of_sitesStand (.modStation ..) (.modStation fun _ => rfl)
  | giveUp k o tag hgiven =>
    intro hrise
    have hrecord : RearmsOnly s.stagedTag s (s.recordAtEnd tag) :=
      .of_sitesStand hrise (.giveUp s k o tag hgiven) (.of_same rfl rfl)
    refine hrecord.trans ((RearmsOnly.rearmAwaiting (s := s.recordAtEnd tag) hrise tag).mono fun u hu => ?_)
    rw [hu]
    exact State.staged_of_givenUp hgiven
  | raise c => exact of_sitesStand (.raise ..) (.of_same rfl rfl)
  | note c => exact of_sitesStand (.note ..) (.of_same rfl rfl)

theorem engineRun {s t : State} (h : EngineRun s t) : StagedRearm s t := h.keeps refl trans engineStep

end StagedRearm

end Sys2Proof.Machine
end

section
/-! SUPPORT. The arbiter (R164): the station the claims call chosen is the one the model gives the slot. -/

namespace Sys2Proof.Machine

/-- In rising numbers, the search for one of a kind finds the least. -/
theorem find?_eq_some_of_least {l : List Nat} (hrise : Rising l) {q : Nat → Bool} {k : Nat} (hk : k ∈ l) (hq : q k = true)
    (hleast : ∀ j ∈ l, q j = true → k ≤ j) : l.find? q = some k := by
  obtain ⟨before, after, rfl⟩ := List.append_of_mem hk
  refine List.find?_eq_some_iff_append.2 ⟨hq, before, after, rfl, fun j hj => ?_⟩
  have hlt : j < k := (List.pairwise_append.1 hrise).2.2 j hj k List.mem_cons_self
  cases hqj : q j with
  | false => rfl
  | true => exact absurd (hleast j (List.mem_append_left _ hj) hqj) (Nat.not_le.2 hlt)

theorem head?_eq_some_of_least {l : List Nat} (hrise : Rising l) {k : Nat} (hk : k ∈ l) (hleast : ∀ j ∈ l, k ≤ j) :
    l.head? = some k := by
  rw [← find?_eq_some_of_least hrise (q := fun _ => true) hk rfl fun j hj _ => hleast j hj]
  cases l <;> rfl

/-- The count round from the last served finds the number it reaches no later than any other. -/
theorem firstAfter_eq_some {last : Option Nat} {l : List Nat} (hrise : Rising l) {k : Nat} (hk : k ∈ l)
    (hfirst : ∀ j ∈ l, noLater last k j) : firstAfter last l = some k := by
  cases last with
  | none => exact head?_eq_some_of_least hrise hk hfirst
  | some n =>
    simp only [noLater] at hfirst
    simp only [firstAfter]
    by_cases hn : n < k
    · rw [find?_eq_some_of_least hrise hk (decide_eq_true hn) fun j hj hnj => ?_, Option.some_or]
      have := hfirst j hj
      have := of_decide_eq_true hnj
      omega
    · rw [List.find?_eq_none.2 fun j hj => ?_, Option.none_or]
      · refine head?_eq_some_of_least hrise hk fun j hj => ?_
        have := hfirst j hj
        omega
      · have := hfirst j hj
        simp only [decide_eq_true_eq]
        omega

@[simp] theorem firstAfter_nil (last : Option Nat) : firstAfter last [] = none := by cases last <;> rfl

/-- The station to be served by fairness, of the best so far and the next one polled (R164 point 1). -/
def State.fairer (s : State) (best : Option Station) (x : Station) : Option Station :=
  if x.link.pollWait < s.params.fairness then best
  else
    match best with
    | none => some x
    | some b => if b.link.pollWait < x.link.pollWait then some x else best

theorem State.fairest_eq (s : State) : s.fairest = s.polled.foldl s.fairer none := rfl

/-- Stations all of whose waits are below a station's leave it the fairest. -/
theorem State.foldl_fairer_lt (s : State) {x : Station} {l : List Station}
    (hlt : ∀ y ∈ l, y.link.pollWait < x.link.pollWait) {best : Option Station}
    (hbest : ∀ b ∈ best, b.link.pollWait < x.link.pollWait) :
    ∀ b ∈ l.foldl s.fairer best, b.link.pollWait < x.link.pollWait := by
  induction l generalizing best with
  | nil => exact hbest
  | cons y l ih =>
    obtain ⟨hy, hl⟩ := List.forall_mem_cons.1 hlt
    refine ih hl fun b hb => ?_
    unfold State.fairer at hb
    split at hb
    · exact hbest b hb
    · split at hb
      · cases hb
        exact hy
      · split at hb
        · cases hb
          exact hy
        · exact hbest b hb

/-- A station stays the fairest past stations whose waits are not above its own. -/
theorem State.foldl_fairer_le (s : State) {x : Station} {l : List Station}
    (hle : ∀ y ∈ l, y.link.pollWait ≤ x.link.pollWait) : l.foldl s.fairer (some x) = some x := by
  induction l with
  | nil => rfl
  | cons y l ih =>
    obtain ⟨hy, hl⟩ := List.forall_mem_cons.1 hle
    have hkept : s.fairer (some x) y = some x := by
      simp only [State.fairer, Nat.not_lt.2 hy, if_false, ite_self]
    rw [List.foldl_cons, hkept]
    exact ih hl

/-- Where every wait is below F, fairness names no station. -/
theorem State.fairest_eq_none {s : State} (hshort : ∀ y ∈ s.polled, y.link.pollWait < s.params.fairness) :
    s.fairest = none := by
  rw [State.fairest_eq]
  generalize s.polled = l at hshort
  induction l with
  | nil => rfl
  | cons y l ih =>
    obtain ⟨hy, hl⟩ := List.forall_mem_cons.1 hshort
    rw [List.foldl_cons, State.fairer, if_pos hy]
    exact ih hl

theorem TablesRise.polled {s : State} (h : TablesRise s) : Rising (s.polled.map Station.num) :=
  h.stations.sublist (List.filter_sublist.map _)

/-- Fairness names the station of the greatest wait that has reached F, of equal waits the lower number. -/
theorem State.fairest_eq_some {s : State} (hrise : TablesRise s) {x : Station} (hx : x ∈ s.polled)
    (hwait : s.params.fairness ≤ x.link.pollWait)
    (hgreatest : ∀ y ∈ s.polled,
      y.link.pollWait < x.link.pollWait ∨ (y.link.pollWait = x.link.pollWait ∧ x.num ≤ y.num)) :
    s.fairest = some x := by
  have hpolled := hrise.polled
  rw [State.fairest_eq]
  obtain ⟨before, after, hsplit⟩ := List.append_of_mem hx
  rw [hsplit] at hgreatest hpolled ⊢
  rw [List.map_append, List.map_cons] at hpolled
  have hbefore : ∀ y ∈ before, y.link.pollWait < x.link.pollWait := by
    intro y hy
    have hnum : y.num < x.num := (List.pairwise_append.1 hpolled).2.2 _ (List.mem_map_of_mem hy) _ List.mem_cons_self
    obtain hlt | ⟨-, hle⟩ := hgreatest y (List.mem_append_left _ hy)
    · exact hlt
    · exact absurd hle (Nat.not_le.2 hnum)
  have hafter : ∀ y ∈ after, y.link.pollWait ≤ x.link.pollWait := by
    intro y hy
    obtain hlt | ⟨heq, -⟩ := hgreatest y (List.mem_append_right _ (List.mem_cons_of_mem _ hy))
    · exact hlt.le
    · exact heq.le
  have htaken : s.fairer (before.foldl s.fairer none) x = some x := by
    have hbest := s.foldl_fairer_lt hbefore (best := none) fun b hb => absurd hb (Option.not_mem_none b)
    unfold State.fairer
    rw [if_neg (Nat.not_lt.2 hwait)]
    split
    · rfl
    · rename_i b hb
      rw [if_pos (hbest b hb)]
  rw [List.foldl_append, List.foldl_cons, htaken]
  exact s.foldl_fairer_le hafter

/-- The arbiter's count over some of the polled stations. -/
theorem State.firstAfter_filter {s : State} (hrise : TablesRise s) {q : Station → Bool} {x : Station} (hx : x ∈ s.polled)
    (hq : q x = true) (hfirst : ∀ y ∈ s.polled, q y = true → noLater s.link.lastServed x.num y.num) :
    firstAfter s.link.lastServed ((s.polled.filter q).map Station.num) = some x.num := by
  refine firstAfter_eq_some (hrise.polled.sublist (List.filter_sublist.map _))
    (List.mem_map_of_mem (List.mem_filter.2 ⟨hx, hq⟩)) fun j hj => ?_
  obtain ⟨y, hy, rfl⟩ := List.mem_map.1 hj
  exact hfirst y (List.mem_filter.1 hy).1 (List.mem_filter.1 hy).2

/-- The model's arbiter gives the slot to the station chosen by R164. -/
theorem Chosen.chosen_eq {s : State} {x : Station} (hrise : TablesRise s) (h : Chosen s x) : s.chosen = some x.num := by
  obtain ⟨hx, ⟨hwait, hgreatest⟩ | ⟨hshort, hcount⟩⟩ := h
  · simp only [State.chosen, State.fairest_eq_some hrise hx hwait hgreatest]
  · simp only [State.chosen, State.fairest_eq_none hshort]
    obtain ⟨hhot, hfirst⟩ | ⟨hcold, hfirst⟩ := hcount
    · rw [State.firstAfter_filter hrise hx hhot hfirst, Option.some_or]
    · rw [List.filter_eq_nil_iff.2 fun y hy => by simp [hcold y hy], List.map_nil, firstAfter_nil, Option.none_or]
      exact State.firstAfter_filter hrise hx (by simp [hcold x hx]) fun y hy _ => hfirst y hy

/-- With every station OUT there is none to choose. -/
theorem State.chosen_eq_none {s : State} (hout : ∀ x ∈ s.stations, x.link.state = .out) : s.chosen = none := by
  have hpolled : s.polled = [] := List.filter_eq_nil_iff.2 fun x hx => by simp [hout x hx]
  simp [State.chosen, State.fairest, hpolled]

end Sys2Proof.Machine
end

section
/-! SUPPORT. POLL_SLOT_START: the poll waits, the tests of the heads (R110), what the poll carries (R155) and the slot. -/

namespace Sys2Proof.Machine

/-! ### A slot is given to a station -/

@[simp] theorem Station.waited_num (x : Station) (k : Nat) : (x.waited k).num = x.num := by
  unfold Station.waited
  split <;> rfl

@[simp] theorem Station.waited_address (x : Station) (k : Nat) : (x.waited k).address = x.address := by
  unfold Station.waited
  split <;> rfl

@[simp] theorem Station.waited_tuning (x : Station) (k : Nat) : (x.waited k).tuning = x.tuning := by
  unfold Station.waited
  split <;> rfl

@[simp] theorem Station.waited_queue (x : Station) (k : Nat) : (x.waited k).queue = x.queue := by
  unfold Station.waited
  split <;> rfl

@[simp] theorem Station.waited_remote (x : Station) (k : Nat) : (x.waited k).link.remote = x.link.remote := by
  unfold Station.waited
  split <;> rfl

theorem Station.waited_pollWait (x : Station) (k : Nat) : (x.waited k).link.pollWait =
    if x.link.state = .out then x.link.pollWait else if x.num = k then 0 else min (x.link.pollWait + 1) 255 := by
  unfold Station.waited
  split <;> rfl

@[simp] theorem State.valve_serve (s : State) (k v : Nat) : (s.serve k).valve v = s.valve v := rfl

theorem State.station_serve (s : State) (k j : Nat) :
    (s.serve k).station j = (s.station j).map fun x => x.waited k := by
  simp only [State.station, State.serve, List.find?_map, Function.comp_def, Station.waited_num]

theorem State.sendTest_congr {s t : State} {v : Valve} (h : t.remoteShown v.station = s.remoteShown v.station)
    (target : Target) : t.sendTest v target = s.sendTest v target := by
  unfold State.sendTest State.closeInhibited
  rw [h]

/-- The poll waits are no part of the send-time test. -/
@[simp] theorem State.sendTest_serve (s : State) (k : Nat) (v : Valve) (t : Target) :
    (s.serve k).sendTest v t = s.sendTest v t := by
  refine State.sendTest_congr ?_ t
  simp only [State.remoteShown_eq, State.station_serve]
  cases s.station v.station with
  | none => rfl
  | some x => exact x.waited_remote k

/-! ### The tests of the heads (R110) -/

/-- A host command of a station's own valve fails the send-time test. -/
def HeadFails (s : State) (k v : Nat) (o : ValveOutcome) : Prop :=
  ∃ y c, s.valve v = some y ∧ y.station = k ∧ y.command = some c ∧ c.origin = .host ∧ s.sendTest y c.target = some o

/-- A valve's command passes the send-time test. -/
def HeadPasses (s : State) (v : Nat) : Prop := ∃ y c, s.valve v = some y ∧ y.command = some c ∧ s.sendTest y c.target = none

theorem HeadFails.unique {s : State} {k v : Nat} {o o' : ValveOutcome} (h : HeadFails s k v o) (h' : HeadFails s k v o') :
    o = o' := by
  obtain ⟨y, c, hy, -, hc, -, ho⟩ := h
  obtain ⟨y', c', hy', -, hc', -, ho'⟩ := h'
  cases hy.symm.trans hy'
  cases hc.symm.trans hc'
  exact Option.some.inj (ho.symm.trans ho')

theorem HeadFails.not_passes {s : State} {k v : Nat} {o : ValveOutcome} (h : HeadFails s k v o) : ¬ HeadPasses s v := by
  obtain ⟨y, c, hy, -, hc, -, ho⟩ := h
  rintro ⟨y', c', hy', hc', ho'⟩
  cases hy.symm.trans hy'
  cases hc.symm.trans hc'
  cases ho.symm.trans ho'

theorem headFails_serve {s : State} {i k v : Nat} {o : ValveOutcome} : HeadFails (s.serve i) k v o ↔ HeadFails s k v o := by
  simp only [HeadFails, State.valve_serve, State.sendTest_serve]

theorem headPasses_serve {s : State} {i v : Nat} : HeadPasses (s.serve i) v ↔ HeadPasses s v := by
  simp only [HeadPasses, State.valve_serve, State.sendTest_serve]

/-- The end of a command leaves the send-time tests as they were. -/
theorem State.sendTest_endCommand (s : State) (y v : Valve) (o : ValveOutcome) (t : Target) :
    (s.endCommand y o).sendTest v t = s.sendTest v t := by
  refine State.sendTest_congr ?_ t
  simp only [State.remoteShown_eq, State.station_endCommand]
  cases s.station v.station with
  | none => rfl
  | some x =>
    simp only [Option.map_some, Option.any_some]
    split <;> rfl

theorem State.valve_modValve_of_ne (s : State) {v w : Nat} {f : Valve → Valve} (hf : ∀ x, (f x).num = x.num)
    (hv : v ≠ w) : (s.modValve w f).valve v = s.valve v := by
  rw [State.valve_modValve s w v f hf]
  cases h : s.valve v with
  | none => rfl
  | some z => rw [Option.map_some, if_neg (by rwa [State.valve_num h])]

theorem State.valve_endCommand_of_ne (s : State) (y : Valve) (o : ValveOutcome) {v : Nat} (hv : v ≠ y.num) :
    (s.endCommand y o).valve v = s.valve v :=
  s.valve_modValve_of_ne (f := fun x => { x with command := none, lastOutcome := some o }) (fun _ => rfl) hv

theorem headFails_endCommand {s : State} {k v : Nat} {y : Valve} {o o' : ValveOutcome} (hv : v ≠ y.num) :
    HeadFails (s.endCommand y o) k v o' ↔ HeadFails s k v o' := by
  simp only [HeadFails, s.valve_endCommand_of_ne y o hv, State.sendTest_endCommand]

theorem headPasses_endCommand {s : State} {v : Nat} {y : Valve} {o : ValveOutcome} (hv : v ≠ y.num) :
    HeadPasses (s.endCommand y o) v ↔ HeadPasses s v := by
  simp only [HeadPasses, s.valve_endCommand_of_ne y o hv, State.sendTest_endCommand]

theorem State.testHeads_of_empty {s : State} {k : Nat} {x : Station} (hx : s.station k = some x) (hq : x.queue = [])
    (n : Nat) : State.testHeads n k s = (s, none) := by
  cases n <;> simp [State.testHeads, hx, hq]

theorem State.testHeads_of_pass {s : State} {k v : Nat} {x : Station} {y : Valve} {c : Command}
    (hx : s.station k = some x) (hq : x.queue.head? = some v) (hy : s.valve v = some y) (hc : y.command = some c)
    (htest : s.sendTest y c.target = none) (n : Nat) :
    State.testHeads (n + 1) k s = (s.modValve v fun y => { y with command := some c.nowCarried }, some v) := by
  simp [State.testHeads, hx, hq, hy, hc, htest, State.valve_num hy]

theorem State.testHeads_of_fail {s : State} {k v : Nat} {x : Station} {y : Valve} {c : Command} {o : ValveOutcome}
    (hx : s.station k = some x) (hq : x.queue.head? = some v) (hy : s.valve v = some y) (hc : y.command = some c)
    (hhost : c.origin = .host) (htest : s.sendTest y c.target = some o) (n : Nat) :
    State.testHeads (n + 1) k s = State.testHeads n k (s.endCommand y o) := by
  simp [State.testHeads, hx, hq, hy, hc, htest, State.valve_num hy, State.finishCommand, hhost]

/-- The heads of a station's queue that fail their tests have ended and left it; besides them only the next head's valve may
have changed. -/
structure HeadsTested (s : State) (k : Nat) (queue heads : List Nat) (next : Option Nat) (t : State) : Prop where
  detectors : t.detectors = s.detectors
  queue : (t.station k).map Station.queue = some (queue.filter (· ∉ heads))
  ended : ∀ v ∈ heads, ∀ o, HeadFails s k v o →
    (t.valve v).map (fun z => (z.command, z.lastOutcome)) = some (none, some o)
  others : ∀ v, v ∉ heads → next ≠ some v → t.valve v = s.valve v

/-- No head fails: the head that passes is carried, or the queue is empty. -/
theorem HeadsTested.of_next {s : State} {k : Nat} {x : Station} (hx : s.station k = some x)
    (hpass : ∀ w, x.queue.head? = some w → HeadPasses s w) (n : Nat) :
    (State.testHeads (n + 1) k s).2 = x.queue.head? ∧
      HeadsTested s k x.queue [] x.queue.head? (State.testHeads (n + 1) k s).1 := by
  cases hhead : x.queue.head? with
  | none =>
    rw [State.testHeads_of_empty hx (List.head?_eq_none_iff.1 hhead)]
    exact ⟨rfl, rfl, by simp [hx], nofun, fun _ _ _ => rfl⟩
  | some w =>
    obtain ⟨y, c, hy, hc, htest⟩ := hpass w hhead
    rw [State.testHeads_of_pass hx hhead hy hc htest]
    refine ⟨rfl, rfl, by simp [hx], nofun, fun v _ hv => ?_⟩
    exact s.valve_modValve_of_ne (fun _ => rfl) fun heq => hv (congrArg some heq.symm)

/-- A head of the host's that fails ends with its outcome and leaves the queue wherever it stands in it, and the rest is
tested (R110). -/
theorem HeadsTested.of_fail {s : State} {k v : Nat} {y : Valve} {c : Command} {o : ValveOutcome} {queue heads : List Nat}
    {next : Option Nat} {t : State} (hy : s.valve v = some y) (hstation : y.station = k)
    (hc : y.command = some c) (hhost : c.origin = .host) (htest : s.sendTest y c.target = some o) (hnext : next ≠ some v)
    (h : HeadsTested (s.endCommand y o) k (queue.filter (· ≠ v)) (heads.filter (· ≠ v)) next t) :
    HeadsTested s k queue (v :: heads) next t where
  detectors := h.detectors
  queue := by
    rw [h.queue, List.filter_filter]
    refine congrArg some (List.filter_congr fun u _ => ?_)
    by_cases hu : u = v <;> simp [hu]
  ended u hu o' hfails := by
    by_cases huv : u = v
    · subst huv
      rw [hfails.unique ⟨y, c, hy, hstation, hc, hhost, htest⟩, h.others u (by simp) hnext, State.valve_endCommand, hy,
        Option.map_some, if_pos rfl]
      rfl
    · refine h.ended u ?_ o' ((headFails_endCommand (by rwa [State.valve_num hy])).2 hfails)
      rcases List.mem_cons.1 hu with rfl | hmem
      · exact absurd rfl huv
      · exact List.mem_filter.2 ⟨hmem, decide_eq_true huv⟩
  others u hu hun := by
    obtain ⟨huv, hmem⟩ := not_or.1 (mt List.mem_cons.2 hu)
    rw [h.others u (fun hin => hmem (List.mem_filter.1 hin).1) hun]
    exact s.valve_endCommand_of_ne y o (by rwa [State.valve_num hy])

/-- The heads of a queue that fail are passed over one after another, up to one that passes or the end. -/
theorem State.testHeads_of_failing {n k : Nat} {s : State} {x : Station} {heads rest : List Nat}
    (hx : s.station k = some x) (hq : x.queue = heads ++ rest) (hlen : heads.length < n)
    (hfails : ∀ v ∈ heads, ∃ o, HeadFails s k v o) (hnext : ∀ w, rest.head? = some w → HeadPasses s w) :
    (State.testHeads n k s).2 = rest.head? ∧ HeadsTested s k x.queue heads rest.head? (State.testHeads n k s).1 := by
  induction n generalizing s x heads rest with
  | zero => exact absurd hlen (Nat.not_lt_zero _)
  | succ n ih =>
    cases heads with
    | nil =>
      obtain rfl : x.queue = rest := hq
      exact HeadsTested.of_next hx hnext n
    | cons v heads =>
      obtain ⟨⟨o, hv⟩, htail⟩ := List.forall_mem_cons.1 hfails
      have hne : ∀ w, rest.head? = some w → w ≠ v := fun w hw heq => hv.not_passes (heq ▸ hnext w hw)
      obtain ⟨y, c, hy, rfl, hc, hhost, htest⟩ := hv
      have hnum := State.valve_num hy
      have hkept : (rest.filter (· ≠ v)).head? = rest.head? := by
        cases rest with
        | nil => rfl
        | cons w rest => simp [hne w rfl]
      rw [State.testHeads_of_fail hx (by rw [hq]; rfl) hy hc hhost htest]
      refine And.imp_right (HeadsTested.of_fail hy rfl hc hhost htest fun h => hne v h rfl) ?_
      rw [← hkept]
      have hx' : (s.endCommand y o).station y.station =
          some { x with queue := x.queue.filter (· ≠ v), changed := true } := by
        rw [State.station_endCommand, hx, Option.map_some, if_pos (State.station_num hx), hnum]
      refine ih hx' (by simp [hq]) ((List.length_filter_le _ _).trans_lt (Nat.lt_of_succ_lt_succ hlen)) ?_ ?_
      · intro u hu
        obtain ⟨hmem, huv⟩ := List.mem_filter.1 hu
        obtain ⟨o', hfail⟩ := htail u hmem
        exact ⟨o', (headFails_endCommand (by rw [hnum]; exact of_decide_eq_true huv)).2 hfail⟩
      · intro w hw
        rw [hkept] at hw
        exact (headPasses_endCommand (by rw [hnum]; exact hne w hw)).2 (hnext w hw)

/-- Whatever heads are tested, the engine alone moves, and a valve's command is marked as carried. -/
theorem State.testHeads_reach (n k : Nat) (s : State) :
    Reaches s (State.testHeads n k s).1 ∧ StagedRearm s (State.testHeads n k s).1 := by
  induction n generalizing s with
  | zero => exact ⟨.refl s, .refl s⟩
  | succ n ih =>
    unfold State.testHeads
    split
    · exact ⟨.refl s, .refl s⟩
    · split
      · exact ⟨.refl s, .refl s⟩
      · split
        · obtain ⟨hreach, hrearm⟩ := ih (s.finishCommand _ _)
          exact ⟨(Reaches.finishCommand ..).trans hreach,
            (StagedRearm.engineRun (.finishCommand ..)).trans hrearm⟩
        · exact ⟨.modValve .., .of_sitesStand (.modValve ..) (.of_same rfl rfl)⟩

/-! ### What the poll carries (R155) -/

theorem State.chooseItem_fst (s : State) (k : Nat) : (s.chooseItem k).1 = (State.testHeads 32 k s).1 := by
  unfold State.chooseItem
  split
  · rename_i heq
    rw [heq]
  · rename_i heq
    rw [heq]
    dsimp only
    split <;> rfl

theorem State.chooseItem_snd (s : State) (k : Nat) : (s.chooseItem k).2 =
    match (State.testHeads 32 k s).2, (State.testHeads 32 k s).1.rearmHead k with
    | some v, _ => .valve v
    | none, some d => .rearm d.num
    | none, none => .nothing := by
  unfold State.chooseItem
  split
  · rename_i heq
    rw [heq]
  · rename_i heq
    rw [heq]
    dsimp only
    cases State.rearmHead _ k <;> rfl

theorem State.rearmHead_congr {s t : State} (h : t.detectors = s.detectors) (k : Nat) : t.rearmHead k = s.rearmHead k := by
  simp only [State.rearmHead, State.detectorsOf, h]

theorem State.rearmHead_mem {s : State} {k : Nat} {d : Detector} (h : s.rearmHead k = some d) : d ∈ s.detectors := by
  obtain ⟨n, -, hn⟩ := List.exists_of_findSome?_eq_some h
  exact (List.mem_filter.1 (List.mem_of_find?_eq_some hn)).1

theorem State.chooseItem_of_empty {s : State} {k : Nat} {x : Station} (hx : s.station k = some x) (hq : x.queue = []) :
    s.chooseItem k = (s, ((s.rearmHead k).map fun d => Carried.rearm d.num).getD .nothing) := by
  unfold State.chooseItem
  rw [State.testHeads_of_empty hx hq]
  dsimp only
  cases s.rearmHead k <;> rfl

theorem State.chooseItem_of_pass {s : State} {k v : Nat} {x : Station} {y : Valve} {c : Command}
    (hx : s.station k = some x) (hq : x.queue.head? = some v) (hy : s.valve v = some y) (hc : y.command = some c)
    (htest : s.sendTest y c.target = none) :
    s.chooseItem k = (s.modValve v fun y => { y with command := some c.nowCarried }, .valve v) := by
  unfold State.chooseItem
  rw [State.testHeads_of_pass hx hq hy hc htest]

/-- A poll that carries a command names its target and its valve's role (R191). -/
theorem State.pollBytes_valve {s : State} {v : Nat} {y : Valve} {c : Command} (hy : s.valve v = some y)
    (hc : y.command = some c) :
    s.pollBytes (.valve v) = [if c.target = .toOpen then 1 else 2, BitVec.ofNat 8 y.role.ctorIdx] := by
  simp only [State.pollBytes, hy, hc]

/-- A poll that carries a re-arm names the detector's slot (R191). -/
theorem State.pollBytes_rearm {s : State} {i : Nat} {d : Detector} (hd : s.detector i = some d) :
    s.pollBytes (.rearm i) = [3, BitVec.ofNat 8 d.slot] := by
  simp only [State.pollBytes, hd, Option.map_some, Option.getD_some]

/-- The engine reaches neither the link nor the port, nor the Line Clock, nor the meters. -/
theorem Reaches.outside {s t : State} (h : Reaches s t) :
    t.link = s.link ∧ t.port = s.port ∧ t.clock = s.clock ∧ t.meters = s.meters := by
  unfold Reaches at h
  rw [h]
  exact ⟨rfl, rfl, rfl, rfl⟩

theorem State.chooseItem_reach (s : State) (k : Nat) :
    Reaches s (s.chooseItem k).1 ∧ StagedRearm s (s.chooseItem k).1 := by
  rw [s.chooseItem_fst k]
  exact State.testHeads_reach ..

/-! ### The slot begins -/

theorem State.served_of_some {s : State} {k : Nat} {x : Station} (hx : s.station k = some x) :
    (s.serve k).station k = some (x.waited k) := by rw [State.station_serve, hx, Option.map_some]

/-- Each station's site as a slot begins: its poll wait has moved. -/
theorem State.site_startSlot {s : State} (hrise : TablesRise s) (k j : Nat) :
    ((s.startSlot k).station j).map Station.site = (s.station j).map fun x => (x.waited k).site := by
  have hstations := (((s.serve k).chooseItem_reach k).2 hrise.detectors).stations j
  rw [State.station_serve, Option.map_map] at hstations
  exact hstations

/-- The slot, the poll frame and the last-served station as a slot begins. -/
theorem State.link_startSlot {s : State} (hrise : TablesRise s) {k : Nat} {x : Station} (hx : s.station k = some x) :
    (s.startSlot k).link =
      { s.link with
        lastServed := some k
        slot := some { station := k, item := ((s.serve k).chooseItem k).2, timeout := 20 * 2 ^ x.tuning.replyCode,
                       fate := .awaited }
        txFrame := withCrc (BitVec.ofNat 8 x.address ::
          ((s.serve k).chooseItem k).1.pollBytes ((s.serve k).chooseItem k).2) } := by
  have hsite := State.site_startSlot hrise k k
  rw [hx, Option.map_some] at hsite
  obtain ⟨z, hz, hzx⟩ := Option.map_eq_some_iff.1 hsite
  have haddress : z.address = x.address := (congrArg Station.address hzx).trans (x.waited_address k)
  have htuning : z.tuning = x.tuning := (congrArg Station.tuning hzx).trans (x.waited_tuning k)
  obtain ⟨hlink, -⟩ := ((s.serve k).chooseItem_reach k).1.outside
  change ((s.serve k).chooseItem k).1.station k = some z at hz
  simp only [State.startSlot, hz, Option.map_some, Option.getD_some, haddress, htuning, hlink, replyTimeoutOf]
  rfl

/-- The poll waits as a slot begins (R164). -/
theorem State.pollWait_startSlot {s : State} (hrise : TablesRise s) (k : Nat) {y : Station} (hy : y ∈ s.stations) :
    ((s.startSlot k).station y.num).map (fun z => z.link.pollWait) = some
      (if y.link.state = .out then y.link.pollWait else if y.num = k then 0 else min (y.link.pollWait + 1) 255) := by
  have hsite := State.site_startSlot hrise k y.num
  rw [hrise.station_of_mem hy, Option.map_some] at hsite
  obtain ⟨z, hz, hzy⟩ := Option.map_eq_some_iff.1 hsite
  rw [hz, Option.map_some, Station.link_of_site hzy, Station.waited_pollWait]

/-- A slot that begins moves no record, and lets a detector join its re-arm set only by a STAGED record's change. -/
theorem State.startSlot_rearms {s : State} (hrise : TablesRise s) (k : Nat) :
    RecordsKeepPlace s (s.startSlot k) ∧
      OnlyRearmed (fun u => ∃ p ∈ s.pigs, p.tag = u ∧ p.state = .staged) s (s.startSlot k) := by
  have hrearms := ((s.serve k).chooseItem_reach k).2 hrise.detectors
  refine ⟨⟨hrearms.places.train, hrearms.places.records⟩, hrearms.detectors.mono fun u hu => ?_⟩
  obtain ⟨p, hp, hstaged⟩ := hu
  exact ⟨p, State.pig_mem hp, State.pig_tag hp, hstaged⟩

/-- With the queue empty the poll carries the lowest-slot member of the re-arm set, or nothing (R155). -/
theorem State.startSlot_of_empty {s : State} (hrise : TablesRise s) {k : Nat} {x : Station} (hx : s.station k = some x)
    (hq : x.queue = []) :
    ((s.serve k).chooseItem k).2 = ((s.rearmHead k).map fun d => Carried.rearm d.num).getD .nothing ∧
      (s.startSlot k).link.txFrame = withCrc (BitVec.ofNat 8 x.address ::
        ((s.rearmHead k).map fun d => [3, BitVec.ofNat 8 d.slot]).getD [0, 0]) ∧
      (s.startSlot k).valves = s.valves := by
  have hitem := State.chooseItem_of_empty (State.served_of_some hx) ((x.waited_queue k).trans hq)
  have hhead : (s.serve k).rearmHead k = s.rearmHead k := State.rearmHead_congr rfl k
  rw [hhead] at hitem
  rw [State.link_startSlot hrise hx, hitem]
  refine ⟨rfl, ?_, congrArg (fun r => r.1.valves) hitem⟩
  cases hd : s.rearmHead k with
  | none => rfl
  | some d =>
    have hfind : (s.serve k).detector d.num = some d := hrise.detector_of_mem (State.rearmHead_mem hd)
    simp only [Option.map_some, Option.getD_some, State.pollBytes_rearm hfind]

/-- A head that passes its test is carried and stays in the queue (R110). -/
theorem State.startSlot_of_pass {s : State} (hrise : TablesRise s) {k v : Nat} {x : Station} {y : Valve} {c : Command}
    (hx : s.station k = some x) (hq : x.queue.head? = some v) (hy : s.valve v = some y) (hc : y.command = some c)
    (htest : s.sendTest y c.target = none) :
    ((s.serve k).chooseItem k).2 = .valve v ∧
      ((s.startSlot k).valve v).bind Valve.command = some { c with carried := true } ∧
      (s.startSlot k).link.txFrame = withCrc [BitVec.ofNat 8 x.address, if c.target = .toOpen then 1 else 2,
        BitVec.ofNat 8 y.role.ctorIdx] ∧
      ((s.startSlot k).station k).map Station.queue = some x.queue := by
  have hserved := State.served_of_some hx
  have hitem := State.chooseItem_of_pass (s := s.serve k) hserved (by rwa [Station.waited_queue]) hy hc
    (by rwa [State.sendTest_serve])
  have hvalve : ((s.serve k).chooseItem k).1.valve v = some { y with command := some c.nowCarried } := by
    rw [hitem]
    refine ((s.serve k).valve_modValve v v (fun y => { y with command := some c.nowCarried }) fun _ => rfl).trans ?_
    rw [show (s.serve k).valve v = some y from hy, Option.map_some, if_pos (State.valve_num hy)]
  refine ⟨by rw [hitem], congrArg (Option.bind · Valve.command) hvalve, ?_, ?_⟩
  · rw [State.link_startSlot hrise hx, show ((s.serve k).chooseItem k).2 = .valve v by rw [hitem]]
    simp only [State.pollBytes_valve hvalve rfl]
    rfl
  · have hstation : (s.startSlot k).station k = some (x.waited k) :=
      (congrArg (fun r => r.1.station k) hitem).trans hserved
    rw [hstation, Option.map_some, Station.waited_queue]

/-- The heads that fail end, and the poll carries the next head, or a re-arm, or nothing. -/
theorem State.startSlot_of_failing {s : State} {k : Nat} {x : Station} {heads rest : List Nat}
    (hx : s.station k = some x) (hq : x.queue = heads ++ rest) (hlen : heads.length < 32)
    (hfails : ∀ v ∈ heads, ∃ o, HeadFails s k v o) (hnext : ∀ w, rest.head? = some w → HeadPasses s w) :
    HeadsTested s k x.queue heads rest.head? (s.startSlot k) ∧
      ((s.serve k).chooseItem k).2 =
        match rest.head?, s.rearmHead k with
        | some w, _ => .valve w
        | none, some d => .rearm d.num
        | none, none => .nothing := by
  obtain ⟨hcarried, htested⟩ := State.testHeads_of_failing (s := s.serve k) (State.served_of_some hx)
    ((x.waited_queue k).trans hq) hlen (fun v hv => (hfails v hv).imp fun _ => headFails_serve.2)
    fun w hw => headPasses_serve.2 (hnext w hw)
  rw [Station.waited_queue] at htested
  constructor
  · rw [← State.chooseItem_fst] at htested
    exact ⟨htested.detectors, htested.queue, fun v hv o ho => htested.ended v hv o (headFails_serve.2 ho), htested.others⟩
  · rw [State.chooseItem_snd, hcarried, State.rearmHead_congr htested.detectors]
    rfl

/-! ### POLL_SLOT_START -/

theorem exec_pollSlotStart : ∀ s : State, exec .pollSlotStart s = .next s.pollSlot := by intros; rfl

theorem State.pollSlot_of_chosen {s : State} {k : Nat} (hready : s.lineState = .ready) (hslot : s.link.slot = none)
    (hchosen : s.chosen = some k) : s.pollSlot = s.startSlot k := by
  simp only [State.pollSlot, hready, hslot, hchosen, and_self, if_true]

/-- No slot begins before the line is READY, with a slot in progress, or with every station OUT. -/
theorem State.pollSlot_eq_self {s : State}
    (h : s.lineState = .unconfigured ∨ s.link.slot ≠ none ∨ ∀ x ∈ s.stations, x.link.state = .out) : s.pollSlot = s := by
  unfold State.pollSlot
  obtain hstate | hslot | hout := h
  · simp [hstate]
  · simp [hslot]
  · simp [State.chosen_eq_none hout]

/-- The send-time test of a valve of a station, in the words of R110. -/
theorem State.sendTest_eq {s : State} {x : Station} (hx : s.station x.num = some x) {y : Valve} (hy : y.station = x.num)
    (t : Target) : s.sendTest y t =
      if (y.debounced = .opened ∧ t = .toOpen) ∨ (y.debounced = .closed ∧ t = .toClose) then some .already
      else if t = .toClose ∧ y.holders ≠ [] then some .held
      else if t = .toClose ∧ (y.permit = false ∨ x.link.remote = false) then some .inhibited
      else none := by
  simp [State.sendTest, Debounced.at_eq, Valve.held, State.closeInhibited, s.remoteShown_eq, hy, hx]

/-- Settles O47: the chosen station is the arbiter's; the poll waits, the slot and the tests of the heads are said by their
own lemmas; what a launch's end does besides is the engine's. -/
theorem pollSlotGoesToTheChosenStation : Obligations.PollSlotGoesToTheChosenStation := by
  unfold Obligations.PollSlotGoesToTheChosenStation
  intro s
  refine ⟨fun h => by rw [exec_pollSlotStart, State.pollSlot_eq_self h], fun hrise hready hslot x hchosen => ?_⟩
  refine ⟨s.startSlot x.num, by
    rw [exec_pollSlotStart, State.pollSlot_of_chosen hready hslot (hchosen.chosen_eq hrise)], ?_⟩
  dsimp only
  have hx : s.station x.num = some x := hrise.station_of_mem (List.mem_filter.1 hchosen.1).1
  have hlink := State.link_startSlot hrise hx
  obtain ⟨-, hport, hclock, hmeters⟩ := ((s.serve x.num).chooseItem_reach x.num).1.outside
  obtain ⟨hplaces, hrearmed⟩ := State.startSlot_rearms hrise x.num
  refine ⟨by rw [hlink], fun y hy => State.pollWait_startSlot hrise x.num hy,
    ⟨_, by rw [hlink], fun hempty => ?_, fun v rest y c hq hy hc htest => ?_, fun heads rest hq hlen hheads hnext => ?_⟩,
    hplaces.train, hplaces.pigPos, hport, hclock, hmeters, hrearmed, by rw [hlink]⟩
  · obtain ⟨hitem, hframe, hvalves⟩ := State.startSlot_of_empty hrise hx hempty
    rw [hitem, hframe]
    cases s.rearmHead x.num <;> exact ⟨rfl, rfl, hvalves⟩
  · exact State.startSlot_of_pass hrise hx (by rw [hq]; rfl) hy hc htest
  · have hfails : ∀ v ∈ heads, ∃ o, HeadFails s x.num v o := by
      intro v hv
      obtain ⟨o, y, c, hy, hstation, hc, hhost, htest⟩ := hheads v hv
      exact ⟨o, y, c, hy, hstation, hc, hhost, (State.sendTest_eq hx hstation _).trans htest⟩
    have hpasses : ∀ w, rest.head? = some w → HeadPasses s w := by
      intro w hw
      obtain ⟨y, c, hy, hstation, hc, htest⟩ := hnext w hw
      exact ⟨y, c, hy, hc, (State.sendTest_eq hx hstation _).trans htest⟩
    obtain ⟨htested, hitem⟩ := State.startSlot_of_failing hx hq hlen hfails hpasses
    refine ⟨fun v hv o ⟨y, c, hy, hstation, hc, hhost, htest⟩ =>
      htested.ended v hv o ⟨y, c, hy, hstation, hc, hhost, (State.sendTest_eq hx hstation _).trans htest⟩,
      fun q hqueue v hv => ?_, ?_⟩
    · obtain rfl : x.queue.filter (· ∉ heads) = q := Option.some.inj (htested.queue.symm.trans hqueue)
      simp [hv]
    · refine hitem.trans ?_
      cases rest.head? with
      | some w => rfl
      | none => cases s.rearmHead x.num <;> rfl

end Sys2Proof.Machine
end

section
/-! SUPPORT. The Attention Unit (10.3, 10.4): its cause sets bit by bit, ACK_ALERT (R187), SET_ATTENTION_MASKS and the levels
of the two pins (R185). -/

namespace Sys2Proof.Machine

/-! ### Cause sets by their bits -/

/-- A set of causes drives its pin exactly where a cause of it is set whose own mask is clear (R185). -/
theorem unmasked_ne_zero_iff {w : Nat} (causes masks : BitVec w) :
    causes &&& ~~~masks ≠ 0 ↔ ∃ i, i < w ∧ causes.getLsbD i = true ∧ masks.getLsbD i = false := by
  rw [ne_eq, BitVec.eq_of_getLsbD_eq_iff]
  push Not
  refine exists_congr fun i => and_congr_right fun hi => ?_
  simp only [BitVec.getLsbD_and, BitVec.getLsbD_not, BitVec.ofNat_eq_ofNat, BitVec.getLsbD_zero, hi, decide_true,
    Bool.true_and, Bool.not_eq_false, Bool.and_eq_true, Bool.not_eq_true']

theorem State.recordChanged_iff (s : State) : s.recordChanged = true ↔ ∃ p ∈ s.pigs, p.flags.changed = true :=
  List.any_eq_true

theorem State.stationChanged_iff (s : State) : s.stationChanged = true ↔ ∃ x ∈ s.stations, x.changed = true :=
  List.any_eq_true

/-- The note causes are the two sticky ones, and above them the two that follow the changed flags (R182, R190). -/
theorem State.noteCauses_eq_cons (s : State) :
    s.noteCauses = .cons s.stationChanged (.cons s.recordChanged s.attention.notes) := by
  unfold State.noteCauses
  generalize s.attention.notes = notes, s.recordChanged = record, s.stationChanged = station
  revert notes record station
  decide

theorem State.noteCauses_toNat (s : State) :
    s.noteCauses.toNat = s.attention.notes.toNat +
      ((if s.recordChanged = true then 4 else 0) + (if s.stationChanged = true then 8 else 0)) := by
  rw [s.noteCauses_eq_cons, BitVec.toNat_cons', BitVec.toNat_cons']
  simp only [Bool.toNat, Bool.cond_eq_ite, Nat.shiftLeft_eq]
  split_ifs <;> omega

/-! ### The pins -/

theorem State.alertLow_iff (s : State) :
    s.alertLow = true ↔ s.attention.globalAlertMask = false ∧
      ∃ i, i < 9 ∧ s.attention.alerts.getLsbD i = true ∧ s.attention.alertMasks.getLsbD i = false := by
  simp only [State.alertLow, Bool.and_eq_true, Bool.not_eq_true', decide_eq_true_eq, unmasked_ne_zero_iff]

/-- Of the four bits of noteCauses, the lower two are the sticky notes, and each upper one is a derived cause. -/
theorem State.noteLow_iff (s : State) :
    s.noteLow = true ↔ s.attention.globalNoteMask = false ∧
      ((∃ i, i < 2 ∧ s.attention.notes.getLsbD i = true ∧ s.attention.noteMasks.getLsbD i = false) ∨
        (s.recordChanged = true ∧ s.attention.noteMasks.getLsbD 2 = false) ∨
        (s.stationChanged = true ∧ s.attention.noteMasks.getLsbD 3 = false)) := by
  simp only [State.noteLow, Bool.and_eq_true, Bool.not_eq_true', decide_eq_true_eq, unmasked_ne_zero_iff,
    s.noteCauses_eq_cons, BitVec.getLsbD_cons, Nat.exists_lt_succ_right]
  simp [or_assoc]

/-! ### ACK_ALERT -/

theorem exec_ackAlert : ∀ (f : AckFrame) (s : State), exec (.ackAlert f) s = execAckAlert f s := by
  intros; rfl

/-- The check of ACK_ALERT (R187) as the claim says it. -/
theorem badAck_iff (f : AckFrame) :
    badAck f = true ↔ 512 ≤ f.alerts.toNat ∨ 4 ≤ f.notes.toNat ∨ f.reserved ≠ 0 := by
  simp only [badAck, Bool.or_eq_true, decide_eq_true_eq, nonzero_iff, or_assoc]

/-- The data of ACK_ALERT: the alert causes over two bytes, and the note causes in one (R190). -/
theorem State.causesData_eq (s : State) :
    s.causesData = [BitVec.ofNat 8 (s.attention.alerts.toNat / 256), BitVec.ofNat 8 s.attention.alerts.toNat,
      BitVec.ofNat 8 s.noteCauses.toNat] := by
  simp [State.causesData, Fields.data, Fields.all, Fields.one, beBytes, presenceBytes, List.range_succ]

/-! ### SET_ATTENTION_MASKS -/

theorem exec_setAttentionMasks : ∀ (f : MasksFrame) (s : State),
    exec (.setAttentionMasks f) s = execSetAttentionMasks f s := by
  intros; rfl

/-- The check of SET_ATTENTION_MASKS (R185) as the claim says it. -/
theorem badMasks_iff (f : MasksFrame) :
    badMasks f = true ↔ 512 ≤ f.alerts.toNat ∨ 16 ≤ f.notes.toNat ∨ 4 ≤ f.globals.toNat ∨ f.reserved ≠ 0 := by
  simp only [badMasks, Bool.or_eq_true, decide_eq_true_eq, nonzero_iff, or_assoc]

/-- Settles O46: each request has its one check and stores what its frame gives; the data of the acknowledgement and the
levels of the pins are read off the causes bit by bit. -/
theorem attentionFollowsCausesAndMasks : Obligations.AttentionFollowsCausesAndMasks := by
  unfold Obligations.AttentionFollowsCausesAndMasks
  intro s f g alerts notes changed
  refine ⟨?_, ?_, s.alertLow_iff, ?_⟩
  · rw [← badAck_iff]
    refine checked_of_ask _ s [_] _ (exec_ackAlert f s) _ fun hexec => ?_
    have hdata : (s.acknowledge f).causesData =
        [BitVec.ofNat 8 (alerts.toNat / 256), BitVec.ofNat 8 alerts.toNat, BitVec.ofNat 8 (notes.toNat + changed)] := by
      simp only [changed, ← s.recordChanged_iff, ← s.stationChanged_iff]
      rw [State.causesData_eq, State.noteCauses_toNat]
      rfl
    rw [← hdata]
    exact answers_of_respond _ s _ _ _ _ hexec rfl rfl
  · rw [← badMasks_iff]
    exact checked_of_ask _ s [_] _ (exec_setAttentionMasks g s) _ fun hexec =>
      answers_of_respond _ s _ _ _ _ hexec rfl rfl
  · rw [← s.recordChanged_iff, ← s.stationChanged_iff]
    exact s.noteLow_iff

end Sys2Proof.Machine
end

section
/-! SUPPORT. The part's work as a run of elementary changes: what every change of the running part, of a record, a meter,
a detector or a slot, comes down to, with what each change keeps. An invariant kept by each change is kept by the run; the
definitions of the line, and the tags of the live records, stand through every run. -/

namespace Sys2Proof.Machine

/-! ### What a change of an item keeps -/

/-- The record a slot's active sequence is bound to (R124, R126). -/
def Slot.seat (x : Slot) : Option Nat := if x.state = .idle then none else x.bound

theorem State.boundAt_eq (s : State) (k t : Nat) : s.boundAt k t = decide ((s.slotOf k).seat = some t) := by
  simp only [State.boundAt, State.seqActive, Slot.seat]
  split <;> simp_all

/-- A station's definition (1.2, R9): all of it but what runs. -/
def Station.definition (x : Station) : Station :=
  { x with link := LinkRecord.hostOut, queue := [], slot := Slot.idle, trapFault := false, fault := none, changed := false }

/-- A detector is in its re-arm set only while it is TRIPPED (R95). -/
def Detector.rearmSound (d : Detector) : Prop := d.inRearmSet = true → d.state = .tripped

/-- A meter has provisional volume only while it is EXTRAPOLATING or STALE (R49). -/
def Meter.provisionalSound (m : Meter) : Prop := m.provisional ≠ 0 → m.state = .extrapolating ∨ m.state = .stale

/-- A change of a valve's record leaves the phase of its command, its debounced state, its hold and its strike. -/
structure Valve.Keeps (v w : Valve) : Prop where
  phase : w.command.map Command.phase = v.command.map Command.phase
  debounced : w.debounced = v.debounced
  holders : w.holders = v.holders
  struck : w.struck = v.struck

/-- A record in a launcher, in neither the Train List nor the Lost Set (R21). -/
def Pig.inLauncher (p : Pig) : Bool := decide (p.state = .staged) || decide (p.state = .launchFailed)

/-- A change of a record that moves no hold interval and leaves it in the Train List, the Lost Set or neither (R21, R22). -/
structure Pig.Steady (p q : Pig) : Prop where
  position : q.position = p.position
  fixPosition : q.fixPosition = p.fixPosition
  state : q.state = p.state ∨ (p.inLauncher = true ∧ q.inLauncher = true) ∨ (p.tracked = true ∧ q.tracked = true)

/-- A position between those of a record's neighbours in the Train List, and on the line (R23). -/
structure State.FitsAt (s : State) (t x : Nat) : Prop where
  behind : ∀ b, behindOf s.train t = some b → s.pigPos b ≤ x
  ahead : ∀ a, aheadOf s.train t = some a → x ≤ s.pigPos a
  onLine : x ≤ s.lineEnd

/-- A change of the records of a tag keeps the tag and the stored ranges. -/
structure KeepsRange (s : State) (t : Nat) (f : Pig → Pig) : Prop where
  tag : ∀ p, p.tag = t → (f p).tag = t
  bounds : (∀ p ∈ s.pigs, p.inBounds) → ∀ p, p.inBounds → (f p).inBounds

/-- An idle slot is of no kind (R125). -/
def Slot.idleIsBlank (x : Slot) : Prop := x.state = .idle → x.kind = none

/-- An elementary change of the running part. A commit leaves of a detector's or a valve's record its definition alone, and so does a rebasing of a
meter's: that two records are equal after it says that their definitions are. -/
inductive Change : State → State → Prop
  /-- A valve's hold is re-evaluated (R119, R122). -/
  | reevalValve (s : State) (v : Nat) : Change s (s.reevalValve v)
  /-- Something of a station changes, but for its queue and the record its sequence is bound to. -/
  | station (s : State) (k : Nat) (f : Station → Station) (hdef : ∀ x, (f x).definition = x.definition)
      (hkept : ∀ x, s.station k = some x →
        (f x).queue = x.queue ∧ (f x).slot.seat = x.slot.seat ∧ (x.slot.idleIsBlank → (f x).slot.idleIsBlank)) :
      Change s (s.modStation k f)
  /-- A sequence starts or ends, and the holds of its station's valves are re-evaluated (R120, R121). -/
  | reseat (s : State) (k : Nat) (f : Slot → Slot) (hblank : ∀ x, (f x).idleIsBlank) :
      Change s ((s.updSlot k f).reevalStation k)
  /-- The arbiter gives a slot to a station (R164). -/
  | serve (s : State) (k : Nat) : Change s (s.serve k)
  | link (s : State) (l : Link) : Change s { s with link := l }
  | detector (s : State) (n : Nat) (f : Detector → Detector) (hdef : ∀ d, (f d).committed = d.committed)
      (hrearm : TablesRise s → ∀ d, s.detector n = some d → d.rearmSound → (f d).rearmSound) :
      Change s (s.modDetector n f)
  | valve (s : State) (n : Nat) (f : Valve → Valve) (hdef : ∀ v, (f v).committed = v.committed)
      (hkept : ∀ v, s.valve n = some v → v.Keeps (f v)) : Change s (s.modValve n f)
  /-- A command enters its station's queue (R109). -/
  | enqueue (s : State) (v : Valve) (t : Target) (o : Origin) (hv : v ∈ s.valves) :
      Change s (s.enqueue v t o)
  /-- A command ends (R116). -/
  | endCommand (s : State) (v : Valve) (o : ValveOutcome) (hv : v ∈ s.valves) :
      Change s (s.endCommand v o)
  /-- A command is accepted, and leaves the queue (R111). -/
  | accept (s : State) (v : Valve) (c : Command) (hv : v ∈ s.valves) :
      Change s ((s.modValve v.num fun y => { y with command := some (c.accepted s.clock) }).modStation v.station
        fun k => { k with queue := k.queue.filter (· ≠ v.num) })
  | meter (s : State) (n : Nat) (f : Meter → Meter) (hdef : ∀ m, (f m).rebased = m.rebased)
      (hsound : TablesRise s → ∀ m, s.meter n = some m → m.provisionalSound → (f m).provisionalSound) :
      Change s (s.modMeter n f)
  /-- Something of a record changes that moves no hold. -/
  | record (s : State) (t : Nat) (f : Pig → Pig) (hrange : KeepsRange s t f)
      (hsteady : TablesRise s → TrainInOrder s → ∀ p, s.pig t = some p → p.Steady (f p)) : Change s (s.modPig t f)
  /-- A record of the train is placed, and the holds are re-evaluated (R29). -/
  | moved (s : State) (t : Nat) (f : Pig → Pig) (hrange : KeepsRange s t f)
      (ht : TablesRise s → TrainInOrder s → t ∈ s.train)
      (htracked : ∀ p, s.pig t = some p → p.tracked = true → (f p).tracked = true)
      (hfits : ∀ p, s.pig t = some p → TablesRise s → TrainInOrder s →
        s.FitsAt t (f p).position ∧ (NothingBelowStart s → s.lineStart ≤ (f p).position)) :
      Change s (s.modPig t f).reevalAll
  /-- A record joins the train (R24), and the holds are re-evaluated (R29). -/
  | joined (s : State) (t x : Nat) (f : Pig → Pig) (p : Pig) (hrange : KeepsRange s t f) (hp : p ∈ s.pigs)
      (htag : p.tag = t) (hout : p.tracked = false) (hin : (f p).tracked = true)
      (hfits : TablesRise s → TrainInOrder s →
        (s.joinTrain t x).FitsAt t (f p).position ∧ (NothingBelowStart s → s.lineStart ≤ (f p).position)) :
      Change s ((s.joinTrain t x).modPig t f).reevalAll
  /-- A record leaves the train (R25), and the holds are re-evaluated (R29). -/
  | left (s : State) (t : Nat) (f : Pig → Pig) (hrange : KeepsRange s t f)
      (hout : ∀ p, s.pig t = some p → (f p).tracked = false) : Change s ((s.leaveTrain t).modPig t f).reevalAll
  | raise (s : State) (c : AlertCause) : Change s (s.raise c)
  | note (s : State) (c : NoteCause) : Change s (s.note c)
  | due (s : State) (l : List Expiry) : Change s { s with due := l }
  | choices (s : State) (n : Nat) : Change s { s with choices := n }

/-- t is reached from s by elementary changes. A change of a valve's debounced state is tested for a strike (R106) after
what the change itself has led to, which is a run of its own. -/
inductive Runs : State → State → Prop
  | refl (s : State) : Runs s s
  | change {s t : State} (h : Change s t) : Runs s t
  | trans {s t u : State} (h : Runs s t) (g : Runs t u) : Runs s u
  | debounce {s t : State} (n : Nat) (v : Valve) (c : PositionCode) (hv : s.valve n = some v)
      (h : Runs (s.updValve n fun y => y.afterCode c) t) : Runs s (t.strikeTest n)

/-! ### What stands through every run -/

/-- The line's definitions, the live tags and what no change of the running part touches are the same. -/
structure SameLine (s t : State) : Prop where
  stations : t.stations.map Station.definition = s.stations.map Station.definition
  detectors : t.detectors.map Detector.committed = s.detectors.map Detector.committed
  valves : t.valves.map Valve.committed = s.valves.map Valve.committed
  meters : t.meters.map Meter.rebased = s.meters.map Meter.rebased
  tags : t.pigs.map Pig.tag = s.pigs.map Pig.tag
  rest : t = { s with
    stations := t.stations, detectors := t.detectors, valves := t.valves, meters := t.meters, pigs := t.pigs
    train := t.train, revision := t.revision, link := t.link, attention := t.attention, due := t.due
    choices := t.choices }

/-- A change of the items of one number that leaves what g reads of each leaves what g reads of the table. -/
theorem map_mod_of_same {α β : Type} (key : α → Nat) (k : Nat) (f : α → α) (g : α → β)
    (hf : ∀ x, key x = k → g (f x) = g x) (l : List α) :
    (l.map fun x => if key x = k then f x else x).map g = l.map g := by
  rw [List.map_map]
  refine List.map_congr_left fun x _ => ?_
  simp only [Function.comp_apply]
  split
  · exact hf x ‹_›
  · rfl

/-- Two tables in which g reads the same, item by item, and g tells the number: the lookups of a number agree through g. -/
theorem find?_map_congr {α β : Type} (key : α → Nat) (g : α → β) (hkey : ∀ a b, g a = g b → key a = key b) (k : Nat) :
    ∀ l m : List α, l.map g = m.map g →
      (l.find? fun x => key x == k).map g = (m.find? fun x => key x == k).map g
  | [], [], _ => rfl
  | a :: l, b :: m, h => by
    obtain ⟨hab, hlm⟩ := List.cons.inj h
    simp only [List.find?_cons, hkey a b hab]
    split
    · simp only [Option.map_some, hab]
    · exact find?_map_congr key g hkey k l m hlm

theorem Station.num_of_definition {x y : Station} (h : x.definition = y.definition) : x.num = y.num :=
  (congrArg Station.num h : x.definition.num = y.definition.num)

theorem Station.position_of_definition {x y : Station} (h : x.definition = y.definition) : x.position = y.position :=
  (congrArg Station.position h : x.definition.position = y.definition.position)

theorem Detector.num_of_committed {x y : Detector} (h : x.committed = y.committed) : x.num = y.num :=
  (congrArg Detector.num h : x.committed.num = y.committed.num)

theorem Valve.num_of_committed {x y : Valve} (h : x.committed = y.committed) : x.num = y.num :=
  (congrArg Valve.num h : x.committed.num = y.committed.num)

theorem Meter.num_of_rebased {x y : Meter} (h : x.rebased = y.rebased) : x.num = y.num :=
  (congrArg Meter.num h : x.rebased.num = y.rebased.num)

/-- A valve's record with its counted records and its strike as the Hold Map stores them (R119, R122). -/
def Valve.holding (v : Valve) (holders : List Nat) (x : Valve) : Valve :=
  { x with holders := holders, struck := decide (v.role = .mainline) && decide (holders ≠ []) && v.debounced.notOpen }

/-- Storing a hold stores the valve's records and its strike; with a strike, records are struck and the alert is raised. -/
theorem State.applyHold_cases (s : State) (v : Valve) (holders : List Nat) :
    s.applyHold v holders = s.updValve v.num (v.holding holders) ∨
      ∃ tags, s.applyHold v holders = ((s.updValve v.num (v.holding holders)).strikeRecords tags).raise .valveStrike := by
  unfold State.applyHold
  generalize (if v.struck = true then holders.filter fun t => decide (t ∉ v.holders) else holders) = tags
  simp only
  split
  · exact .inr ⟨tags, rfl⟩
  · exact .inl rfl

namespace SameLine

theorem refl (s : State) : SameLine s s := ⟨rfl, rfl, rfl, rfl, rfl, rfl⟩

theorem trans {s t u : State} (h : SameLine s t) (g : SameLine t u) : SameLine s u where
  stations := g.stations.trans h.stations
  detectors := g.detectors.trans h.detectors
  valves := g.valves.trans h.valves
  meters := g.meters.trans h.meters
  tags := g.tags.trans h.tags
  rest := by rw [g.rest, h.rest]

theorem station {s t : State} (h : SameLine s t) (k : Nat) :
    (t.station k).map Station.definition = (s.station k).map Station.definition :=
  find?_map_congr Station.num _ (fun _ _ => Station.num_of_definition) k _ _ h.stations

theorem detector {s t : State} (h : SameLine s t) (n : Nat) :
    (t.detector n).map Detector.committed = (s.detector n).map Detector.committed :=
  find?_map_congr Detector.num _ (fun _ _ => Detector.num_of_committed) n _ _ h.detectors

theorem valve {s t : State} (h : SameLine s t) (n : Nat) :
    (t.valve n).map Valve.committed = (s.valve n).map Valve.committed :=
  find?_map_congr Valve.num _ (fun _ _ => Valve.num_of_committed) n _ _ h.valves

theorem meter {s t : State} (h : SameLine s t) (n : Nat) :
    (t.meter n).map Meter.rebased = (s.meter n).map Meter.rebased :=
  find?_map_congr Meter.num _ (fun _ _ => Meter.num_of_rebased) n _ _ h.meters

theorem stationPos {s t : State} (h : SameLine s t) (k : Nat) : t.stationPos k = s.stationPos k := by
  have := congrArg (Option.map Station.position) (h.station k)
  simp only [Option.map_map] at this
  exact congrArg (Option.getD · 0) this

theorem lineStart {s t : State} (h : SameLine s t) : t.lineStart = s.lineStart := by
  have := congrArg (fun l => (l.head?.map Station.position).getD 0) h.stations
  simp only [List.head?_map, Option.map_map] at this
  exact this

theorem lineEnd {s t : State} (h : SameLine s t) : t.lineEnd = s.lineEnd := by
  have := congrArg (fun l => (l.getLast?.map Station.position).getD 0) h.stations
  simp only [List.getLast?_map, Option.map_map] at this
  exact this

/-- The tables rise in one state where they do in the other. -/
theorem tablesRise {s t : State} (h : SameLine s t) (hrise : TablesRise s) : TablesRise t where
  stations := by
    have := congrArg (List.map Station.num) h.stations
    simp only [List.map_map] at this
    exact this ▸ hrise.stations
  detectors := by
    have := congrArg (List.map Detector.num) h.detectors
    simp only [List.map_map] at this
    exact this ▸ hrise.detectors
  valves := by
    have := congrArg (List.map Valve.num) h.valves
    simp only [List.map_map] at this
    exact this ▸ hrise.valves
  meters := by
    have := congrArg (List.map Meter.num) h.meters
    simp only [List.map_map] at this
    exact this ▸ hrise.meters
  pigs := h.tags ▸ hrise.pigs

theorem symm_rest {s t : State} (h : SameLine s t) : s = { t with
    stations := s.stations, detectors := s.detectors, valves := s.valves, meters := s.meters, pigs := s.pigs
    train := s.train, revision := s.revision, link := s.link, attention := s.attention, due := s.due
    choices := s.choices } := by rw [h.rest]

theorem symm {s t : State} (h : SameLine s t) : SameLine t s :=
  ⟨h.stations.symm, h.detectors.symm, h.valves.symm, h.meters.symm, h.tags.symm, h.symm_rest⟩

/-! The elementary updates. -/

theorem modStation (s : State) (k : Nat) (f : Station → Station) (hf : ∀ x, (f x).definition = x.definition) :
    SameLine s (s.modStation k f) := ⟨map_mod_of_same _ _ _ _ (fun x _ => hf x) _, rfl, rfl, rfl, rfl, rfl⟩

theorem modDetector (s : State) (n : Nat) (f : Detector → Detector) (hf : ∀ d, (f d).committed = d.committed) :
    SameLine s (s.modDetector n f) := ⟨rfl, map_mod_of_same _ _ _ _ (fun x _ => hf x) _, rfl, rfl, rfl, rfl⟩

theorem modValve (s : State) (n : Nat) (f : Valve → Valve) (hf : ∀ v, (f v).committed = v.committed) :
    SameLine s (s.modValve n f) := ⟨rfl, rfl, map_mod_of_same _ _ _ _ (fun x _ => hf x) _, rfl, rfl, rfl⟩

theorem modMeter (s : State) (n : Nat) (f : Meter → Meter) (hf : ∀ m, (f m).rebased = m.rebased) :
    SameLine s (s.modMeter n f) := ⟨rfl, rfl, rfl, map_mod_of_same _ _ _ _ (fun x _ => hf x) _, rfl, rfl⟩

theorem modPig (s : State) (t : Nat) (f : Pig → Pig) (hf : ∀ p, p.tag = t → (f p).tag = t) :
    SameLine s (s.modPig t f) :=
  ⟨rfl, rfl, rfl, rfl, map_mod_of_same _ _ _ _ (fun p hp => (hf p hp).trans hp.symm) _, rfl⟩

theorem joinTrain (s : State) (t x : Nat) : SameLine s (s.joinTrain t x) := ⟨rfl, rfl, rfl, rfl, rfl, rfl⟩

theorem leaveTrain (s : State) (t : Nat) : SameLine s (s.leaveTrain t) := by
  unfold State.leaveTrain
  split <;> exact ⟨rfl, rfl, rfl, rfl, rfl, rfl⟩

theorem touchIf (s : State) (b : Bool) (k : Nat) : SameLine s (s.touchIf b k) := by
  rw [State.touchIf_eq]
  exact modStation s k _ fun _ => rfl

theorem updSlot (s : State) (k : Nat) (f : Slot → Slot) : SameLine s (s.updSlot k f) := by
  unfold State.updSlot
  split
  · exact refl s
  · exact (modStation s k (fun y => { y with slot := f y.slot }) fun _ => rfl).trans (touchIf ..)

theorem updValve (s : State) (n : Nat) (f : Valve → Valve) (hf : ∀ v, (f v).committed = v.committed) :
    SameLine s (s.updValve n f) := by
  unfold State.updValve
  split
  · exact refl s
  · exact (modValve s n f hf).trans (touchIf ..)

theorem foldl {α : Type} (f : State → α → State) (hf : ∀ s a, SameLine s (f s a)) (l : List α) (s : State) :
    SameLine s (l.foldl f s) := by
  induction l generalizing s with
  | nil => exact refl s
  | cons a l ih => exact (hf s a).trans (ih _)

theorem raise (s : State) (c : AlertCause) : SameLine s (s.raise c) := ⟨rfl, rfl, rfl, rfl, rfl, rfl⟩

theorem strikeRecords (s : State) (l : List Nat) : SameLine s (s.strikeRecords l) := by
  refine foldl _ (fun s t => modPig s t _ ?_) l s
  exact fun _ h => h

theorem applyHold (s : State) (v : Valve) (l : List Nat) : SameLine s (s.applyHold v l) := by
  rcases s.applyHold_cases v l with h | ⟨tags, h⟩ <;> rw [h]
  · exact updValve s v.num _ fun _ => rfl
  · exact ((updValve s v.num (v.holding l) fun _ => rfl).trans (strikeRecords ..)).trans (raise ..)

theorem reevalValve (s : State) (v : Nat) : SameLine s (s.reevalValve v) := by
  unfold State.reevalValve
  split
  · exact refl s
  · split
    · exact applyHold ..
    · exact refl s

theorem strikeTest (s : State) (v : Nat) : SameLine s (s.strikeTest v) := by
  unfold State.strikeTest
  split
  · exact refl s
  · split
    · exact applyHold ..
    · exact refl s

theorem reevalAll (s : State) : SameLine s s.reevalAll := foldl _ reevalValve _ s

theorem reevalStation (s : State) (k : Nat) : SameLine s (s.reevalStation k) := foldl _ reevalValve _ s

theorem serve (s : State) (k : Nat) : SameLine s (s.serve k) := by
  refine ⟨?_, rfl, rfl, rfl, rfl, rfl⟩
  rw [State.serve, List.map_map]
  refine List.map_congr_left fun x _ => ?_
  simp only [Function.comp_apply, Station.waited]
  split <;> rfl

theorem of_change {s t : State} (h : Change s t) : SameLine s t := by
  cases h with
  | reevalValve v => exact reevalValve s v
  | station k f hdef hkept => exact modStation s k f hdef
  | reseat k f hblank => exact (updSlot s k f).trans (reevalStation ..)
  | serve k => exact serve s k
  | link l => exact ⟨rfl, rfl, rfl, rfl, rfl, rfl⟩
  | detector n f hdef hrearm => exact modDetector s n f hdef
  | valve n f hdef hkept => exact modValve s n f hdef
  | enqueue v t o hv =>
    refine (modValve s v.num _ ?_).trans (modStation _ v.station _ ?_)
    all_goals exact fun _ => rfl
  | endCommand v o hv =>
    refine (modValve s v.num _ ?_).trans (modStation _ v.station _ ?_)
    all_goals exact fun _ => rfl
  | accept v c hv =>
    refine (modValve s v.num _ ?_).trans (modStation _ v.station _ ?_)
    all_goals exact fun _ => rfl
  | meter n f hdef hsound => exact modMeter s n f hdef
  | record u f hrange hsteady => exact modPig s u f hrange.tag
  | moved u f hrange => exact (modPig s u f hrange.tag).trans (reevalAll _)
  | joined u x f p hrange => exact ((joinTrain s u x).trans (modPig _ u f hrange.tag)).trans (reevalAll _)
  | left u f hrange => exact ((leaveTrain s u).trans (modPig _ u f hrange.tag)).trans (reevalAll _)
  | raise c => exact raise s c
  | note c => exact ⟨rfl, rfl, rfl, rfl, rfl, rfl⟩
  | due l => exact ⟨rfl, rfl, rfl, rfl, rfl, rfl⟩
  | choices n => exact ⟨rfl, rfl, rfl, rfl, rfl, rfl⟩

/-- Every run leaves the definitions and the live tags. -/
theorem of_runs {s t : State} (h : Runs s t) : SameLine s t := by
  induction h with
  | refl s => exact refl s
  | change h => exact of_change h
  | trans _ _ ih ih' => exact ih.trans ih'
  | debounce n v c _ _ ih => exact ((updValve _ n (fun y => y.afterCode c) fun _ => rfl).trans ih).trans (strikeTest _ n)

end SameLine

end Sys2Proof.Machine
end

section
/-! SUPPORT. The slot of a station after a change, and neighbours in the Train List: what the walk through the part's
operations needs to know of the state it has reached. -/

namespace Sys2Proof.Machine

/-! ### Slots -/

theorem State.slotOf_of_some {s : State} {k : Nat} {x : Station} (hx : s.station k = some x) : s.slotOf k = x.slot := by
  simp only [State.slotOf, hx, Option.map_some, Option.getD_some]

/-- The station of an active slot is defined. -/
theorem State.station_of_active {s : State} {k : Nat} (h : (s.slotOf k).state ≠ .idle) :
    ∃ x, s.station k = some x ∧ s.slotOf k = x.slot := by
  cases hx : s.station k with
  | none => exact absurd (by simp only [State.slotOf, hx, Option.map_none, Option.getD_none]; rfl) h
  | some x => exact ⟨x, rfl, State.slotOf_of_some hx⟩

/-- What a change of a slot tells the host of, by its station's changed flag (R125). -/
def Slot.tells (x y : Slot) : Bool :=
  decide ((x.state, x.step, x.pausePending, x.abortPending) ≠ (y.state, y.step, y.pausePending, y.abortPending)) ||
    decide ((x.cause, x.lastOutcome, x.barred) ≠ (y.cause, y.lastOutcome, y.barred))

/-- A station with a changed slot. -/
def Station.withSlot (f : Slot → Slot) (b : Bool) (x : Station) : Station :=
  { x with slot := f x.slot, changed := x.changed || b }

theorem State.updSlot_of_some {s : State} {k : Nat} {x : Station} (f : Slot → Slot) (hx : s.station k = some x) :
    s.updSlot k f = s.modStation k (Station.withSlot f (x.slot.tells (f x.slot))) := by
  simp only [State.updSlot, hx, State.touchIf_eq, State.modStation, List.map_map, State.mk.injEq, and_true, true_and]
  refine List.map_congr_left fun y _ => ?_
  by_cases h : y.num = k <;> simp [h, Station.withSlot, Slot.tells]

theorem State.updSlot_of_none {s : State} {k : Nat} (f : Slot → Slot) (hx : s.station k = none) :
    s.updSlot k f = s := by simp only [State.updSlot, hx]

theorem State.station_modStation_self {s : State} {k : Nat} {x : Station} (f : Station → Station)
    (hf : ∀ x, (f x).num = x.num) (hx : s.station k = some x) : (s.modStation k f).station k = some (f x) := by
  rw [State.station_modStation s k k f hf, hx, Option.map_some, if_pos (State.station_num hx)]

theorem State.station_modStation_ne (s : State) {k j : Nat} (f : Station → Station) (hf : ∀ x, (f x).num = x.num)
    (hj : j ≠ k) : (s.modStation k f).station j = s.station j := by
  rw [State.station_modStation s k j f hf]
  cases hy : s.station j with
  | none => rfl
  | some y =>
    rw [Option.map_some, if_neg]
    rw [State.station_num hy]
    exact hj

theorem State.station_updSlot_self {s : State} {k : Nat} {x : Station} (f : Slot → Slot) (hx : s.station k = some x) :
    (s.updSlot k f).station k = some (x.withSlot f (x.slot.tells (f x.slot))) := by
  rw [State.updSlot_of_some f hx]
  exact State.station_modStation_self _ (fun _ => rfl) hx

theorem State.station_updSlot_ne (s : State) {k j : Nat} (f : Slot → Slot) (hj : j ≠ k) :
    (s.updSlot k f).station j = s.station j := by
  cases hx : s.station k with
  | none => rw [State.updSlot_of_none f hx]
  | some x =>
    rw [State.updSlot_of_some f hx]
    exact s.station_modStation_ne _ (fun _ => rfl) hj

theorem State.slotOf_updSlot_self {s : State} {k : Nat} {x : Station} (f : Slot → Slot) (hx : s.station k = some x) :
    (s.updSlot k f).slotOf k = f x.slot := State.slotOf_of_some (State.station_updSlot_self f hx)

theorem State.slotOf_updSlot_ne (s : State) {k j : Nat} (f : Slot → Slot) (hj : j ≠ k) :
    (s.updSlot k f).slotOf j = s.slotOf j := by simp only [State.slotOf, State.station_updSlot_ne s f hj]

/-- An active slot after a change of it. -/
theorem State.slotOf_updSlot_active {s : State} {k : Nat} (f : Slot → Slot) (h : (s.slotOf k).state ≠ .idle) :
    (s.updSlot k f).slotOf k = f (s.slotOf k) := by
  obtain ⟨x, hx, hslot⟩ := State.station_of_active h
  rw [State.slotOf_updSlot_self f hx, hslot]

/-- A change of the stations of a number that leaves their slots leaves every slot. -/
theorem State.slotOf_modStation (s : State) (k j : Nat) (f : Station → Station) (hnum : ∀ x, (f x).num = x.num)
    (hslot : ∀ x, (f x).slot = x.slot) : (s.modStation k f).slotOf j = s.slotOf j := by
  rw [State.slotOf, State.station_modStation s k j f hnum, State.slotOf]
  cases s.station j with
  | none => rfl
  | some x =>
    simp only [Option.map_some, Option.getD_some]
    split
    · exact hslot x
    · rfl

theorem State.slotOf_touchIf (s : State) (b : Bool) (k j : Nat) : (s.touchIf b k).slotOf j = s.slotOf j := by
  rw [State.touchIf_eq]
  exact s.slotOf_modStation k j _ (fun _ => rfl) fun _ => rfl

theorem State.slotOf_updValve (s : State) (n j : Nat) (f : Valve → Valve) : (s.updValve n f).slotOf j = s.slotOf j := by
  unfold State.updValve
  split
  · rfl
  · exact State.slotOf_touchIf ..

theorem State.stations_strikeRecords (s : State) (l : List Nat) : (s.strikeRecords l).stations = s.stations := by
  unfold State.strikeRecords
  induction l generalizing s with
  | nil => rfl
  | cons t l ih => exact (ih _).trans rfl

theorem State.slotOf_applyHold (s : State) (v : Valve) (l : List Nat) (j : Nat) :
    (s.applyHold v l).slotOf j = s.slotOf j := by
  rcases s.applyHold_cases v l with h | ⟨tags, h⟩ <;> rw [h]
  · exact s.slotOf_updValve ..
  · rw [← s.slotOf_updValve v.num j (v.holding l)]
    simp only [State.slotOf, State.station, State.raise_stations, State.stations_strikeRecords]

theorem State.slotOf_reevalValve (s : State) (v j : Nat) : (s.reevalValve v).slotOf j = s.slotOf j := by
  unfold State.reevalValve
  split
  · rfl
  · split
    · exact s.slotOf_applyHold ..
    · rfl

theorem State.slotOf_foldl {α : Type} (f : State → α → State) (j : Nat) (hf : ∀ s a, (f s a).slotOf j = s.slotOf j)
    (l : List α) (s : State) : (l.foldl f s).slotOf j = s.slotOf j := by
  induction l generalizing s with
  | nil => rfl
  | cons a l ih => exact (ih _).trans (hf s a)

theorem State.slotOf_reevalStation (s : State) (k j : Nat) : (s.reevalStation k).slotOf j = s.slotOf j :=
  State.slotOf_foldl _ j (fun s v => s.slotOf_reevalValve v j) _ s

theorem State.slotOf_reevalAll (s : State) (j : Nat) : s.reevalAll.slotOf j = s.slotOf j :=
  State.slotOf_foldl _ j (fun s v => s.slotOf_reevalValve v j) _ s

theorem State.slotOf_enqueue (s : State) (v : Valve) (t : Target) (o : Origin) (j : Nat) :
    (s.enqueue v t o).slotOf j = s.slotOf j :=
  State.slotOf_modStation (s.modValve v.num _) v.station j _ (fun _ => rfl) fun _ => rfl

/-- The valve a step commands is one of its station's. -/
theorem State.roleValve_mem {s : State} {k : Nat} {r : Role} {v : Valve} (h : s.roleValve k r = some v) :
    v ∈ s.valves ∧ v.station = k ∧ v.role = r := by
  have hv := List.find?_some h
  simp only [Bool.and_eq_true, beq_iff_eq] at hv
  exact ⟨List.mem_of_find?_eq_some h, hv.1, hv.2⟩

theorem State.slotOf_offerStep (s : State) (k : Nat) (p : SeqStep) (j : Nat) :
    (s.offerStep k p).1.slotOf j = s.slotOf j := by
  unfold State.offerStep
  split
  · rfl
  · split
    · rfl
    · rename_i a _ _ v _
      rcases s.offer_cases v a.2 with ⟨o, -, h⟩ | ⟨-, h⟩ <;> rw [h]
      · exact s.slotOf_endCommand ..
      · exact s.slotOf_enqueue ..

/-- A slot whose deadline is reached is active. -/
theorem State.active_of_deadline {s : State} {k : Nat} (h : s.deadlineReached k = true) : (s.slotOf k).state ≠ .idle := by
  simp only [State.deadlineReached, Slot.deadlineStands, Bool.and_eq_true, decide_eq_true_eq] at h
  exact h.1.1.1.1.2

/-! ### Neighbours -/

theorem aheadOf_append {t : Nat} {l m : List Nat} (hl : t ∉ l) (hm : t ∉ m) :
    aheadOf (l ++ t :: m) t = l.getLast? := by
  have hrest : aheadOf (t :: m) t = none := by
    cases m with
    | nil => rfl
    | cons b m =>
      rw [List.mem_cons, not_or] at hm
      rw [aheadOf, if_neg (Ne.symm hm.1)]
      induction m generalizing b with
      | nil => rfl
      | cons c m ih =>
        rw [List.mem_cons, not_or] at hm
        rw [aheadOf, if_neg (Ne.symm hm.2.1)]
        exact ih c ⟨hm.2.1, hm.2.2⟩
  induction l with
  | nil => exact hrest
  | cons a l ih =>
    rw [List.mem_cons, not_or] at hl
    cases l with
    | nil => simp only [List.cons_append, List.nil_append, aheadOf, if_true, List.getLast?_singleton]
    | cons b l =>
      rw [List.mem_cons, not_or] at hl
      rw [List.cons_append, List.cons_append, aheadOf, if_neg (Ne.symm hl.2.1), List.getLast?_cons_cons]
      exact ih (by simp [hl.2])

theorem behindOf_append {t : Nat} {l : List Nat} (m : List Nat) (hl : t ∉ l) : behindOf (l ++ t :: m) t = m.head? := by
  induction l with
  | nil => cases m <;> simp [behindOf]
  | cons a l ih =>
    rw [List.mem_cons, not_or] at hl
    cases l with
    | nil =>
      rw [List.cons_append, List.nil_append, behindOf, if_neg (Ne.symm hl.1)]
      exact ih hl.2
    | cons b l =>
      rw [List.cons_append, List.cons_append, behindOf, if_neg (Ne.symm hl.1)]
      exact ih hl.2

/-- The leader of a member stands before it in the list. -/
theorem pairwise_aheadOf {R : Nat → Nat → Prop} {l : List Nat} (h : l.Pairwise R) {t a : Nat}
    (ha : aheadOf l t = some a) : R a t := by
  induction l with
  | nil => cases ha
  | cons x l ih =>
    cases l with
    | nil => cases ha
    | cons b l =>
      rw [aheadOf] at ha
      obtain ⟨hx, hl⟩ := List.pairwise_cons.1 h
      split at ha
      · rename_i hb
        cases ha
        exact hb ▸ hx b (List.mem_cons_self ..)
      · exact ih hl ha

/-- The follower of a member stands after it in the list. -/
theorem pairwise_behindOf {R : Nat → Nat → Prop} {l : List Nat} (h : l.Pairwise R) {t b : Nat}
    (hb : behindOf l t = some b) : R t b := by
  induction l with
  | nil => cases hb
  | cons x l ih =>
    cases l with
    | nil => cases hb
    | cons c l =>
      rw [behindOf] at hb
      obtain ⟨hx, hl⟩ := List.pairwise_cons.1 h
      split at hb
      · rename_i hxt
        cases hb
        exact hxt ▸ hx _ (List.mem_cons_self ..)
      · exact ih hl hb

/-! ### The clamp of a fix (R82) -/

/-- The clamp gives a place between the neighbours where they stand in order and on the line. -/
theorem State.clampFix_fits {s : State} {t : Nat} (x : Nat)
    (horder : ∀ a b, aheadOf s.train t = some a → behindOf s.train t = some b → s.pigPos b ≤ s.pigPos a)
    (hahead : ∀ a, aheadOf s.train t = some a → s.pigPos a ≤ s.lineEnd)
    (hbehind : ∀ b, behindOf s.train t = some b → s.pigPos b ≤ s.lineEnd) : s.FitsAt t (s.clampFix t x) := by
  unfold State.clampFix
  cases ha : aheadOf s.train t with
  | none =>
    cases hb : behindOf s.train t with
    | none => exact ⟨by simp [hb], by simp [ha], by simp⟩
    | some b =>
      have := hbehind b hb
      exact ⟨by simp [hb], by simp [ha], by simp; omega⟩
  | some a =>
    have hend := hahead a ha
    cases hb : behindOf s.train t with
    | none => exact ⟨by simp [hb], by simp [ha], by simp; omega⟩
    | some b =>
      have hba := horder a b ha hb
      exact ⟨by simp [hb], by simp [ha]; omega, by simp; omega⟩

/-- The clamp of a place at or beyond line start gives one. -/
theorem State.lineStart_le_clampFix {s : State} {t x : Nat} (hx : s.lineStart ≤ x) (hend : s.lineStart ≤ s.lineEnd)
    (hahead : ∀ a, aheadOf s.train t = some a → s.lineStart ≤ s.pigPos a) : s.lineStart ≤ s.clampFix t x := by
  refine Nat.le_trans (Nat.le_min.2 ⟨hx, ?_⟩) (Nat.le_max_right ..)
  cases ha : aheadOf s.train t with
  | none => simpa using hend
  | some a => simpa using hahead a ha

/-- A place between neighbours: a member's own. -/
theorem TrainInOrder.fits_self {s : State} (h : TrainInOrder s) {t : Nat} (ht : t ∈ s.train) :
    s.FitsAt t (s.pigPos t) :=
  ⟨fun _ hb => pairwise_behindOf h.order hb, fun _ ha => pairwise_aheadOf h.order ha, h.onLine t ht⟩

/-- The clamp fits a member of a train in order. -/
theorem TrainInOrder.clampFix_fits {s : State} (h : TrainInOrder s) {t : Nat} (x : Nat) :
    s.FitsAt t (s.clampFix t x) :=
  State.clampFix_fits x
    (fun _ _ ha hb => Nat.le_trans (pairwise_behindOf h.order hb) (pairwise_aheadOf h.order ha))
    (fun a ha => h.onLine a (mem_of_aheadOf ha)) fun b hb => h.onLine b (mem_of_behindOf hb)

/-- A record of the train is tracked. -/
theorem TrainInOrder.tracked {s : State} (h : TrainInOrder s) {t : Nat} {p : Pig} (ht : t ∈ s.train)
    (hp : s.pig t = some p) : p.tracked = true := by
  have := h.members t ht
  rwa [hp, Option.any_some] at this

/-- A record that is not tracked is no member of the train. -/
theorem TrainInOrder.not_mem {s : State} (h : TrainInOrder s) {t : Nat} {p : Pig} (hp : s.pig t = some p)
    (hout : p.tracked = false) : t ∉ s.train := fun ht => by
  rw [h.tracked ht hp] at hout
  cases hout

/-- The members a record joins behind stand at or ahead of its entry position. -/
theorem State.membersAhead_le {s : State} {x a : Nat} (h : a ∈ s.membersAhead x) : x ≤ s.pigPos a :=
  of_decide_eq_true (List.mem_takeWhile_imp (p := fun t => decide (x ≤ s.pigPos t)) h)

/-- The first of the members a record joins ahead of stands short of its entry position. -/
theorem State.membersBehind_lt {s : State} {x b : Nat} (h : (s.membersBehind x).head? = some b) : s.pigPos b < x := by
  have := List.head?_dropWhile_not (fun t => decide (x ≤ s.pigPos t)) s.train
  rw [State.membersBehind] at h
  rw [h] at this
  simpa using this

theorem State.mem_train_of_ahead {s : State} {x a : Nat} (h : a ∈ s.membersAhead x) : a ∈ s.train :=
  s.members_append x ▸ List.mem_append_left _ h

theorem State.mem_train_of_behind {s : State} {x b : Nat} (h : b ∈ s.membersBehind x) : b ∈ s.train :=
  s.members_append x ▸ List.mem_append_right _ h

/-- The neighbours of a record that joins. -/
theorem State.aheadOf_joinTrain {s : State} {t : Nat} (x : Nat) (ht : t ∉ s.train) :
    aheadOf (s.joinTrain t x).train t = (s.membersAhead x).getLast? :=
  aheadOf_append (fun h => ht (s.mem_train_of_ahead h)) fun h => ht (s.mem_train_of_behind h)

theorem State.behindOf_joinTrain {s : State} {t : Nat} (x : Nat) (ht : t ∉ s.train) :
    behindOf (s.joinTrain t x).train t = (s.membersBehind x).head? :=
  behindOf_append _ fun h => ht (s.mem_train_of_ahead h)

/-- The clamp fits a record that joins a train in order. -/
theorem TrainInOrder.clampFix_joined_fits {s : State} (h : TrainInOrder s) {t : Nat} (x y : Nat) (ht : t ∉ s.train) :
    (s.joinTrain t x).FitsAt t ((s.joinTrain t x).clampFix t y) := by
  refine State.clampFix_fits y (fun a b ha hb => ?_) (fun a ha => ?_) fun b hb => ?_
  · rw [State.aheadOf_joinTrain x ht] at ha
    rw [State.behindOf_joinTrain x ht] at hb
    exact Nat.le_trans (Nat.le_of_lt (State.membersBehind_lt (s := s) hb))
      (State.membersAhead_le (s := s) (List.mem_of_getLast? ha))
  · rw [State.aheadOf_joinTrain x ht] at ha
    exact h.onLine a (State.mem_train_of_ahead (List.mem_of_getLast? ha))
  · rw [State.behindOf_joinTrain x ht] at hb
    exact h.onLine b (State.mem_train_of_behind (List.mem_of_mem_head? hb))

/-- Where the line has stations none of which stands below its start, its end stands at or beyond its start. -/
theorem NothingBelowStart.start_le_end {s : State} (h : NothingBelowStart s) (hready : s.lineState = .ready) :
    s.lineStart ≤ s.lineEnd := by
  rw [State.lineEnd]
  cases hlast : s.stations.getLast? with
  | none =>
    rw [List.getLast?_eq_none_iff] at hlast
    simp [State.lineStart, hlast]
  | some x => exact h.stations hready x (List.mem_of_getLast? hlast)

/-- A record is live in READY alone (R47). -/
theorem TrainInOrder.ready_of_mem {s : State} (h : TrainInOrder s) {p : Pig} (hp : p ∈ s.pigs) : s.lineState = .ready := by
  cases hline : s.lineState with
  | ready => rfl
  | unconfigured => rw [h.empty hline] at hp; cases hp

end Sys2Proof.Machine
end

section
/-! SUPPORT. The Hold Map, the re-arm tests and the Trap Sequencer's engine make runs of elementary changes. -/

namespace Sys2Proof.Machine

/-- A station, where it is defined, runs a sequence. -/
def State.occupied (s : State) (k : Nat) : Prop := ∀ x, s.station k = some x → x.slot.state ≠ .idle

theorem State.occupied_of_slotOf {s : State} {k : Nat} (h : (s.slotOf k).state ≠ .idle) : s.occupied k := fun x hx => by
  rwa [State.slotOf_of_some hx] at h

/-- A station stays occupied where its slot keeps its state and the definitions stand. -/
theorem State.occupied.congr {s t : State} {k : Nat} (h : s.occupied k) (hline : SameLine s t)
    (hslot : (t.slotOf k).state = (s.slotOf k).state) : t.occupied k := fun y hy => by
  have hstation := hline.station k
  rw [hy, Option.map_some] at hstation
  obtain ⟨x, hx, -⟩ := Option.map_eq_some_iff.1 hstation.symm
  rw [State.slotOf_of_some hy, State.slotOf_of_some hx] at hslot
  exact hslot ▸ h x hx

/-- A station stays occupied through a change of its slot that leaves it active. -/
theorem State.occupied.updSlot {s : State} {k : Nat} (h : s.occupied k) (f : Slot → Slot)
    (hf : ∀ x, x.state ≠ .idle → (f x).state ≠ .idle) : (s.updSlot k f).occupied k := fun y hy => by
  cases hx : s.station k with
  | none => rw [State.updSlot_of_none f hx, hx] at hy; cases hy
  | some x =>
    rw [State.station_updSlot_self f hx, Option.some.injEq] at hy
    subst hy
    exact hf _ (h x hx)

theorem Slot.seat_congr {x y : Slot} (hstate : y.state = x.state) (hbound : y.bound = x.bound) : y.seat = x.seat := by
  simp only [Slot.seat, hstate, hbound]

theorem Slot.seat_of_active {x y : Slot} (hx : x.state ≠ .idle) (hy : y.state ≠ .idle) (hbound : y.bound = x.bound) :
    y.seat = x.seat := by simp only [Slot.seat, if_neg hx, if_neg hy, hbound]

theorem Slot.idleIsBlank_of_active {x : Slot} (h : x.state ≠ .idle) : x.idleIsBlank := fun hidle => absurd hidle h

theorem Slot.idleIsBlank_ended (x : Slot) (o : SeqOutcome) : (x.ended o).idleIsBlank := fun _ => rfl

theorem Slot.idleIsBlank_started (x : Slot) (kind : SequenceKind) (p : SeqStep) (tag : Nat) (barred : Option Nat)
    (trip : Bool) : (x.started kind p tag barred trip).idleIsBlank := fun h => by cases h

namespace Runs

theorem foldl {α : Type} (f : State → α → State) (hf : ∀ s a, Runs s (f s a)) (l : List α) (s : State) :
    Runs s (l.foldl f s) := by
  induction l generalizing s with
  | nil => exact .refl s
  | cons a l ih => exact (hf s a).trans (ih _)

theorem raise (s : State) (c : AlertCause) : Runs s (s.raise c) := .change (.raise s c)

theorem note (s : State) (c : NoteCause) : Runs s (s.note c) := .change (.note s c)

/-! Changes of one item, with the changed flag they may set. -/

/-- A change of a station that leaves its queue and its slot. -/
theorem stationAside (s : State) (k : Nat) (f : Station → Station) (hdef : ∀ x, (f x).definition = x.definition)
    (hqueue : ∀ x, (f x).queue = x.queue) (hslot : ∀ x, (f x).slot = x.slot) : Runs s (s.modStation k f) :=
  .change (.station s k f hdef fun x _ => ⟨hqueue x, by rw [hslot x], fun h => by rw [hslot x]; exact h⟩)

theorem touchIf (s : State) (b : Bool) (k : Nat) : Runs s (s.touchIf b k) := by
  rw [State.touchIf_eq]
  exact stationAside s k _ (fun _ => rfl) (fun _ => rfl) fun _ => rfl

theorem updLink (s : State) (k : Nat) (f : LinkRecord → LinkRecord) : Runs s (s.updLink k f) := by
  unfold State.updLink
  split
  · exact .refl s
  · exact (stationAside s k (fun y => { y with link := f y.link }) (fun _ => rfl) (fun _ => rfl) fun _ => rfl).trans
      (touchIf ..)

theorem updDetector (s : State) (n : Nat) (f : Detector → Detector) (hdef : ∀ d, (f d).committed = d.committed)
    (hrearm : TablesRise s → ∀ d, s.detector n = some d → d.rearmSound → (f d).rearmSound) :
    Runs s (s.updDetector n f) := by
  unfold State.updDetector
  split
  · exact .refl s
  · exact (Runs.change (.detector s n f hdef hrearm)).trans (touchIf ..)

theorem updMeter (s : State) (n : Nat) (f : Meter → Meter) (hdef : ∀ m, (f m).rebased = m.rebased)
    (hsound : TablesRise s → ∀ m, s.meter n = some m → m.provisionalSound → (f m).provisionalSound) :
    Runs s (s.updMeter n f) := by
  unfold State.updMeter
  split
  · exact .refl s
  · exact (Runs.change (.meter s n f hdef hsound)).trans (touchIf ..)

theorem updValve (s : State) (n : Nat) (f : Valve → Valve) (hdef : ∀ v, (f v).committed = v.committed)
    (hkept : ∀ v, s.valve n = some v → v.Keeps (f v)) : Runs s (s.updValve n f) := by
  unfold State.updValve
  split
  · exact .refl s
  · exact (Runs.change (.valve s n f hdef hkept)).trans (touchIf ..)

/-- A change of a slot that keeps the record its sequence is bound to. -/
theorem updSlotSeated (s : State) (k : Nat) (f : Slot → Slot)
    (hkept : ∀ x, s.station k = some x →
      (f x.slot).seat = x.slot.seat ∧ (x.slot.idleIsBlank → (f x.slot).idleIsBlank)) : Runs s (s.updSlot k f) := by
  cases hx : s.station k with
  | none => rw [State.updSlot_of_none f hx]; exact .refl s
  | some x =>
    rw [State.updSlot_of_some f hx]
    refine .change (.station s k _ (fun _ => rfl) fun y hy => ?_)
    obtain rfl : x = y := Option.some.inj (hx.symm.trans hy)
    exact ⟨rfl, (hkept x hx).1, (hkept x hx).2⟩

/-- A change of a slot that leaves its state, its kind and its record. -/
theorem updSlotWithin (s : State) (k : Nat) (f : Slot → Slot) (hstate : ∀ x, (f x).state = x.state)
    (hbound : ∀ x, (f x).bound = x.bound) (hkind : ∀ x, (f x).kind = x.kind) : Runs s (s.updSlot k f) :=
  updSlotSeated s k f fun x _ => ⟨Slot.seat_congr (hstate _) (hbound _), fun h hidle => by
    rw [hkind]
    exact h ((hstate _).symm.trans hidle)⟩

/-- A change of an active slot that leaves it active, with its record. -/
theorem updSlotActive {s : State} {k : Nat} (h : s.occupied k) (f : Slot → Slot) (hf : ∀ x, x.state ≠ .idle → (f x).state ≠ .idle)
    (hbound : ∀ x, (f x).bound = x.bound) : Runs s (s.updSlot k f) :=
  updSlotSeated s k f fun x hx => by
    have hactive := hf _ (h x hx)
    exact ⟨Slot.seat_of_active (h x hx) hactive (hbound _), fun _ => Slot.idleIsBlank_of_active hactive⟩

theorem pausedAt {s : State} {k : Nat} (h : s.occupied k) (p : SeqStep) (c : PauseCause) :
    Runs s (s.updSlot k fun x => x.pausedAt p c) :=
  updSlotActive h (fun x => x.pausedAt p c) (fun _ _ h => by cases h) fun _ => rfl

/-! The Hold Map. -/

theorem reevalValve (s : State) (v : Nat) : Runs s (s.reevalValve v) := .change (.reevalValve s v)

theorem reevalAll (s : State) : Runs s s.reevalAll := foldl _ reevalValve _ s

theorem reevalStation (s : State) (k : Nat) : Runs s (s.reevalStation k) := foldl _ reevalValve _ s

/-! The re-arm tests (R97). -/

theorem rearmTest (s : State) (n : Nat) : Runs s (s.rearmTest n) := by
  unfold State.rearmTest
  split
  · exact .refl s
  · rename_i d hd
    split
    · rename_i hdue
      refine updDetector s n _ ?_ fun _ y hy _ _ => ?_
      · exact fun _ => rfl
      · obtain rfl : d = y := Option.some.inj (hd.symm.trans hy)
        exact hdue.2.1
    · exact .refl s

theorem rearmAwaiting (s : State) (t : Nat) : Runs s (s.rearmAwaiting t) := foldl _ rearmTest _ s

/-! The sequencer's elementary work. -/

theorem offerStep (s : State) (k : Nat) (p : SeqStep) : Runs s (s.offerStep k p).1 := by
  unfold State.offerStep
  split
  · exact .refl s
  · split
    · exact .refl s
    · rename_i a _ _ v hv
      have hmem := (State.roleValve_mem hv).1
      rcases s.offer_cases v a.2 with ⟨o, -, h⟩ | ⟨-, h⟩ <;> rw [h]
      · exact .change (.endCommand s v o hmem)
      · exact .change (.enqueue s v _ _ hmem)

theorem followerLook (s : State) (k : Nat) (l : List Nat) : Runs s (s.followerLook k l) := by
  have hstored : Runs s (s.modStation k fun x => { x with slot := { x.slot with closing := s.closingNow k } }) := by
    refine .change (.station s k _ ?_ ?_)
    · exact fun _ => rfl
    · exact fun _ _ => ⟨rfl, rfl, id⟩
  unfold State.followerLook
  simp only
  split
  · exact hstored.trans (raise ..)
  · exact hstored

theorem followerWatch (s : State) (k : Nat) : Runs s (s.followerWatch k) := by
  unfold State.followerWatch
  split
  · exact followerLook ..
  · exact .refl s

theorem stepSucceeded (s : State) (k : Nat) (p : SeqStep) : Runs s (s.stepSucceeded k p) := by
  have hmark : Runs s (s.updSlot k fun x => { x with marks := p.clearMark x.marks }) :=
    updSlotWithin s k _ (fun _ => rfl) (fun _ => rfl) fun _ => rfl
  unfold State.stepSucceeded
  simp only
  split
  · exact hmark.trans (followerLook ..)
  · exact hmark

/-- A sequence's end frees its slot, and the station's holds count the record again (R121, R148). -/
theorem endSlot (s : State) (k : Nat) (o : SeqOutcome) (r : Option (SeqStep × Role × ValveOutcome)) :
    Runs s (s.endSlot k o r) := by
  have hfreed : Runs s ((s.updSlot k fun y => y.ended o).reevalStation k) :=
    .change (.reseat s k _ fun x => x.idleIsBlank_ended o)
  unfold State.endSlot
  simp only
  split
  · refine ((hfreed.trans (stationAside _ k _ ?_ ?_ ?_)).trans (note ..)).trans (raise ..)
    all_goals exact fun _ => rfl
  · exact hfreed.trans (note ..)

end Runs

/-! ### Occupied stations through the engine's elementary work -/

namespace State.occupied

variable {s : State} {k : Nat} (h : s.occupied k)

include h

theorem raise (c : AlertCause) : (s.raise c).occupied k := h

theorem endCommand (v : Valve) (o : ValveOutcome) : (s.endCommand v o).occupied k := by
  refine h.congr ((SameLine.modValve s v.num _ ?_).trans (SameLine.modStation _ v.station _ ?_)) ?_
  · exact fun _ => rfl
  · exact fun _ => rfl
  · exact congrArg Slot.state (slotOf_endCommand ..)

theorem offerStep (p : SeqStep) : (s.offerStep k p).1.occupied k :=
  h.congr (SameLine.of_runs (Runs.offerStep s k p)) (congrArg Slot.state (s.slotOf_offerStep k p k))

theorem atStep (p : SeqStep) (st : SlotState) (hst : st ≠ .idle) : (s.updSlot k fun x => x.at p st).occupied k :=
  h.updSlot _ fun _ _ => hst

theorem marked (f : Slot → Marks) : (s.updSlot k fun x => { x with marks := f x }).occupied k :=
  h.updSlot (fun x => { x with marks := f x }) fun _ hx => hx

theorem followerLook (l : List Nat) : (s.followerLook k l).occupied k := by
  refine h.congr (SameLine.of_runs (Runs.followerLook s k l)) ?_
  have hslot : ((s.modStation k fun x => { x with slot := { x.slot with closing := s.closingNow k } }).slotOf k).state =
      (s.slotOf k).state := by
    cases hx : s.station k with
    | none =>
      have hnone := s.station_modStation k k (fun x => { x with slot := { x.slot with closing := s.closingNow k } })
        fun _ => rfl
      rw [hx, Option.map_none] at hnone
      simp only [State.slotOf, hnone, hx]
    | some x =>
      have hself := State.station_modStation_self (fun x => { x with slot := { x.slot with closing := s.closingNow k } })
        (fun _ => rfl) hx
      rw [State.slotOf_of_some hself, State.slotOf_of_some hx]
  unfold State.followerLook
  simp only
  split <;> exact hslot

theorem stepSucceeded (p : SeqStep) : (s.stepSucceeded k p).occupied k := by
  unfold State.stepSucceeded
  simp only
  split
  · exact (h.marked fun x => p.clearMark x.marks).followerLook []
  · exact h.marked fun x => p.clearMark x.marks

end State.occupied

namespace Runs

/-- A slot goes to a step, from which the step offers its command. -/
theorem offerFrom {s : State} {k : Nat} (h : s.occupied k) (p : SeqStep) (st : SlotState) (hst : st ≠ .idle) :
    Runs s ((s.updSlot k fun x => x.at p st).offerStep k p).1 ∧
      ((s.updSlot k fun x => x.at p st).offerStep k p).1.occupied k :=
  ⟨(updSlotActive h (fun x => x.at p st) (fun _ _ => hst) fun _ => rfl).trans (offerStep ..),
    (h.atStep p st hst).offerStep p⟩

theorem atStep {s : State} {k : Nat} (h : s.occupied k) (p : SeqStep) (st : SlotState) (hst : st ≠ .idle) :
    Runs s (s.updSlot k fun x => x.at p st) := updSlotActive h (fun x => x.at p st) (fun _ _ => hst) fun _ => rfl

/-- The gates a step waits on leave the slot active. -/
theorem gate_active {s : State} {k : Nat} {p : SeqStep} {st : SlotState} (h : s.gate k p = some st) : st ≠ .idle := by
  unfold State.gate at h
  split at h
  · cases h; decide
  · split at h
    · cases h; decide
    · cases h

/-! The engine with any ending that makes a run. -/

section

variable {e : Ending} (he : ∀ s k o r, Runs s (e s k o r))

include he

theorem runRestoreBy (k : Nat) (l : List SeqStep) (s : State) (h : s.occupied k) :
    Runs s (State.runRestoreBy e k l s) := by
  induction l generalizing s with
  | nil => exact he ..
  | cons p l ih =>
    obtain ⟨hoffer, hocc⟩ := offerFrom h p .restoring (by decide)
    unfold State.runRestoreBy
    split
    · exact ih s h
    · split
      · exact pausedAt h ..
      · simp only
        split <;> rename_i heq <;> rw [heq] at hoffer hocc
        · exact hoffer
        · split
          · refine (hoffer.trans (updSlotWithin _ k _ ?_ ?_ ?_)).trans (ih _ (hocc.marked fun x => p.clearMark x.marks))
            all_goals exact fun _ => rfl
          · exact hoffer.trans (he ..)

theorem beginTailBy (s : State) (k : Nat) (c : SeqOutcome) (f : Option (Role × ValveOutcome)) (h : s.occupied k) :
    Runs s (s.beginTailBy e k c f) := by
  refine (updSlotWithin s k _ ?_ ?_ ?_).trans (runRestoreBy he k _ _ (h.updSlot _ ?_))
  · exact fun _ => rfl
  · exact fun _ => rfl
  · exact fun _ => rfl
  · exact fun _ hx => hx

theorem cutShortBy (s : State) (k : Nat) (v : Valve) (c : AbortCause) (hv : v ∈ s.valves) (h : s.occupied k) :
    Runs s (s.cutShortBy e k v c) := by
  unfold State.cutShortBy
  split
  · exact .refl s
  · split
    · exact (Runs.change (.endCommand s v _ hv)).trans (beginTailBy he _ k _ _ (h.endCommand v .withdrawn))
    · exact updSlotWithin s k _ (fun _ => rfl) (fun _ => rfl) fun _ => rfl

end

/-- The valve of a slot's current step is one of its station's. -/
theorem stepValve_mem {s : State} {k : Nat} {v : Valve} (h : s.stepValve k = some v) : v ∈ s.valves ∧ v.station = k := by
  obtain ⟨a, -, ha⟩ := Option.bind_eq_some_iff.1 h
  obtain ⟨w, hw, hwv⟩ := Option.bind_eq_some_iff.1 ha
  split at hwv
  · cases hwv
    exact ⟨(State.roleValve_mem hw).1, (State.roleValve_mem hw).2.1⟩
  · cases hwv

section

variable {e : Ending} (he : ∀ s k o r, Runs s (e s k o r))

include he

theorem abandonBy (s : State) (k : Nat) (h : s.occupied k) : Runs s (s.abandonBy e k) := by
  refine (raise s .notReady).trans ?_
  unfold State.abandonBy
  simp only
  split
  · rename_i v hv
    split
    · exact cutShortBy he _ k v _ (stepValve_mem hv).1 (h.raise _)
    · exact beginTailBy he _ k _ _ (h.raise _)
  · exact beginTailBy he _ k _ _ (h.raise _)

theorem runForwardBy (k : Nat) (l : List SeqStep) (s : State) (h : s.occupied k) :
    Runs s (State.runForwardBy e k l s) := by
  induction l generalizing s with
  | nil => exact he ..
  | cons p l ih =>
    obtain ⟨hoffer, hocc⟩ := offerFrom h p .stepping (by decide)
    unfold State.runForwardBy
    split
    · exact abandonBy he s k h
    · split
      · exact pausedAt h ..
      · split
        · exact updSlotActive h (fun x => { x.at p .waitPassage with passage := 0 }) (fun _ _ h => by cases h) fun _ => rfl
        · split
          · rename_i st hst
            exact Runs.atStep h p st (gate_active hst)
          · simp only
            split <;> rename_i heq <;> rw [heq] at hoffer hocc
            · exact hoffer
            · split
              · exact (hoffer.trans (stepSucceeded ..)).trans (ih _ (hocc.stepSucceeded p))
              · split
                · exact hoffer.trans (Runs.atStep hocc p .waitHold (by decide))
                · exact hoffer.trans (beginTailBy he _ k _ _ hocc)

theorem goOnAtBy (s : State) (k : Nat) (p : SeqStep) (h : s.occupied k) : Runs s (s.goOnAtBy e k p) := by
  unfold State.goOnAtBy
  split
  · exact runRestoreBy he k _ s h
  · exact runForwardBy he k _ s h

theorem clearanceGateBy (s : State) (k : Nat) : Runs s (s.clearanceGateBy e k) := by
  unfold State.clearanceGateBy
  split
  · rename_i hstate _
    split
    · exact goOnAtBy he s k _ (State.occupied_of_slotOf (by rw [hstate]; decide))
    · exact .refl s
  · exact .refl s

end

theorem reviewReceive (s : State) (k : Nat) : Runs s (s.reviewReceive k) := by
  unfold State.reviewReceive
  split
  · refine Runs.trans ?_ (followerWatch ..)
    split
    · rename_i hdeadline
      exact abandonBy endSlot s k (State.occupied_of_slotOf (State.active_of_deadline hdeadline))
    · exact clearanceGateBy endSlot s k
  · exact .refl s

theorem handAside (s : State) (t : Nat) : Runs s (s.handAside t) :=
  (rearmAwaiting s t).trans (foldl _ reviewReceive _ _)

theorem recordAtEnd {s : State} {t : Nat} {p : Pig} (hp : s.pig t = some p) (hstaged : p.state = .staged) :
    Runs s (s.recordAtEnd t) := by
  refine .change (.record s t _ ⟨fun _ h => h, fun _ _ h => h⟩ fun _ _ q hq => ?_)
  obtain rfl : p = q := Option.some.inj (hp.symm.trans hq)
  exact ⟨rfl, rfl, .inr (.inl ⟨by rw [Pig.inLauncher, hstaged]; rfl, rfl⟩)⟩

theorem endSequence (s : State) (k : Nat) (o : SeqOutcome) (r : Option (SeqStep × Role × ValveOutcome)) :
    Runs s (s.endSequence k o r) := by
  unfold State.endSequence
  split
  · exact endSlot ..
  · rename_i t ht
    obtain ⟨p, hp, hstaged⟩ := State.staged_of_givenUp ht
    exact ((recordAtEnd hp hstaged).trans (handAside ..)).trans (endSlot ..)

theorem holdGate (s : State) (k : Nat) : Runs s (s.holdGate k) := by
  unfold State.holdGate
  split
  · rename_i hstate _
    split
    · exact .refl s
    · exact goOnAtBy endSequence s k _ (State.occupied_of_slotOf (by rw [hstate]; decide))
  · exact .refl s

theorem examine (s : State) (k : Nat) : Runs s (s.examine k) := by
  refine Runs.trans ?_ (followerWatch ..)
  split
  · rename_i hdeadline
    exact abandonBy endSequence s k (State.occupied_of_slotOf (State.active_of_deadline hdeadline))
  · exact (clearanceGateBy endSequence s k).trans (holdGate ..)

theorem examineAll (s : State) : Runs s s.examineAll := foldl _ examine _ s

/-- What handing a record's change on does behind the re-evaluation of the holds (R29). -/
theorem rearmAndExamine (s : State) (t : Nat) : Runs s (s.rearmAwaiting t).examineAll :=
  (rearmAwaiting s t).trans (examineAll _)

theorem handOn (s : State) (t : Nat) : Runs s (s.handOn t) := (reevalAll s).trans (rearmAndExamine ..)

/-! The outcome of a valve command (R116). -/

theorem restoreOutcome (s : State) (k : Nat) (p : SeqStep) (o : ValveOutcome) (h : s.occupied k) :
    Runs s (s.restoreOutcome k p o) := by
  unfold State.restoreOutcome
  split
  · refine (updSlotWithin s k _ ?_ ?_ ?_).trans
      (runRestoreBy endSequence k _ _ (h.marked fun x => p.clearMark x.marks))
    all_goals exact fun _ => rfl
  · exact endSequence ..

theorem goOnAfter (s : State) (k : Nat) (p : SeqStep) (h : s.occupied k) : Runs s (s.goOnAfter k p) :=
  runForwardBy endSequence k _ s h

theorem forwardOutcome (s : State) (k : Nat) (p : SeqStep) (o : ValveOutcome) (h : s.occupied k) :
    Runs s (s.forwardOutcome k p o) := by
  unfold State.forwardOutcome
  split
  · simp only
    split
    · refine (updSlotWithin s k _ ?_ ?_ ?_).trans
        (beginTailBy endSequence _ k _ _ (h.marked fun x => p.clearMark x.marks))
      all_goals exact fun _ => rfl
    · exact beginTailBy endSequence s k _ _ h
  · split
    · exact (stepSucceeded ..).trans (goOnAfter _ k p (h.stepSucceeded p))
    · split
      · exact Runs.atStep h p .waitHold (by decide)
      · exact beginTailBy endSequence s k _ _ h

theorem slotOutcome (s : State) (k : Nat) (o : ValveOutcome) : Runs s (s.slotOutcome k o) := by
  unfold State.slotOutcome
  split
  · rename_i hstate _
    exact restoreOutcome s k _ o (State.occupied_of_slotOf (by rw [hstate]; decide))
  · rename_i hstate _
    exact forwardOutcome s k _ o (State.occupied_of_slotOf (by rw [hstate]; decide))
  · exact .refl s

theorem finishCommand (s : State) (v : Nat) (o : ValveOutcome) : Runs s (s.finishCommand v o) := by
  obtain ⟨-, heq⟩ | ⟨x, c, hx, -, ⟨-, heq⟩ | ⟨-, heq⟩⟩ := s.finishCommand_cases v o <;> rw [heq]
  · exact .refl s
  · exact .change (.endCommand s x o (State.valve_mem hx))
  · exact (Runs.change (.endCommand s x o (State.valve_mem hx))).trans (slotOutcome ..)

theorem acceptCommand (s : State) (x : Valve) (c : Command) (hx : x ∈ s.valves) : Runs s (s.acceptCommand x c) := by
  have haccepted := Runs.change (.accept s x c hx)
  unfold State.acceptCommand
  simp only
  split
  · refine haccepted.trans (updSlotWithin _ x.station _ ?_ ?_ ?_)
    all_goals exact fun _ => rfl
  · exact haccepted

theorem strokeTest (s : State) (v : Nat) : Runs s (s.strokeTest v) := by
  unfold State.strokeTest
  split
  · exact .refl s
  · split
    · exact .refl s
    · split
      · split
        · exact .refl s
        · exact finishCommand ..
      · exact .refl s

/-! Starting a sequence. -/

/-- A start seats the record, and the station's holds count it no more (R121, R127, R128). -/
theorem started (s : State) (k : Nat) (kind : SequenceKind) (p : SeqStep) (tag : Nat) (barred : Slot → Option Nat) :
    Runs s ((s.updSlot k fun x => x.started kind p tag (barred x) s.lineTrip).reevalStation k) ∧
      ((s.updSlot k fun x => x.started kind p tag (barred x) s.lineTrip).reevalStation k).occupied k := by
  refine ⟨.change (.reseat s k _ fun x =>
    x.idleIsBlank_started kind p tag (barred x) s.lineTrip), ?_⟩
  have hocc : (s.updSlot k fun x => x.started kind p tag (barred x) s.lineTrip).occupied k := fun y hy => by
    cases hx : s.station k with
    | none => rw [State.updSlot_of_none _ hx, hx] at hy; cases hy
    | some x =>
      rw [State.station_updSlot_self _ hx, Option.some.injEq] at hy
      subst hy
      exact fun h => by cases h
  exact hocc.congr (SameLine.reevalStation ..) (congrArg Slot.state (State.slotOf_reevalStation ..))

theorem startLaunch (s : State) (k tag : Nat) : Runs s (s.startLaunch k tag) := by
  obtain ⟨hrun, hocc⟩ := started s k .launch .l1 tag Slot.barred
  unfold State.startLaunch
  simp only
  split
  · exact hrun.trans (runForwardBy endSequence k _ _ hocc)
  · exact hrun.trans (endSequence ..)

theorem startReceive (s : State) (k tag : Nat) (barred : Option Nat) : Runs s (s.startReceive k tag barred) := by
  obtain ⟨hrun, hocc⟩ := started s k .receive .rx1 tag fun _ => barred
  unfold State.startReceive
  simp only
  split
  · exact hrun.trans (abandonBy endSequence _ k hocc)
  · split
    · exact hrun.trans (runForwardBy endSequence k _ _ hocc)
    · exact hrun.trans (endSequence ..)

end Runs

end Sys2Proof.Machine
end

section
/-! SUPPORT. What becomes of the records makes runs of elementary changes: fixes, losses, trapping, misses, advances and
trips (chapters 2 to 5). -/

namespace Sys2Proof.Machine

/-- A fold that keeps its choice or takes the item at hand chooses what it began with or an item of the list. -/
theorem foldl_picks {α : Type} (f : Option α → α → Option α) (hf : ∀ b a c, f b a = some c → b = some c ∨ a = c)
    (l : List α) (b : Option α) {c : α} (h : l.foldl f b = some c) : b = some c ∨ c ∈ l := by
  induction l generalizing b with
  | nil => exact .inl h
  | cons a l ih =>
    rcases ih _ h with hstep | hmem
    · rcases hf b a c hstep with hb | ha
      · exact .inl hb
      · exact .inr (ha ▸ List.mem_cons_self ..)
    · exact .inr (List.mem_cons_of_mem _ hmem)

/-! ### Stored ranges -/

/-- A change of a record that keeps its tag, its residue and its slip. -/
theorem KeepsRange.aside {s : State} {t : Nat} {f : Pig → Pig} (htag : ∀ p, (f p).tag = p.tag)
    (hresidue : ∀ p, (f p).residue = p.residue ∨ (f p).residue = 0) (hslip : ∀ p, (f p).slip = p.slip) :
    KeepsRange s t f where
  tag p hp := (htag p).trans hp
  bounds _ p hp := by
    obtain ⟨h1, h2, h3, h4⟩ := hp
    refine ⟨?_, by rw [hslip]; exact h2, by rw [htag]; exact h3, by rw [htag]; exact h4⟩
    rcases hresidue p with h | h <;> rw [h]
    · exact h1
    · omega

/-- A record in another's place, of the same tag and within the ranges where the table's records are. -/
theorem KeepsRange.const {s : State} {t : Nat} {q : Pig} (htag : q.tag = t)
    (hq : (∀ p ∈ s.pigs, p.inBounds) → q.inBounds) : KeepsRange s t fun _ => q where
  tag _ _ := htag
  bounds h _ _ := hq h

theorem learnedSlip_le {slip run estimated : Nat} (h : slip ≤ 250) : learnedSlip slip run estimated ≤ 250 := by
  unfold learnedSlip observedSlip
  omega

/-- A release advances a record within the stored ranges. -/
theorem State.advanced_inBounds {s : State} {p : Pig} (h : p.inBounds) (release : Nat) : (s.advanced p release).inBounds := by
  obtain ⟨-, h2, h3, h4⟩ := h
  rw [State.advanced_eq]
  refine ⟨?_, h2, h3, h4⟩
  dsimp only
  split
  · omega
  · omega

/-- An advance keeps a member between its neighbours, and on the line (R60). -/
theorem TrainInOrder.advanced_fits {s : State} (h : TrainInOrder s) {t : Nat} {p : Pig} (hp : s.pig t = some p)
    (ht : t ∈ s.train) (release : Nat) :
    s.FitsAt t (s.advanced p release).position ∧ p.position ≤ (s.advanced p release).position := by
  have hself := h.fits_self ht
  have hpos : s.pigPos t = p.position := by simp only [State.pigPos, hp, Option.map_some, Option.getD_some]
  rw [hpos] at hself
  have htag := State.pig_tag hp
  have hq : (s.advanced p release).position = min (p.candidate release) (s.advanceLimit p) := by rw [State.advanced_eq]
  have hcandidate : p.position ≤ p.candidate release := Nat.le_add_right ..
  have hlimit : p.position ≤ s.advanceLimit p ∧ s.advanceLimit p ≤ s.lineEnd ∧
      ∀ a, aheadOf s.train t = some a → s.advanceLimit p ≤ s.pigPos a := by
    have hend := hself.onLine
    unfold State.advanceLimit
    rw [htag]
    cases ha : aheadOf s.train t with
    | none => exact ⟨hend, Nat.le_refl _, fun _ h => by cases h⟩
    | some a =>
      have hahead := hself.ahead a ha
      refine ⟨?_, ?_, fun b hb => ?_⟩
      · dsimp only; omega
      · dsimp only; omega
      · cases hb
        dsimp only; omega
  obtain ⟨hle, hend, hahead⟩ := hlimit
  refine ⟨⟨fun b hb => ?_, fun a ha => ?_, ?_⟩, ?_⟩
  · have := hself.behind b hb
    omega
  · have := hahead a ha
    omega
  · omega
  · omega

/-! ### The detectors a report speaks of -/

/-- A detector of the report that is being read is still of its kind, its station defined. -/
def State.knows (s : State) (d : Detector) : Prop :=
  TablesRise s → ∀ e, s.detector d.num = some e → e.kind = d.kind ∧ e.station = d.station ∧ s.station d.station ≠ none

/-- What is known of a detector is known after a run. -/
theorem State.knows.congr {s t : State} {d : Detector} (h : s.knows d) (hline : SameLine s t) : t.knows d := fun hrise e he => by
  have hdetector := hline.detector d.num
  rw [he, Option.map_some] at hdetector
  obtain ⟨e', he', heq⟩ := Option.map_eq_some_iff.1 hdetector.symm
  obtain ⟨hkind, hstation, hdefined⟩ := h (hline.symm.tablesRise hrise) e' he'
  have hcommitted : e.kind = e'.kind ∧ e.station = e'.station :=
    ⟨(congrArg Detector.kind heq : e'.committed.kind = e.committed.kind).symm,
      (congrArg Detector.station heq : e'.committed.station = e.committed.station).symm⟩
  refine ⟨hcommitted.1.trans hkind, hcommitted.2.trans hstation, fun hnone => hdefined ?_⟩
  have := hline.station d.station
  rw [hnone, Option.map_none] at this
  exact Option.map_eq_none_iff.1 this.symm

/-- Where nothing stands below line start, neither does a mainline detector, as it stood in a state of the same line. -/
theorem NothingBelowStart.detector_le {s u : State} (h : NothingBelowStart u) (hready : u.lineState = .ready)
    (hline : SameLine s u) {n : Nat} {d : Detector} (hd : s.detector n = some d) (hkind : d.kind = .mainline) :
    u.lineStart ≤ d.position := by
  have hdetector := hline.detector n
  rw [hd, Option.map_some] at hdetector
  obtain ⟨e, he, heq⟩ := Option.map_eq_some_iff.1 hdetector
  have hposition : e.position = d.position := (congrArg Detector.position heq : e.committed.position = d.committed.position)
  have hsame : e.kind = d.kind := (congrArg Detector.kind heq : e.committed.kind = d.committed.kind)
  exact hposition ▸ h.detectors hready e (State.detector_mem he) (hsame.trans hkind)

/-- Where nothing stands below line start, neither does a station defined in a state of the same line. -/
theorem NothingBelowStart.stationPos_le {s u : State} (h : NothingBelowStart u) (hready : u.lineState = .ready)
    (hline : SameLine s u) {k : Nat} (hk : s.station k ≠ none) : u.lineStart ≤ s.stationPos k := by
  rw [← hline.stationPos k]
  have hstation := hline.station k
  obtain ⟨x, hx⟩ := Option.ne_none_iff_exists'.1 hk
  rw [hx, Option.map_some] at hstation
  obtain ⟨y, hy, -⟩ := Option.map_eq_some_iff.1 hstation
  simp only [State.stationPos, hy, Option.map_some, Option.getD_some]
  exact h.stations hready y (State.station_mem hy)

namespace Runs

/-! ### The pointer -/

theorem excuse (s : State) (t : Nat) : Runs s (s.excuse t) := by
  refine .change (.record s t _ (.aside ?_ ?_ ?_) ?_)
  · exact fun _ => rfl
  · exact fun _ => .inl rfl
  · exact fun _ => rfl
  · exact fun _ _ _ _ => ⟨rfl, rfl, .inl rfl⟩

theorem overdueTest (s : State) (d : Detector) (p : Pig) : Runs s (s.overdueTest d p) := by
  unfold State.overdueTest
  split
  · refine Runs.trans (.change (.record s p.tag _ (.aside ?_ ?_ ?_) ?_)) (handOn ..)
    · exact fun _ => rfl
    · exact fun _ => .inl rfl
    · exact fun _ => rfl
    · exact fun _ _ _ _ => ⟨rfl, rfl, .inl rfl⟩
  · exact .refl s

theorem settleFor (n t : Nat) (s : State) : Runs s (State.settleFor n t s) := by
  induction n generalizing s with
  | zero => exact .refl s
  | succ n ih =>
    unfold State.settleFor
    split
    · exact .refl s
    · split
      · exact .refl s
      · split
        · simp only
          split
          · exact ((overdueTest ..).trans (excuse ..)).trans (ih _)
          · exact overdueTest ..
        · exact .refl s

theorem settle (s : State) (t : Nat) : Runs s (s.settle t) := settleFor ..

theorem excuseAt (s : State) (k : Nat) : Runs s (s.excuseAt k) := by
  refine foldl _ (fun s t => ?_) _ s
  split
  · exact .refl s
  · split
    · exact settle ..
    · exact .refl s

/-! ### Fixes -/

/-- What a fix hands on behind the holds (R29), and the test of the record's window (R68). -/
theorem handedOn {s t : State} (u : Nat) (h : Runs s t.reevalAll) : Runs s ((t.handOn u).settle u) :=
  (h.trans (rearmAndExamine ..)).trans (settle ..)

theorem fixed_keepsRange (s u : State) (t x pos : Nat) (e : Evidence) :
    KeepsRange u t fun p => s.fixed p e x pos :=
  .aside (fun _ => rfl) (fun _ => .inr rfl) fun _ => rfl

/-- A fix of a record that stands in the train. -/
theorem applyFix {s : State} {t x : Nat} (e : Evidence) (ht : TablesRise s → TrainInOrder s → t ∈ s.train)
    (hx : TablesRise s → TrainInOrder s → NothingBelowStart s → s.lineState = .ready → s.lineStart ≤ x) :
    Runs s (s.applyFix t x e) := by
  refine handedOn t (.change (.moved s t _ (fixed_keepsRange s s t x _ e) ht ?_ ?_))
  · exact fun _ _ _ => rfl
  · intro p hp hrise hline
    have hready := hline.ready_of_mem (State.pig_mem hp)
    exact ⟨hline.clampFix_fits x, fun hbelow => State.lineStart_le_clampFix (hx hrise hline hbelow hready)
      (hbelow.start_le_end hready) fun a ha => hbelow.train a (mem_of_aheadOf ha)⟩

/-- A fix of a record that joins the train at an entry position. -/
theorem applyFix_joined {s : State} {t x y : Nat} {p : Pig} (e : Evidence) (hp : p ∈ s.pigs) (htag : p.tag = t)
    (hout : p.tracked = false) (hy : TablesRise s → TrainInOrder s → NothingBelowStart s → s.lineStart ≤ y) :
    Runs s ((s.joinTrain t x).applyFix t y e) := by
  refine handedOn t (.change (.joined s t x _ p (fixed_keepsRange _ s t y _ e) hp htag hout rfl fun hrise hline => ?_))
  have hmem : t ∉ s.train := hline.not_mem (htag ▸ hrise.pig_of_mem hp) hout
  have hready := hline.ready_of_mem hp
  refine ⟨hline.clampFix_joined_fits x y hmem, fun hbelow => ?_⟩
  refine State.lineStart_le_clampFix (s := s.joinTrain t x) (hy hrise hline hbelow) (hbelow.start_le_end hready) fun a ha => ?_
  rw [State.aheadOf_joinTrain x hmem] at ha
  exact hbelow.train a (State.mem_train_of_ahead (List.mem_of_getLast? ha))

/-! ### Loss, trapping and misses -/

theorem lose (s : State) (t : Nat) : Runs s (s.lose t) := by
  have hleft : Runs (s.raise .pigLost) (((s.raise .pigLost).leaveTrain t).modPig t fun p =>
      { p.markChanged with state := .lost, residue := 0, pointer := none, overdue := false }).reevalAll := by
    refine .change (.left _ t _ (.aside ?_ ?_ ?_) ?_)
    · exact fun _ => rfl
    · exact fun _ => .inr rfl
    · exact fun _ => rfl
    · exact fun _ _ => rfl
  have hraise : (s.raise .pigLost).leaveTrain t = (s.leaveTrain t).raise .pigLost := by
    by_cases ht : t ∈ s.train
    · rw [State.leaveTrain, State.leaveTrain, if_pos (show t ∈ (s.raise .pigLost).train from ht), if_pos ht]
      rfl
    · rw [State.leaveTrain, State.leaveTrain, if_neg (show t ∉ (s.raise .pigLost).train from ht), if_neg ht]
  rw [hraise] at hleft
  exact ((raise ..).trans hleft).trans (rearmAndExamine ..)

theorem trap (s : State) (t : Nat) : Runs s (s.trap t) := by
  refine Runs.trans (.change (.left s t _ (.aside ?_ ?_ ?_) ?_)) (rearmAndExamine ..)
  · exact fun _ => rfl
  · exact fun _ => .inr rfl
  · exact fun _ => rfl
  · exact fun _ _ => rfl

theorem miss {s : State} {t : Nat} (ht : t ∈ s.train) : Runs s (s.miss t) := by
  have hmissed : Runs s (s.modPig t fun p =>
      { p.markChanged with pointer := p.pointer.bind s.indexAfter, overdue := false, misses := p.misses + 1,
                           state := .unconfirmed }) := by
    refine .change (.record s t _ (.aside ?_ ?_ ?_) ?_)
    · exact fun _ => rfl
    · exact fun _ => .inl rfl
    · exact fun _ => rfl
    · exact fun _ hline p hp => ⟨rfl, rfl, .inr (.inr ⟨hline.tracked ht hp, rfl⟩)⟩
  unfold State.miss
  simp only
  split
  · exact .refl s
  · split
    · exact (hmissed.trans (handOn ..)).trans (settle ..)
    · exact hmissed.trans (lose ..)

/-! ### The advance -/

theorem advance {s : State} {t : Nat} (release : Nat) (ht : t ∈ s.train) : Runs s (s.advance release t) := by
  unfold State.advance
  split
  · exact .refl s
  · rename_i p hp
    have htag : (s.advanced p release).tag = t := (s.advanced_tag p release).trans (State.pig_tag hp)
    have hrange : KeepsRange s t fun _ => s.advanced p release :=
      .const htag fun h => State.advanced_inBounds (h p (State.pig_mem hp)) release
    have hstate : (s.advanced p release).state = p.state := by rw [State.advanced_eq]; rfl
    simp only
    split
    · rename_i hpos
      refine .change (.record s t _ hrange fun _ _ q hq => ?_)
      obtain rfl : p = q := Option.some.inj (hp.symm.trans hq)
      exact ⟨hpos, by rw [State.advanced_eq]; rfl, .inl hstate⟩
    · refine handedOn t (.change (.moved s t _ hrange (fun _ _ => ht) (fun q hq htracked => ?_) fun q hq hrise hline => ?_))
      · obtain rfl : p = q := Option.some.inj (hp.symm.trans hq)
        simpa only [Pig.tracked, hstate] using htracked
      · obtain ⟨hfits, hle⟩ := hline.advanced_fits hp ht release
        refine ⟨hfits, fun hbelow => Nat.le_trans ?_ hle⟩
        have := hbelow.train t ht
        rwa [State.pigPos, hp, Option.map_some, Option.getD_some] at this

/-- An advance leaves the train's members in their order. -/
theorem train_advance (s : State) (release t : Nat) : (s.advance release t).train = s.train := by
  cases hp : s.pig t with
  | none => simp only [State.advance, hp]
  | some p =>
    obtain rfl := State.pig_tag hp
    exact (State.advance_keepsPlace hp release).train

theorem applyRelease (s : State) (m release : Nat) : Runs s (s.applyRelease m release) := by
  unfold State.applyRelease
  split
  · exact .refl s
  · have hmembers : ∀ t ∈ s.passMembers m, t ∈ s.train := fun t ht => List.mem_of_mem_filter ht
    generalize s.passMembers m = l at hmembers
    clear * - hmembers
    induction l generalizing s with
    | nil => exact .refl s
    | cons t l ih =>
      obtain ⟨ht, hl⟩ := List.forall_mem_cons.1 hmembers
      exact (advance release ht).trans (ih _ fun u hu => by rw [train_advance]; exact hl u hu)

/-! ### The meter stage -/

theorem implausible (s : State) (m : Meter) : Runs s (s.implausible m) := by
  unfold State.implausible
  split
  · refine updMeter s m.num _ ?_ fun _ _ _ h => h
    exact fun _ => rfl
  · refine (updMeter s m.num Meter.failedNow (fun _ => rfl) fun _ _ _ _ h => absurd rfl h).trans (raise ..)

theorem measure (s : State) (m : Meter) (totalizer : Nat) : Runs s (s.measure m totalizer) := by
  unfold State.measure
  simp only
  split
  · refine (updMeter s m.num _ ?_ fun _ _ _ _ h => absurd rfl h).trans (applyRelease ..)
    exact fun _ => rfl
  · exact implausible ..

theorem meterStage {s : State} {m : Meter} (hm : m ∈ s.meters) (totalizer : Nat) :
    Runs s (s.meterStage m totalizer) := by
  unfold State.meterStage
  split
  · rename_i hstate
    refine updMeter s m.num _ ?_ fun hrise y hy hsound hprovisional => ?_
    · exact fun _ => rfl
    · obtain rfl : m = y := Option.some.inj ((hrise.meter_of_mem hm).symm.trans hy)
      have := hsound hprovisional
      rw [hstate] at this
      rcases this with h | h <;> cases h
  · exact measure ..
  · exact measure ..
  · exact measure ..
  · exact .refl s

theorem outage_sound (m : Meter) (h : m.provisionalSound) : m.outage.provisionalSound := by
  unfold Meter.outage
  cases hstate : m.state with
  | live =>
    dsimp only
    split
    · exact fun h => absurd rfl h
    · exact fun _ => .inl rfl
  | baselinePending => exact h
  | extrapolating => exact h
  | stale => exact h
  | failed => exact h

theorem outage_rebased (m : Meter) : m.outage.rebased = m.rebased := by
  unfold Meter.outage
  split
  · split <;> rfl
  all_goals rfl

theorem stationOutage (s : State) (k : Nat) : Runs s (s.stationOutage k) := by
  unfold State.stationOutage
  split
  · exact .refl s
  · exact updMeter _ _ _ outage_rebased fun _ y _ => outage_sound y

/-! ### The detectors -/

theorem afterReport_committed (d : Detector) (sh : Shown) (taker : Option Nat) :
    (d.afterReport sh taker).committed = d.committed := by
  unfold Detector.afterReport
  split <;> rfl

/-- A report leaves a detector as it is, makes it ARMED or FAULTED, or finds it TRIPPED (R93, R94). -/
theorem afterReport_cases (d : Detector) (sh : Shown) (taker : Option Nat) :
    d.afterReport sh taker = d ∨ d.afterReport sh taker = d.arm ∨ d.afterReport sh taker = d.fail ∨
      (d.afterReport sh taker).state = .tripped := by
  unfold Detector.afterReport
  split <;> simp

/-- A report takes a detector that leaves TRIPPED out of its re-arm set (R94, R95). -/
theorem afterReport_sound (d : Detector) (sh : Shown) (taker : Option Nat) (h : d.rearmSound) :
    (d.afterReport sh taker).rearmSound := by
  rcases afterReport_cases d sh taker with heq | heq | heq | htripped
  · rwa [heq]
  · rw [heq]
    exact fun hin => by cases hin
  · rw [heq]
    exact fun hin => by cases hin
  · exact fun _ => htripped

theorem detectorReads (s : State) (d : Nat) (sh : Shown) (taker : Option Nat) : Runs s (s.detectorReads d sh taker) :=
  (updDetector s d _ (fun d => afterReport_committed d sh taker) fun _ d _ => afterReport_sound d sh taker).trans
    (rearmTest ..)

theorem spurious (s : State) (n : Nat) : Runs s (s.spurious n) := by
  unfold State.spurious
  split
  · exact .refl s
  · rename_i d _
    have hcount : Runs s (s.updDetector n fun y =>
        { y with spurious := min (y.spurious + 1) 3, suspect := d.suspect || decide (d.spurious = 2) }) := by
      refine updDetector s n _ ?_ fun _ _ _ h => h
      exact fun _ => rfl
    simp only
    split
    · exact hcount.trans (raise ..)
    · exact hcount

theorem matchedAt (s : State) (d t : Nat) : Runs s (s.matchedAt d t) := by
  refine updDetector s d _ ?_ fun _ _ _ h => h
  exact fun _ => rfl

theorem rearmReply (s : State) (n : Nat) (r : Reply) : Runs s (s.rearmReply n r) := by
  have hfail : Runs s (s.updDetector n Detector.fail) :=
    updDetector s n Detector.fail (fun _ => rfl) fun _ _ _ _ h => by cases h
  unfold State.rearmReply
  split
  · exact .refl s
  · split
    · cases r with
      | accepted =>
        refine updDetector s n _ ?_ fun _ _ _ _ h => by cases h
        exact fun _ => rfl
      | refusedFault => exact hfail
      | unknownTarget => exact hfail
      | refusedLocal => exact .refl s
      | none => exact .refl s
    · exact .refl s

theorem confirmationLapses (s : State) (n : Nat) : Runs s (s.confirmationLapses n) := by
  refine Runs.trans (updDetector s n _ ?_ fun _ _ _ _ _ => rfl) (rearmTest ..)
  exact fun _ => rfl

/-! ### Trips -/

theorem trips_learn (s : State) (p : Pig) (d : Detector) (q : Nat) (h : p.slip ≤ 250) : s.slipAfter p d q ≤ 250 := by
  unfold State.slipAfter
  split
  · exact learnedSlip_le h
  · exact h

theorem matchTrip {s : State} {d : Detector} {p : Pig} (q : Nat) (early : Bool) (hd : s.detector d.num = some d)
    (hkind : TablesRise s → d.kind = .mainline) (hp : p ∈ s.pigs) (ht : p.tag ∈ s.train) :
    Runs s (s.matchTrip d p q early) := by
  have hnoted : Runs s ((s.matchedAt d.num p.tag).note .passage) := (matchedAt ..).trans (note ..)
  have hsame : RecordsKeepPlace s ((s.matchedAt d.num p.tag).note .passage) :=
    (RecordsKeepPlace.updDetector ..).trans (.note ..)
  have hpigs : ((s.matchedAt d.num p.tag).note .passage).pigs = s.pigs := by
    simp only [State.matchedAt, State.updDetector_of_some _ hd]
    rfl
  have hlearned : Runs ((s.matchedAt d.num p.tag).note .passage) (((s.matchedAt d.num p.tag).note .passage).modPig p.tag
      fun y => { y with slip := s.slipAfter p d q }) := by
    refine .change (.record _ p.tag _ ⟨fun _ h => h, fun hb y hy => ?_⟩ fun _ _ _ _ => ⟨rfl, rfl, .inl rfl⟩)
    have hslip := (hb p (hpigs ▸ hp)).2.1
    exact ⟨hy.1, trips_learn s p d q hslip, hy.2.2.1, hy.2.2.2⟩
  have hbefore := hnoted.trans hlearned
  have hline := SameLine.of_runs hbefore
  refine hbefore.trans (applyFix _ (fun _ _ => ?_) fun hrise _ hbelow hready => ?_)
  · exact hsame.train ▸ ht
  · exact Nat.le_trans (hbelow.detector_le hready hline hd (hkind (hline.symm.tablesRise hrise))) (Nat.le_add_right ..)

/-- The record a trip would recover is LOST. -/
theorem recoverable_lost {s : State} {d : Detector} {p : Pig} (h : s.recoverable d = some p) :
    p ∈ s.pigs ∧ p.state = .lost := by
  have hmem : p ∈ s.lostSet := by
    refine (foldl_picks _ (fun b a c hc => ?_) s.lostSet none h).resolve_left fun h => by cases h
    split at hc
    · exact .inl hc
    · split at hc
      · exact .inr (Option.some.inj hc)
      · split at hc
        · exact .inr (Option.some.inj hc)
        · exact .inl hc
  obtain ⟨hpigs, hstate⟩ := List.mem_filter.1 hmem
  exact ⟨hpigs, by simpa using hstate⟩

/-- The record expected at a detector is a member of the train (R73). -/
theorem expected_mem {s : State} {d : Detector} {p : Pig} (h : s.expected d = some p) : p ∈ s.pigs ∧ p.tag ∈ s.train := by
  unfold State.expected at h
  split at h
  · cases h
  · obtain ⟨t, ht, hp⟩ := Option.bind_eq_some_iff.1 h
    exact ⟨State.pig_mem hp, State.pig_tag hp ▸ List.mem_of_find?_eq_some ht⟩

theorem recover {s : State} {d : Detector} {p : Pig} (age : Nat) (hd : s.detector d.num = some d)
    (hkind : TablesRise s → d.kind = .mainline) (hp : p ∈ s.pigs) (hlost : p.state = .lost) :
    Runs s (s.recover d p age) := by
  have hnoted : Runs s ((s.matchedAt d.num p.tag).note .passage) := (matchedAt ..).trans (note ..)
  have hpigs : ((s.matchedAt d.num p.tag).note .passage).pigs = s.pigs := by
    simp only [State.matchedAt, State.updDetector_of_some _ hd]
    rfl
  have hline := SameLine.of_runs hnoted
  refine hnoted.trans (applyFix_joined _ (hpigs ▸ hp) rfl (by simp [Pig.tracked, hlost]) fun hrise horder hbelow => ?_)
  have hready := horder.ready_of_mem (hpigs ▸ hp)
  exact Nat.le_trans (hbelow.detector_le hready hline hd (hkind (hline.symm.tablesRise hrise))) (Nat.le_add_right ..)

theorem offerLost {s : State} {d : Detector} (age : Nat) (hd : s.detector d.num = some d)
    (hkind : TablesRise s → d.kind = .mainline) : Runs s (s.offerLost d age).1 := by
  unfold State.offerLost
  split
  · rename_i p hp
    obtain ⟨hmem, hlost⟩ := recoverable_lost hp
    exact recover age hd hkind hmem hlost
  · exact spurious ..

theorem mainlineTrip {s : State} {n : Nat} (age : Nat)
    (hkind : TablesRise s → ∀ d, s.detector n = some d → d.kind = .mainline) : Runs s (s.mainlineTrip n age).1 := by
  unfold State.mainlineTrip
  split
  · exact .refl s
  · rename_i d hd
    obtain rfl := State.detector_num hd
    have hmainline : TablesRise s → d.kind = .mainline := fun hrise => hkind hrise d hd
    split
    · exact .refl s
    · split
      · exact offerLost age hd hmainline
      · rename_i p hp
        obtain ⟨hmem, htrain⟩ := expected_mem hp
        simp only
        split
        · exact matchTrip _ _ hd hmainline hmem htrain
        · split
          · exact matchTrip _ _ hd hmainline hmem htrain
          · exact offerLost age hd hmainline

theorem launchFix {s : State} {k t : Nat} {p : Pig} (d : Detector) (age : Nat) (hk : TablesRise s → s.station k ≠ none)
    (hp : p ∈ s.pigs) (htag : p.tag = t) (hout : p.tracked = false) : Runs s (s.launchFix k d t age) := by
  refine applyFix_joined _ hp htag hout fun hrise horder hbelow => ?_
  exact Nat.le_trans (hbelow.stationPos_le (horder.ready_of_mem hp) (.refl s) (hk hrise))
    (Nat.le_add_right ..)

theorem exitTaken (s : State) (k : Nat) : Runs s (s.exitTaken k) := by
  unfold State.exitTaken
  simp only
  split
  · rename_i hstate
    exact goOnAfter s k .l5 (State.occupied_of_slotOf (by rw [hstate]; decide))
  · split
    · exact updSlotWithin s k _ (fun _ => rfl) (fun _ => rfl) fun _ => rfl
    · exact updSlotWithin s k _ (fun _ => rfl) (fun _ => rfl) fun _ => rfl
  · exact updSlotWithin s k _ (fun _ => rfl) (fun _ => rfl) fun _ => rfl

theorem exitTrip {s : State} {n : Nat} (age : Nat)
    (hstation : TablesRise s → ∀ d, s.detector n = some d → s.station d.station ≠ none) : Runs s (s.exitTrip n age).1 := by
  unfold State.exitTrip
  split
  · exact .refl s
  · rename_i d hd
    have hk : TablesRise s → s.station d.station ≠ none := fun hrise => hstation hrise d hd
    simp only
    split
    · rename_i p _ hbound
      obtain ⟨hp, hstaged⟩ := Option.filter_eq_some_iff.1 hbound
      obtain ⟨t, -, ht⟩ := Option.bind_eq_some_iff.1 hp
      have hout : p.tracked = false := by simp only [Pig.tracked, eq_of_beq hstaged]; rfl
      exact (launchFix d age hk (State.pig_mem ht) rfl hout).trans (exitTaken ..)
    · split
      · rename_i p _ hfailed
        have hstate := List.find?_some hfailed
        simp only [Bool.and_eq_true, beq_iff_eq] at hstate
        exact launchFix d age hk (List.mem_of_find?_eq_some hfailed) rfl (by simp only [Pig.tracked, hstate.1]; rfl)
      · exact spurious ..

end Runs

/-! ### Idle slots -/

theorem State.slotOf_strikeTest (s : State) (v j : Nat) : (s.strikeTest v).slotOf j = s.slotOf j := by
  unfold State.strikeTest
  split
  · rfl
  · split
    · exact s.slotOf_applyHold ..
    · rfl

theorem State.slotOf_serve (s : State) (k j : Nat) : (s.serve k).slotOf j = s.slotOf j := by
  have hstation : (s.serve k).station j = (s.station j).map fun x => x.waited k := by
    unfold State.serve State.station
    rw [List.find?_map]
    congr 2
    funext x
    simp only [Function.comp_apply, Station.waited]
    split <;> rfl
  rw [State.slotOf, hstation, State.slotOf]
  cases s.station j with
  | none => rfl
  | some x =>
    simp only [Option.map_some, Option.getD_some, Station.waited]
    split <;> rfl

/-- An idle slot stays of no kind through every change. -/
theorem Change.idleIsBlank {s t : State} (h : Change s t) (k : Nat) (hs : (s.slotOf k).idleIsBlank) :
    (t.slotOf k).idleIsBlank := by
  cases h with
  | reevalValve v => rwa [State.slotOf_reevalValve]
  | station j f hdef hkept =>
    have hnum : ∀ x, (f x).num = x.num := fun x => Station.num_of_definition (hdef x)
    by_cases hj : k = j
    · subst hj
      cases hx : s.station k with
      | none =>
        have hnone := s.station_modStation k k f hnum
        rw [hx] at hnone
        simp only [State.slotOf, hnone]
        exact fun _ => rfl
      | some x =>
        rw [State.slotOf_of_some (State.station_modStation_self f hnum hx)]
        rw [State.slotOf_of_some hx] at hs
        exact (hkept x hx).2.2 hs
    · rwa [State.slotOf, s.station_modStation_ne f hnum hj]
  | reseat j f hblank =>
    rw [State.slotOf_reevalStation]
    by_cases hj : k = j
    · subst hj
      cases hx : s.station k with
      | none => rwa [State.updSlot_of_none f hx]
      | some x =>
        rw [State.slotOf_updSlot_self f hx]
        exact hblank _
    · rwa [State.slotOf_updSlot_ne s f hj]
  | serve j => rwa [State.slotOf_serve]
  | link l => exact hs
  | detector n f hdef hrearm => exact hs
  | valve n f hdef hkept => exact hs
  | enqueue v t o hv => rwa [State.slotOf_enqueue]
  | endCommand v o hv => rwa [State.slotOf_endCommand]
  | accept v c hv =>
    rw [State.slotOf_modStation]
    · exact hs
    · exact fun _ => rfl
    · exact fun _ => rfl
  | meter n f hdef hsound => exact hs
  | record u f hrange hsteady => exact hs
  | moved u f hrange ht htracked hfits => rwa [State.slotOf_reevalAll]
  | joined u x f p hrange hp htag hout hin hfits => rwa [State.slotOf_reevalAll]
  | left u f hrange hout =>
    rw [State.slotOf_reevalAll]
    unfold State.leaveTrain
    split <;> exact hs
  | raise c => exact hs
  | note c => exact hs
  | due l => exact hs
  | choices n => exact hs

namespace Runs

/-- An idle slot stays of no kind through every run. -/
theorem idleIsBlank {s t : State} (h : Runs s t) (k : Nat) (hs : (s.slotOf k).idleIsBlank) : (t.slotOf k).idleIsBlank := by
  induction h with
  | refl s => exact hs
  | change h => exact h.idleIsBlank k hs
  | trans _ _ ih ih' => exact ih' (ih hs)
  | debounce n v c hv h ih =>
    rw [State.slotOf_strikeTest]
    exact ih (by rwa [State.slotOf_updValve])

/-- A slot of no kind has no forward steps left, so that its sequence ends (R148). -/
theorem goOnAfter_of_blank {s : State} {k : Nat} (p : SeqStep) (h : (s.slotOf k).idleIsBlank) : Runs s (s.goOnAfter k p) := by
  by_cases hidle : (s.slotOf k).state = .idle
  · unfold State.goOnAfter
    rw [h hidle]
    exact endSequence ..
  · exact goOnAfter s k p (State.occupied_of_slotOf hidle)

theorem arrivalTrip (s : State) (n : Nat) : Runs s (s.arrivalTrip n).1 := by
  unfold State.arrivalTrip
  split
  · exact .refl s
  · rename_i d _
    simp only
    split
    · rename_i p _ _
      have htrap := trap s p.tag
      split
      · rename_i hstate
        refine htrap.trans (goOnAfter_of_blank _ (htrap.idleIsBlank _ ?_))
        exact Slot.idleIsBlank_of_active (by rw [hstate]; decide)
      · dsimp only
        refine htrap.trans (updSlotWithin (s.trap p.tag) d.station _ ?_ ?_ ?_)
        all_goals exact fun _ => rfl
    · exact spurious ..

/-! ### The detector stage -/

theorem trip {s : State} {d : Detector} (age : Nat) (hd : s.knows d) : Runs s (s.trip d age).1 := by
  unfold State.trip
  split
  · refine exitTrip age fun hrise e he => ?_
    exact (hd hrise e he).2.1 ▸ (hd hrise e he).2.2
  · rename_i hkind
    exact mainlineTrip age fun hrise e he => (hd hrise e he).1.trans hkind
  · exact arrivalTrip ..

theorem trips {s : State} {d : Detector} (age n : Nat) (hd : s.knows d) : Runs s (s.trips d age n).1 := by
  induction n with
  | zero => exact .refl s
  | succ n ih => exact ih.trans (trip age (hd.congr (SameLine.of_runs ih)))

theorem decideRecord (d : Detector) (sh : Shown) (i : Nat) (s : State) (t : Nat) :
    Runs s (State.decideRecord d sh i s t) := by
  unfold State.decideRecord
  split
  · exact .refl s
  · split
    · rename_i hpending
      split
      · exact miss hpending.2.2
      · exact (excuse ..).trans (settle ..)
    · exact .refl s

theorem detectorPart {s : State} {d : Detector} (sh : Shown) (age : Nat) (pending : List Nat) (hd : s.knows d) :
    Runs s (s.detectorPart d sh age pending) := by
  have htrips := trips age (d.newTrips sh) hd
  unfold State.detectorPart
  simp only
  refine Runs.trans ?_ (detectorReads ..)
  split
  · exact htrips.trans (foldl _ (decideRecord d sh _) _ _)
  · exact htrips

/-- The detectors of a station's stage are its own, found under their numbers where the tables rise. -/
theorem stageOrder_mem {s : State} {k : Nat} {d : Detector} (h : d ∈ s.stageOrder k) : d ∈ s.detectors ∧ d.station = k := by
  have hown : d ∈ s.detectorsOf k := by
    unfold State.stageOrder at h
    rcases List.mem_append.1 h with h | h
    · rcases List.mem_append.1 h with h | h
      · exact List.mem_of_mem_filter h
      · obtain ⟨n, -, hn⟩ := List.mem_filterMap.1 h
        exact List.mem_of_find?_eq_some hn
    · exact List.mem_of_mem_filter h
  obtain ⟨hmem, hk⟩ := List.mem_filter.1 hown
  exact ⟨hmem, by simpa using hk⟩

theorem detectorStage {s : State} {k : Nat} (shown : Nat → Shown × Nat) (hk : s.station k ≠ none) :
    Runs s (s.detectorStage k shown) := by
  unfold State.detectorStage
  have hknows : ∀ x ∈ (s.stageOrder k).map fun d => (d, ((s.indexOf d.num).map s.overdueAt).getD []), s.knows x.1 := by
    intro x hx
    obtain ⟨d, hd, rfl⟩ := List.mem_map.1 hx
    obtain ⟨hmem, hstation⟩ := stageOrder_mem hd
    intro hrise e he
    obtain rfl : d = e := Option.some.inj ((hrise.detector_of_mem hmem).symm.trans he)
    exact ⟨rfl, rfl, hstation ▸ hk⟩
  simp only
  generalize (s.stageOrder k).map (fun d => (d, ((s.indexOf d.num).map s.overdueAt).getD [])) = l at hknows
  clear hk
  induction l generalizing s with
  | nil => exact .refl s
  | cons x l ih =>
    obtain ⟨hx, hl⟩ := List.forall_mem_cons.1 hknows
    have hpart := detectorPart (shown x.1.slot).1 (shown x.1.slot).2 x.2 hx
    exact hpart.trans (ih fun y hy => (hl y hy).congr (SameLine.of_runs hpart))

end Runs

end Sys2Proof.Machine
end

section
/-! SUPPORT. The Station Link, Valve Control, the timers and the requests make runs of elementary changes. -/

namespace Sys2Proof.Machine

namespace Runs

/-! ### Ends of commands -/

theorem endQueued (s : State) (k : Nat) (o : ValveOutcome) : Runs s (s.endQueued k o) :=
  foldl _ (fun s v => finishCommand s v o) _ s

/-- A change of an outstanding command that leaves its phase. -/
theorem command {s : State} {v : Nat} {y : Valve} {c : Command} (c' : Command) (hy : s.valve v = some y)
    (hc : y.command = some c) (hphase : c'.phase = c.phase) :
    Runs s (s.modValve v fun x => { x with command := some c' }) := by
  refine .change (.valve s v _ ?_ fun x hx => ?_)
  · exact fun _ => rfl
  · obtain rfl : y = x := Option.some.inj (hy.symm.trans hx)
    exact ⟨by simp only [hc, Option.map_some, hphase], rfl, rfl, rfl⟩

theorem withdrawQueued (s : State) (m : LapseMark) (v : Nat) : Runs s (s.withdrawQueued m v) := by
  unfold State.withdrawQueued
  split
  · exact .refl s
  · rename_i c hc
    obtain ⟨y, hy, hcommand⟩ := Option.bind_eq_some_iff.1 hc
    split
    · refine command (c.mark m) hy hcommand ?_
      unfold Command.mark
      split <;> rfl
    · exact finishCommand ..

theorem withdrawQueue (s : State) (m : LapseMark) (k : Nat) : Runs s (s.withdrawQueue m k) :=
  foldl _ (fun s v => withdrawQueued s m v) _ s

/-! ### A station's state -/

theorem enterOut (s : State) (k : Nat) (c : OutCause) : Runs s (s.enterOut k c) :=
  (((updLink ..).trans (stationOutage ..)).trans (excuseAt ..)).trans (endQueued ..)

theorem enterProving (s : State) (k : Nat) : Runs s (s.enterProving k) := updLink ..

theorem becomeSilent (s : State) (k : Nat) : Runs s (s.becomeSilent k) := by
  refine Runs.trans ?_ (raise ..)
  have hsilent := (updLink s k fun x => { x with state := .silent }).trans (excuseAt _ k)
  split
  · exact hsilent.trans (endQueued ..)
  · exact hsilent

/-! ### Replies -/

theorem replyNone (s : State) (v : Nat) : Runs s (s.replyNone v) := by
  unfold State.replyNone
  split
  · exact .refl s
  · rename_i x hx
    split
    · exact .refl s
    · rename_i c hc
      have hfreed := command c.notCarried hx hc rfl
      simp only
      split
      · exact hfreed.trans (finishCommand ..)
      · split
        · exact hfreed.trans (finishCommand ..)
        · exact hfreed

theorem valveReply (s : State) (v : Nat) (r : Reply) : Runs s (s.valveReply v r) := by
  unfold State.valveReply
  split
  · exact .refl s
  · rename_i x hx
    split
    · exact .refl s
    · split
      · exact .refl s
      · cases r with
        | none => exact replyNone ..
        | accepted => exact (acceptCommand s x _ (State.valve_mem hx)).trans (strokeTest ..)
        | refusedLocal => exact finishCommand ..
        | refusedFault => exact finishCommand ..
        | unknownTarget => exact finishCommand ..

theorem commandReply (s : State) (item : Carried) (r : Reply) : Runs s (s.commandReply item r) := by
  cases item with
  | nothing => exact .refl s
  | valve v => exact valveReply ..
  | rearm d => exact rearmReply ..

theorem silenceTest (s : State) (k : Nat) : Runs s (s.silenceTest k) := by
  unfold State.silenceTest
  split
  · exact .refl s
  · split
    · exact becomeSilent ..
    · exact .refl s

theorem missedReply (s : State) (k : Nat) (item : Carried) : Runs s (s.missedReply k item) :=
  (((updLink ..).trans (stationOutage ..)).trans (commandReply ..)).trans (silenceTest ..)

/-! ### The stages of a report -/

theorem valvePart (s : State) (v : Nat) (c : PositionCode) : Runs s (s.valvePart v c) := by
  unfold State.valvePart
  split
  · exact .refl s
  · rename_i x hx
    simp only
    split
    · rename_i hsame
      refine updValve s v _ ?_ fun y hy => ?_
      · exact fun _ => rfl
      · obtain rfl : x = y := Option.some.inj (hx.symm.trans hy)
        exact ⟨rfl, hsame, rfl, rfl⟩
    · exact .debounce v x c hx (strokeTest ..)

theorem valveStage (s : State) (k : Nat) (r : Report) : Runs s (s.valveStage k r) := by
  refine foldl _ (fun s x => ?_) _ s
  split
  · exact .refl s
  · exact valvePart ..

theorem reportMeter (s : State) (k : Nat) (r : Report) : Runs s (s.reportMeter k r) := by
  unfold State.reportMeter
  split
  · rename_i hm _
    exact meterStage (List.mem_of_find?_eq_some hm) _
  · exact .refl s

/-- A station stays defined through a run. -/
theorem station_ne_none {s t : State} (h : Runs s t) {k : Nat} (hk : s.station k ≠ none) : t.station k ≠ none := fun hnone => by
  have := (SameLine.of_runs h).station k
  rw [hnone, Option.map_none] at this
  exact hk (Option.map_eq_none_iff.1 this.symm)

theorem processReport {s : State} {k : Nat} (item : Carried) (r : Report) (hk : s.station k ≠ none) :
    Runs s (s.processReport k item r) := by
  have hmeter := (updLink s k LinkRecord.heard).trans (reportMeter _ k r)
  have hdetectors := hmeter.trans (detectorStage r.shown (hmeter.station_ne_none hk))
  exact ((hdetectors.trans (valveStage _ k r)).trans (updLink _ k fun x => x.withFlags r)).trans (commandReply ..)

theorem freeLink (s : State) : Runs s s.freeLink := .change (.link s _)

theorem setFate (s : State) (f : SlotFate) : Runs s (s.setFate f) := .change (.link s _)

theorem judged (s : State) (k : Nat) (item : Carried) (frame : List Byte) : Runs s (s.judged k item frame) := by
  unfold State.judged
  split
  · exact .refl s
  · rename_i x hx
    have hk : s.station k ≠ none := by rw [hx]; exact Option.some_ne_none x
    split
    · exact missedReply ..
    · split
      · split
        · exact processReport _ _ hk
        · exact missedReply ..
      · split
        · have hproven := updLink s k LinkRecord.nowProven
          exact hproven.trans (processReport _ _ (hproven.station_ne_none hk))
        · exact (commandReply ..).trans (enterOut ..)

theorem receive (s : State) (frame : List Byte) : Runs s (s.receive frame) := by
  unfold State.receive
  split
  · exact .refl s
  · split
    · split
      · exact (freeLink s).trans (judged ..)
      · exact freeLink s
      · exact .refl s
    · exact .refl s

theorem replyExpires (s : State) : Runs s s.replyExpires := by
  unfold State.replyExpires
  split
  · exact .refl s
  · split
    · exact (freeLink s).trans (missedReply ..)
    · exact (freeLink s).trans (missedReply ..)
    · exact freeLink s

/-! ### Polls -/

theorem testHeads (n k : Nat) (s : State) : Runs s (State.testHeads n k s).1 := by
  induction n generalizing s with
  | zero => exact .refl s
  | succ n ih =>
    unfold State.testHeads
    split
    · exact .refl s
    · rename_i v hv
      split
      · exact .refl s
      · rename_i c hc
        split
        · exact (finishCommand ..).trans (ih _)
        · obtain ⟨u, -, hu⟩ := Option.bind_eq_some_iff.1 hv
          obtain rfl := State.valve_num hu
          exact command c.nowCarried hu hc rfl

theorem chooseItem (s : State) (k : Nat) : Runs s (s.chooseItem k).1 := by
  have hheads := testHeads 32 k s
  unfold State.chooseItem
  split <;> rename_i heq <;> rw [heq] at hheads
  · exact hheads
  · split <;> exact hheads

theorem startSlot (s : State) (k : Nat) : Runs s (s.startSlot k) :=
  ((Runs.change (.serve s k)).trans (chooseItem ..)).trans (.change (.link _ _))

theorem pollSlot (s : State) : Runs s s.pollSlot := by
  unfold State.pollSlot
  split
  · split
    · exact .refl s
    · exact startSlot ..
  · exact .refl s

/-! ### Expiries -/

theorem beginTail {s : State} {k : Nat} (c : SeqOutcome) (f : Option (Role × ValveOutcome))
    (h : (s.slotOf k).state ≠ .idle) : Runs s (s.beginTail k c f) :=
  beginTailBy endSequence s k c f (State.occupied_of_slotOf h)

theorem pauseExpires {s : State} {k : Nat} (h : (s.slotOf k).state ≠ .idle) : Runs s (s.pauseExpires k) := by
  unfold State.pauseExpires
  split
  · exact .refl s
  · split
    · exact goOnAtBy endSequence s k _ (State.occupied_of_slotOf h)
    · exact beginTail _ _ h

/-- The timer of a slot's expiry runs only in an active slot (R139). -/
theorem active_of_timerStands {s : State} {e : Expiry} {k : Nat} (h : s.timerStands e = true)
    (he : e = .holdWait k ∨ e = .launchExit k ∨ e = .arrival k ∨ e = .pause k) : (s.slotOf k).state ≠ .idle := by
  intro hidle
  have hcount : s.timerCount e = none := by
    rcases he with rfl | rfl | rfl | rfl <;>
      simp [State.timerCount, Slot.awaitsExit, Slot.awaitsArrival, hidle]
  simp only [State.timerStands, hcount] at h
  cases h

theorem expiryActs {s : State} {e : Expiry} (h : s.timerStands e = true) : Runs s (s.expiryActs e) := by
  cases e with
  | meterStale m =>
    refine updMeter s m _ ?_ fun _ _ _ _ _ => .inr rfl
    exact fun _ => rfl
  | stroke v => exact finishCommand ..
  | delivery v => exact withdrawQueued ..
  | confirmation d => exact confirmationLapses ..
  | holdWait k => exact beginTail _ _ (active_of_timerStands h (.inl rfl))
  | launchExit k => exact beginTail _ _ (active_of_timerStands h (.inr (.inl rfl)))
  | arrival k => exact beginTail _ _ (active_of_timerStands h (.inr (.inr (.inl rfl))))
  | pause k => exact pauseExpires (active_of_timerStands h (.inr (.inr (.inr rfl))))

theorem expire (s : State) (e : Expiry) : Runs s (s.expire e) := by
  unfold State.expire
  split
  · have hdue : Runs s { s with due := s.due.filter (· ≠ e) } := .change (.due s _)
    simp only
    split
    · exact hdue.trans (expiryActs ‹_›)
    · exact hdue
  · exact .refl s

/-! ### The second -/

theorem makeDue (s : State) (e : Expiry) : Runs s (s.makeDue e) := by
  unfold State.makeDue
  split
  · exact .refl s
  · exact .change (.due s _)

theorem markDue (s : State) : Runs s s.markDue := foldl _ makeDue _ s

theorem autoStart (s : State) (k : Nat) : Runs s (s.autoStart k) := by
  unfold State.autoStart
  split
  · exact .refl s
  · exact startReceive ..

theorem staleTest (s : State) (m : Nat) : Runs s (s.staleTest m) := by
  unfold State.staleTest
  split
  · exact (makeDue ..).trans (expire ..)
  · exact .refl s

theorem extrapolate (s : State) (m : Nat) : Runs s (s.extrapolate m) := by
  unfold State.extrapolate
  split
  · exact .refl s
  · rename_i x hx
    split
    · rename_i hstate
      split
      · exact staleTest ..
      · refine ((updMeter s m _ ?_ fun _ y hy _ _ => ?_).trans (applyRelease ..)).trans (staleTest ..)
        · exact fun _ => rfl
        · obtain rfl : x = y := Option.some.inj (hx.symm.trans hy)
          exact .inl hstate
    · exact .refl s

/-! ### Requests -/

theorem unbar (s : State) (t : Nat) : Runs s (s.unbar t) := by
  refine foldl _ (fun s k => updSlotWithin s k _ ?_ ?_ ?_) _ s
  all_goals exact fun _ => rfl

theorem amend {s : State} (f : AmendFrame) : Runs s (s.amend f) := by
  have hamended : Runs s (s.modPig f.tag.toNat (amendedPig f)) := by
    refine .change (.record s _ _ ⟨fun _ h => h, fun _ p hp => ⟨hp.1, ?_, hp.2.2.1, hp.2.2.2⟩⟩
      fun _ _ _ _ => ⟨rfl, rfl, .inl rfl⟩)
    simp only [amendedPig]
    split
    · exact Nat.min_le_right ..
    · exact hp.2.1
  unfold State.amend
  simp only
  split
  · exact hamended.trans (unbar ..)
  · exact hamended

theorem holdsChanged (s : State) : Runs s s.holdsChanged := (reevalAll s).trans (examineAll _)

theorem retuned (s : State) (x : Station) : Runs s (s.retuned x) := by
  unfold State.retuned
  simp only
  split
  · exact (examine ..).trans (withdrawQueue ..)
  · exact examine ..

theorem takeOut (s : State) (k : Nat) : Runs s (s.takeOut k) := by
  unfold State.takeOut
  split
  · exact updLink ..
  · refine Runs.trans ?_ (enterOut ..)
    unfold State.discardFrameOf
    split
    · exact setFate ..
    · exact .refl s

theorem takeIn (s : State) (k : Nat) : Runs s (s.takeIn k) := by
  unfold State.takeIn
  split
  · exact enterProving ..
  · exact .refl s

theorem continueAt (s : State) (k : Nat) : Runs s (s.continueAt k) := by
  unfold State.continueAt
  simp only
  split
  · rename_i hstate _
    exact goOnAtBy endSequence s k _ (State.occupied_of_slotOf (by rw [hstate]; decide))
  · exact updSlotWithin s k _ (fun _ => rfl) (fun _ => rfl) fun _ => rfl

theorem abortAt {s : State} {k : Nat} (h : (s.slotOf k).state ≠ .idle) : Runs s (s.abortAt k) := by
  unfold State.abortAt
  simp only
  split
  · rename_i hv
    exact cutShortBy endSequence s k _ _ (stepValve_mem hv).1 (State.occupied_of_slotOf h)
  · exact beginTail _ _ h

/-- A change of each slot of some stations that leaves their states, kinds and records. -/
theorem eachSlot (s : State) (f : Slot → Slot)
    (hf : ∀ x, (f x).state = x.state ∧ (f x).bound = x.bound ∧ (f x).kind = x.kind) (l : List Nat) : Runs s (l.foldl (fun s k => s.updSlot k f) s) :=
  foldl _ (fun s k => updSlotWithin s k f (fun x => (hf x).1) (fun x => (hf x).2.1) fun x => (hf x).2.2) l s

end Runs

end Sys2Proof.Machine
end

section
/-! SUPPORT. What a command does: a run of elementary changes, or one of the acts that change the line's definitions, the
Pig Table's tags, the arithmetic of the holds, or what no rule of the invariants reads. -/

namespace Sys2Proof.Machine

/-- A change of a station's definition that keeps its number and its position, its queue and its slot. -/
structure Station.Tuned (f : Station → Station) : Prop where
  num : ∀ x, (f x).num = x.num
  position : ∀ x, (f x).position = x.position
  queue : ∀ x, (f x).queue = x.queue
  slot : ∀ x, (f x).slot = x.slot

/-- A valve's tuning (R8). -/
def Valve.tuned (guardVol strokeTimeout : Nat) (v : Valve) : Valve :=
  { v with guardVol := guardVol, strokeTimeout := strokeTimeout }

/-- A meter's tuning (R8). -/
def Meter.tuned (maxRate holdTime : Nat) (m : Meter) : Meter := { m with maxRate := maxRate, holdTime := holdTime }

/-- The arithmetic of the hold intervals changed (R10, R11). -/
def State.gauged (s : State) (profiles : List Profile) (params : Parameters) : State :=
  { s with profiles := profiles, params := params }

/-- What a command does, from state to state. One that is not loud leaves the port, the Line Clock and the alert causes set
as they are. -/
inductive Acts (loud : Bool) : State → State → Prop
  | runs {s t : State} (h : Runs s t) : Acts loud s t
  | trans {s t u : State} (h : Acts loud s t) (g : Acts loud t u) : Acts loud s u
  /-- What no invariant reads. -/
  | aside (s : State) (port : Port) (attention : Attention) (lineTrip : Bool) (commitFault : Option (Nat × Nat))
      (pending : List Instr) (hquiet : loud = true ∨ port = s.port ∧ attention.alerts = s.attention.alerts) :
      Acts loud s { s with
        port := port, attention := attention, lineTrip := lineTrip, commitFault := commitFault, pending := pending }
  | tick (s : State) (hloud : loud = true) : Acts loud s s.tick
  | tuneStation (s : State) (k : Nat) (f : Station → Station) (hf : Station.Tuned f) : Acts loud s (s.modStation k f)
  | tuneValve (s : State) (v g c : Nat) (hline : s.lineState = .unconfigured) :
      Acts loud s (s.modValve v (Valve.tuned g c))
  /-- A valve's new zone, and at once the hold it gives (R8, R119). -/
  | rezone (s : State) (v g c : Nat) : Acts loud s ((s.modValve v (Valve.tuned g c)).reevalValve v)
  | tuneMeter (s : State) (m r h : Nat) : Acts loud s (s.modMeter m (Meter.tuned r h))
  | addStation (s : State) (x : Station) (hline : s.lineState = .unconfigured) (hfresh : ∀ y ∈ s.stations, y.num ≠ x.num)
      (hqueue : x.queue = []) : Acts loud s { s with stations := insertByKey Station.num x s.stations }
  | addDetector (s : State) (d : Detector) (hline : s.lineState = .unconfigured)
      (hfresh : ∀ e ∈ s.detectors, e.num ≠ d.num) (hrearm : d.inRearmSet = false) :
      Acts loud s { s with detectors := insertByKey Detector.num d s.detectors }
  | addValve (s : State) (v : Valve) (hline : s.lineState = .unconfigured) (hfresh : ∀ w ∈ s.valves, w.num ≠ v.num)
      (hholders : v.holders = []) (hstruck : v.struck = false) :
      Acts loud s { s with valves := insertByKey Valve.num v s.valves }
  | addMeter (s : State) (m : Meter) (hline : s.lineState = .unconfigured) (hfresh : ∀ n ∈ s.meters, n.num ≠ m.num)
      (hprovisional : m.provisional = 0) : Acts loud s { s with meters := insertByKey Meter.num m s.meters }
  | clear (s : State) (hline : s.lineState = .unconfigured) :
      Acts loud s { s with stations := [], detectors := [], valves := [], meters := [], commitFault := none, index := [] }
  | commit (s : State) (hline : s.lineState = .unconfigured) (hpassed : s.commitFailure = none) : Acts loud s s.commit
  | opened (s : State) (hquiet : s.lineBusy = false) : Acts loud s s.opened
  | linkReset (s : State) : Acts loud s s.linkReset
  | reset (s : State) (link : Link) (port : Port) (lineTrip : Bool) (choices : Nat) (pending : List Instr)
      (hloud : loud = true) :
      Acts loud s { State.reset with link := link, port := port, lineTrip := lineTrip, choices := choices, pending := pending }
  /-- A change of the arithmetic that moves no hold interval. -/
  | gauge (s : State) (profiles : List Profile) (params : Parameters)
      (hsame : s.lineState = .ready → (s.gauged profiles params).holdInterval = s.holdInterval) :
      Acts loud s (s.gauged profiles params)
  /-- A change of the arithmetic, and the re-evaluation of every hold (R120). -/
  | regauge (s : State) (profiles : List Profile) (params : Parameters) {u : State}
      (h : Runs (s.gauged profiles params) u) : Acts loud s u.reevalAll
  /-- A record is declared in the train (R37). -/
  | declare (s : State) (p : Pig) (hready : s.lineState = .ready) (hfresh : s.pig p.tag = none) (hfull : s.pigs.length < 32)
      (hbounds : p.inBounds) (htracked : p.tracked = true) (hstart : s.lineStart ≤ p.position)
      (hend : p.position ≤ s.lineEnd) :
      Acts loud s ({ s.joinTrain p.tag p.position with pigs := insertByKey Pig.tag p s.pigs } : State).reevalAll
  /-- A record is created in a launcher (R32). -/
  | stage (s : State) (p : Pig) (hready : s.lineState = .ready) (hfresh : s.pig p.tag = none) (hfull : s.pigs.length < 32)
      (hbounds : p.inBounds) (hlauncher : p.inLauncher = true) :
      Acts loud s { s with pigs := insertByKey Pig.tag p s.pigs }
  /-- A record is retired, and the holds are re-evaluated (R43). -/
  | retire (s : State) (t : Nat) {u : State} (hout : ∀ p, s.pig t = some p → p.tracked = false)
      (h : Runs (s.dropPig t) u) : Acts loud s u.reevalAll

theorem firstRefusal_eq_none {l : List (Bool × Status)} (h : firstRefusal l = none) : ∀ c ∈ l, c.1 = false := by
  induction l with
  | nil => exact fun c hc => by cases hc
  | cons a l ih =>
    rw [firstRefusal] at h
    split at h
    · cases h
    · rename_i ha
      exact List.forall_mem_cons.2 ⟨Bool.eq_false_iff.2 ha, ih h⟩

theorem State.unconfigured_of_not_ready {s : State} (h : s.ready = false) : s.lineState = .unconfigured :=
  s.not_ready_iff.1 (by rw [h]; rfl)

theorem State.lineState_of_ready {s : State} (h : s.ready = true) : s.lineState = .ready := of_decide_eq_true h

/-- No station has the number of one that is not found; so of each table. -/
theorem find?_key_eq_none {α : Type} {key : α → Nat} {k : Nat} {l : List α}
    (h : l.find? (fun x => key x == k) = none) : ∀ x ∈ l, key x ≠ k := fun x hx heq => by
  have := List.find?_eq_none.1 h x hx
  simp [heq] at this

namespace Acts

variable {loud : Bool}

theorem refl (s : State) : Acts loud s s := .runs (.refl s)

theorem respond (s : State) (st : Status) (data : List Byte) : Acts true s (s.respond st data) :=
  .aside s _ s.attention s.lineTrip s.commitFault s.pending (.inl rfl)

end Acts

/-- A request taken is accepted, but for a COMMIT_LINE whose definitions fail, which leaves the commit fault record. -/
structure Accepted (s : State) (r : Taken) : Prop where
  refused : 16 ≤ r.status.code → r.status = .commitFault ∧ ∃ c, r.state = { s with commitFault := c }

namespace Accepted

theorem of_le {s : State} {r : Taken} (h : r.status.code ≤ 1) : Accepted s r := ⟨fun hcode => absurd hcode (by omega)⟩

theorem ok (s t : State) : Accepted s (.ok t) := of_le (Nat.zero_le 1)

theorem withData (s t : State) (data : List Byte) : Accepted s (.withData t data) := of_le (Nat.zero_le 1)

theorem okOrClamped_le (b : Bool) : (okOrClamped b).code ≤ 1 := by cases b <;> decide

theorem clamped (s t : State) (b : Bool) : Accepted s (.clamped b t) := of_le (okOrClamped_le b)

theorem commitTaken (s : State) : Accepted s s.commitTaken := by
  unfold State.commitTaken
  split
  · exact ⟨fun _ => ⟨rfl, _, rfl⟩⟩
  · exact withData ..

theorem fixTaken (s : State) (f : FixFrame) : Accepted s (s.fixTaken f) := of_le (okOrClamped_le _)

theorem commandTaken (s : State) (v : Nat) (t : Target) : Accepted s (s.commandTaken v t) := by
  unfold State.commandTaken
  split
  · exact ok ..
  · split
    · exact withData ..
    · exact withData ..

end Accepted

/-- A request is asked of a state: it is refused, or accepted and acts where every check passes. -/
structure Asked (loud : Bool) (s : State) (o : Host.Outcome State Fault Refusal) : Prop where
  acts : ∃ checks r, o = s.ask checks r ∧ Accepted s r ∧ ((∀ c ∈ checks, c.1 = false) → Acts loud s r.state)

namespace Asked

variable {loud : Bool}

theorem of_taken {s : State} {checks : List (Bool × Status)} {r : Taken} (haccepted : Accepted s r)
    (h : (∀ c ∈ checks, c.1 = false) → Acts loud s r.state) : Asked loud s (s.ask checks r) := ⟨checks, r, rfl, haccepted, h⟩

/-- A request that reads, or that makes a run where it is taken. -/
theorem of_runs {s : State} {checks : List (Bool × Status)} {r : Taken} (haccepted : Accepted s r)
    (h : Runs s r.state) : Asked loud s (s.ask checks r) := of_taken haccepted fun _ => .runs h

/-- A request is refused, which touches the port alone, or acts. -/
theorem of_next {s t : State} (h : Asked true s (.next t)) : Acts true s t := by
  obtain ⟨checks, r, hask, -, hacts⟩ := h
  unfold State.ask at hask
  split at hask
  · cases hask
    exact .respond ..
  · rename_i hnone
    cases hask
    exact (hacts (firstRefusal_eq_none hnone)).trans (.respond ..)

end Asked

namespace Acts

variable {loud : Bool}

/-! ### The pins and the port -/

theorem assertTrip (s : State) : Acts loud s s.assertTrip := by
  refine (Acts.aside s s.port s.attention true s.commitFault s.pending (.inr ⟨rfl, rfl⟩)).trans (.runs ?_)
  refine Runs.trans (Runs.trans (Runs.eachSlot _ Slot.tripPending (fun x => ?_) _)
    (Runs.foldl _ (fun s k => Runs.withdrawQueue s .lineTripped k) _ _)) (.raise ..)
  unfold Slot.tripPending
  split <;> exact ⟨rfl, rfl, rfl⟩

theorem releaseTrip (s : State) : Acts loud s s.releaseTrip := by
  refine (Acts.aside s s.port s.attention false s.commitFault s.pending (.inr ⟨rfl, rfl⟩)).trans
    (.runs (Runs.eachSlot _ Slot.tripCleared (fun x => ?_) _))
  unfold Slot.tripCleared
  split <;> exact ⟨rfl, rfl, rfl⟩

theorem tripAtReset (s : State) : Acts loud s s.tripAtReset := by
  unfold State.tripAtReset
  split
  · exact assertTrip s
  · exact refl s

/-! ### A Line Clock second -/

theorem inFreeOrder {α : Type} (s : State) (l : List α) : Runs s (s.inFreeOrder l).2 := .change (.choices s _)

/-- A Line Clock second is a run before the clock advances, and a run after it. -/
theorem second_runs (s : State) : ∃ u, Runs s u ∧ Runs u.tick s.second := by
  unfold State.second
  split
  · have htaken : Runs s s.takeDue := (inFreeOrder s s.due).trans (Runs.foldl _ Runs.expire _ _)
    have hstarted : Runs s.takeDue s.takeDue.takeStarts := (inFreeOrder ..).trans (Runs.foldl _ Runs.autoStart _ _)
    have hmarked : Runs s.takeDue.takeStarts.tick s.takeDue.takeStarts.tick.markDue := Runs.markDue _
    exact ⟨_, htaken.trans hstarted, hmarked.trans ((inFreeOrder ..).trans (Runs.foldl _ Runs.extrapolate _ _))⟩
  · exact ⟨s, .refl s, .refl _⟩

theorem second (s : State) : Acts true s s.second := by
  obtain ⟨u, hbefore, hafter⟩ := second_runs s
  exact ((Acts.runs hbefore).trans (.tick u rfl)).trans (.runs hafter)

/-! ### Definitions -/

theorem defineStationDefine (f : StationFrame) (s : State) : Asked loud s (execDefineStationDefine f s) := by
  refine Asked.of_taken (.clamped ..) fun hpass => .addStation s _ (State.unconfigured_of_not_ready (hpass (s.ready, .configLocked) (by
    simp [State.defineStationChecks]))) ?_ rfl
  have hfresh := hpass (s.stations.any fun x => x.num == f.station.toNat || x.address == f.address.toNat, .existing)
    (by simp [State.defineStationChecks])
  intro y hy heq
  have := List.any_eq_false.1 hfresh y hy
  have hnum : y.num = f.station.toNat := heq
  simp [hnum] at this

theorem defineStationTune (f : StationFrame) (s : State) : Asked loud s (execDefineStationTune f s) := by
  refine Asked.of_taken (.clamped ..) fun _ => ?_
  have htuned : Acts loud s (s.modStation f.station.toNat fun x => { x with tuning := (StationTuning.given f).inRange }) := by
    refine .tuneStation s _ _ ⟨?_, ?_, ?_, ?_⟩
    all_goals exact fun _ => rfl
  dsimp only [Taken.clamped]
  split
  · exact htuned
  · split
    · exact htuned.trans (.runs (Runs.retuned ..))
    · exact htuned

theorem defineDetector (f : DetectorFrame) (s : State) : Asked loud s (execDefineDetector f s) := by
  refine Asked.of_taken (.clamped ..) fun hpass => .addDetector s _ (State.unconfigured_of_not_ready (hpass (s.ready, .configLocked) (by
    simp [State.defineDetectorChecks]))) ?_ rfl
  have hfresh : ((s.detector f.detector.toNat).isSome || (s.detectorsOf f.station.toNat).any (fun d => d.slot == f.slot.toNat) ||
      decide (kindOf f.kind ≠ .mainline) && (s.kindDetector f.station.toNat (kindOf f.kind)).isSome) = false :=
    hpass _ (List.mem_of_getLast? rfl)
  simp only [Bool.or_eq_false_iff, Option.isSome_eq_false_iff, Option.isNone_iff_eq_none] at hfresh
  exact find?_key_eq_none hfresh.1.1

theorem defineValveDefine (f : ValveFrame) (s : State) : Asked loud s (execDefineValveDefine f s) := by
  refine Asked.of_taken (.clamped ..) fun hpass => .addValve s _ (State.unconfigured_of_not_ready (hpass (s.ready, .configLocked) (by
    simp [State.defineValveChecks]))) ?_ rfl rfl
  have hfresh : ((s.valve f.valve.toNat).isSome || (s.roleValve f.station.toNat (roleOf f.role)).isSome) = false :=
    hpass _ (List.mem_of_getLast? rfl)
  simp only [Bool.or_eq_false_iff, Option.isSome_eq_false_iff, Option.isNone_iff_eq_none] at hfresh
  exact find?_key_eq_none hfresh.1

theorem defineValveTune (f : ValveFrame) (s : State) : Asked loud s (execDefineValveTune f s) := by
  refine Asked.of_taken (.clamped ..) fun hpass => ?_
  have hfound := hpass ((s.valve f.valve.toNat).isNone, .noSuch) (by simp [State.tuneValveChecks])
  dsimp only [Taken.clamped]
  split
  · rename_i hnone
    rw [hnone] at hfound
    cases hfound
  · split
    · exact (Acts.rezone s f.valve.toNat _ _).trans (.runs (Runs.holdGate ..))
    · rename_i hready
      exact .tuneValve s _ _ _ (State.unconfigured_of_not_ready (Bool.eq_false_iff.2 hready))

theorem defineMeterDefine (f : MeterFrame) (s : State) : Asked loud s (execDefineMeterDefine f s) := by
  refine Asked.of_taken (.clamped ..) fun hpass => .addMeter s _ (State.unconfigured_of_not_ready (hpass (s.ready, .configLocked) (by
    simp [State.defineMeterChecks]))) ?_ rfl
  have hfresh : ((s.meter f.meter.toNat).isSome || (s.meterOf f.station.toNat).isSome) = false :=
    hpass _ (List.mem_of_getLast? rfl)
  simp only [Bool.or_eq_false_iff, Option.isSome_eq_false_iff, Option.isNone_iff_eq_none] at hfresh
  exact find?_key_eq_none hfresh.1

theorem setSegmentMeter (k m r : Byte) (s : State) : Asked loud s (execSetSegmentMeter k m r s) := by
  refine Asked.of_taken (.ok ..) fun _ => .tuneStation s _ _ ⟨?_, ?_, ?_, ?_⟩
  all_goals exact fun _ => rfl

/-! ### The arithmetic of the holds -/

/-- A profile that is not the hold profile gives no hold interval (R67). -/
theorem holdInterval_profiles {s : State} {i : Nat} (p : Profile) (hi : i ≠ s.params.holdProfile) :
    (s.gauged (s.profiles.set i p) s.params).holdInterval = s.holdInterval := by
  funext q
  have hprofile : (s.gauged (s.profiles.set i p) s.params).profile s.params.holdProfile = s.profile s.params.holdProfile := by
    simp only [State.profile, State.gauged, List.getD_eq_getElem?_getD, List.getElem?_set_ne hi]
  have hhalf : (s.gauged (s.profiles.set i p) s.params).holdHalf q = s.holdHalf q := by
    simp only [State.holdHalf, State.gauged] at hprofile ⊢
    rw [hprofile]
  simp only [State.holdInterval, hhalf]
  rfl

/-- Of the parameters, the hold profile and the lost hold half-width alone give the hold intervals (R67). -/
theorem holdInterval_params {s : State} {q : Parameters} (hprofile : q.holdProfile = s.params.holdProfile)
    (hlost : q.lostHalfWidth = s.params.lostHalfWidth) : (s.gauged s.profiles q).holdInterval = s.holdInterval := by
  funext p
  simp only [State.holdInterval, State.holdHalf, State.gauged, State.profile, hprofile, hlost]

theorem setProfile (f : ProfileFrame) (s : State) : Asked loud s (execSetProfile f s) := by
  refine Asked.of_taken (.clamped ..) fun _ => ?_
  dsimp only [Taken.clamped]
  split
  · unfold State.profileChanged
    simp only
    split
    · exact (Acts.regauge s (s.profiles.set f.profile.toNat _) s.params (Runs.foldl _ Runs.settle _ _)).trans
        (.runs (Runs.examineAll _))
    · rename_i hi
      exact (Acts.gauge s (s.profiles.set f.profile.toNat _) s.params fun _ => holdInterval_profiles _ hi).trans
        (.runs (Runs.foldl _ Runs.settle _ _))
  · rename_i hready
    refine .gauge s (s.profiles.set f.profile.toNat _) s.params fun hline => absurd ?_ hready
    rw [State.ready, hline]
    rfl

theorem setLineParameters (f : ParametersFrame) (s : State) : Asked loud s (execSetLineParameters f s) := by
  refine Asked.of_taken (.clamped ..) fun _ => ?_
  dsimp only [Taken.clamped]
  split
  · exact (Acts.regauge s s.profiles _ (.refl _)).trans (.runs (Runs.examineAll _))
  · rename_i hacts
    refine .gauge s s.profiles _ fun hline => ?_
    simp only [State.ready, hline, decide_true, Bool.true_and, Bool.or_eq_true, decide_eq_true_eq, not_or, not_not] at hacts
    exact holdInterval_params hacts.1 hacts.2

/-! ### The Line State -/

theorem commitLine (r : Byte) (s : State) : Asked loud s (execCommitLine r s) := by
  refine Asked.of_taken (.commitTaken s) fun hpass => ?_
  unfold State.commitTaken
  split
  · exact .aside s s.port s.attention s.lineTrip _ s.pending (.inr ⟨rfl, rfl⟩)
  · rename_i hpassed
    exact .commit s (State.unconfigured_of_not_ready (hpass (s.ready, .wrongState) (by simp [State.commitChecks]))) hpassed

theorem openLine (r : Byte) (s : State) : Asked loud s (execOpenLine r s) := by
  refine Asked.of_taken (.ok ..) fun hpass => ?_
  have hquiet := hpass (s.ready && s.lineBusy, .configLocked) (by simp)
  dsimp only [Taken.ok]
  split
  · rename_i hready
    simp only [hready, Bool.true_and] at hquiet
    exact .opened s hquiet
  · exact refl s

theorem clearLine (r : Byte) (s : State) : Asked loud s (execClearLine r s) :=
  Asked.of_taken (.ok ..) fun hpass => .clear s (State.unconfigured_of_not_ready (hpass (s.ready, .configLocked) (by simp)))

/-! ### Records -/

theorem slipInRange_le (slip : Nat) : slipInRange slip ≤ 250 := Nat.min_le_right ..

/-- A good tag is in its range (R28). -/
theorem tag_inRange {tag : BitVec 16} (h : badTag tag = false) : 1 ≤ tag.toNat ∧ tag.toNat ≤ 65535 := by
  simp only [badTag, decide_eq_false_iff_not] at h
  have := tag.isLt
  omega

theorem launch (f : LaunchFrame) (s : State) : Asked loud s (execLaunch f s) := by
  refine Asked.of_taken (.clamped ..) fun hpass => ?_
  have hready := hpass (!s.ready, .notConfigured) (by simp [State.launchChecks])
  have hfields := hpass (badTag f.tag || badStation f.launch || badStation f.destination || above f.learning 1 ||
    nonzero f.reserved, .badField) (by simp [State.launchChecks])
  have hexisting := hpass ((s.pig f.tag.toNat).isSome && !s.reuses f.tag.toNat f.launch.toNat, .existing)
    (by simp [State.launchChecks])
  have hfull := hpass (s.tableFull && !s.reuses f.tag.toNat f.launch.toNat, .full) (by simp [State.launchChecks])
  simp only [Bool.or_eq_false_iff, Bool.not_eq_false'] at hready hfields
  have htag := tag_inRange hfields.1.1.1.1
  have hstaged : Acts loud s (s.stage f) := by
    unfold State.stage
    simp only
    refine Acts.trans ?_ (.runs (Runs.handAside ..))
    split
    · rename_i hreuses
      refine .runs (.change (.record s _ _ ⟨fun _ h => h, fun _ p hp => ⟨hp.1, slipInRange_le _, hp.2.2⟩⟩ fun _ _ p hp => ?_))
      simp only [State.reuses, hp, Bool.and_eq_true, decide_eq_true_eq] at hreuses
      exact ⟨rfl, rfl, .inr (.inl ⟨by simp [Pig.inLauncher, hreuses.1], rfl⟩)⟩
    · rename_i hreuses
      simp only [Bool.eq_false_iff.2 hreuses, Bool.not_false, Bool.and_true, Option.isSome_eq_false_iff,
        Option.isNone_iff_eq_none, State.tableFull, decide_eq_false_iff_not] at hexisting hfull
      exact .stage s (s.launchedPig f) (State.lineState_of_ready hready) hexisting (by omega)
        ⟨Nat.zero_le _, slipInRange_le _, htag.1, htag.2⟩ rfl
  exact hstaged.trans (.runs (Runs.startLaunch ..))

theorem declarePig (f : DeclareFrame) (s : State) : Asked loud s (execDeclarePig f s) := by
  refine Asked.of_taken (.clamped ..) fun hpass => ?_
  have hready := hpass (!s.ready, .notConfigured) (by simp [State.declareChecks])
  have hfields := hpass (badTag f.tag || s.offLine f.position.toNat || badStation f.destination || above f.learning 1 ||
      nonzero f.reserved, .badField) (by simp [State.declareChecks])
  have hexisting := hpass ((s.pig f.tag.toNat).isSome, .existing) (by simp [State.declareChecks])
  have hfull := hpass (s.tableFull, .full) (by simp [State.declareChecks])
  simp only [Bool.or_eq_false_iff, Bool.not_eq_false', Option.isSome_eq_false_iff, Option.isNone_iff_eq_none,
    State.tableFull, State.offLine, decide_eq_false_iff_not, not_lt] at hready hfields hexisting hfull
  have htag := tag_inRange hfields.1.1.1.1
  exact (Acts.declare s (s.declaredPig f) (State.lineState_of_ready hready) hexisting (by omega)
    ⟨Nat.zero_le _, slipInRange_le _, htag.1, htag.2⟩ rfl hfields.1.1.1.2.1 hfields.1.1.1.2.2).trans
    (.runs (Runs.rearmAndExamine ..))

theorem pigIs_false {s : State} {u : Nat} {l : List PigState} (h : s.pigIs u l = false) {p : Pig} (hp : s.pig u = some p) :
    p.state ∉ l := by simpa [State.pigIs, hp] using h

theorem fixPig (f : FixFrame) (s : State) : Asked loud s (execFixPig f s) := by
  refine Asked.of_taken (.fixTaken s f) fun hpass => .runs ?_
  have hfields := hpass (badTag f.tag || s.offLine f.position.toNat || nonzero f.reserved, .badField)
    (by simp [State.fixChecks])
  have hfound := hpass ((s.pig f.tag.toNat).isNone, .noSuch) (by simp [State.fixChecks])
  have hstate := hpass (s.pigIs f.tag.toNat [.staged, .trapped, .launchFailed], .wrongState) (by simp [State.fixChecks])
  simp only [Bool.or_eq_false_iff, State.offLine, decide_eq_false_iff_not, not_lt] at hfields
  obtain ⟨p, hp⟩ := Option.isSome_iff_exists.1 (Option.isNone_eq_false_iff.1 hfound)
  have hnot := pigIs_false hstate hp
  dsimp only [State.fixTaken]
  unfold State.manualFix State.fixJoined
  simp only
  split
  · rename_i hlost
    simp only [State.pigIs, hp, List.mem_singleton, decide_eq_true_eq] at hlost
    exact Runs.applyFix_joined _ (State.pig_mem hp) (State.pig_tag hp) (by simp [Pig.tracked, hlost]) fun _ _ _ =>
      hfields.1.2.1
  · rename_i hlost
    simp only [State.pigIs, hp, List.mem_singleton, decide_eq_true_eq] at hlost
    refine Runs.applyFix _ (fun _ hline => ?_) fun _ _ _ _ => hfields.1.2.1
    have htracked : p.tracked = true := by
      simp only [Pig.tracked]
      cases hs : p.state <;> simp_all
    exact State.pig_tag hp ▸ hline.all p (State.pig_mem hp) htracked

theorem declareLost (tag : BitVec 16) (r : Byte) (s : State) : Asked loud s (execDeclareLost tag r s) := by
  refine Asked.of_runs (.ok ..) ?_
  dsimp only [Taken.ok]
  split
  · exact .refl s
  · exact Runs.lose ..

theorem forgetAt (u : Nat) (s : State) (d : Detector) : Runs s (State.forgetAt u s d) :=
  (Runs.updDetector s d.num (Detector.forget u) (fun _ => rfl) fun _ _ _ h => h).trans (Runs.rearmTest ..)

theorem emptyReceiver (s : State) (k : Nat) : Runs s (s.emptyReceiver k) := by
  unfold State.emptyReceiver
  split
  · exact .refl s
  · rename_i d hd
    split
    · rename_i htripped
      refine Runs.updDetector s d.num _ ?_ fun hrise e he _ _ => ?_
      · exact fun _ => rfl
      · obtain rfl : d = e :=
          Option.some.inj ((hrise.detector_of_mem (List.mem_of_find?_eq_some hd)).symm.trans he)
        exact htripped.2
    · exact .refl s

theorem retirePig (tag : BitVec 16) (r : Byte) (s : State) : Asked loud s (execRetirePig tag r s) := by
  refine Asked.of_taken (.ok ..) fun hpass => ?_
  have hstate := hpass (s.pigIs tag.toNat [.inLine, .unconfirmed], .wrongState) (by simp [State.retireChecks])
  dsimp only [Taken.ok]
  unfold State.retire
  simp only
  refine Acts.trans (.retire s tag.toNat (fun p hp => ?_) ?_) (.runs (Runs.examineAll _))
  · have hnot := pigIs_false hstate hp
    simp only [Pig.tracked]
    simpa using hnot
  · have hforgotten : Runs (s.dropPig tag.toNat) (s.detectors.foldl (State.forgetAt tag.toNat) (s.dropPig tag.toNat)) :=
      Runs.foldl _ (forgetAt tag.toNat) _ _
    refine Runs.trans ?_ (Runs.unbar ..)
    split
    · exact hforgotten
    · split
      · exact hforgotten.trans (emptyReceiver ..)
      · exact hforgotten

theorem readPig (tag : BitVec 16) (r : Byte) (s : State) : Asked loud s (execReadPig tag r s) := by
  refine Asked.of_runs (.withData ..) (.change (.record s _ _ (.aside ?_ ?_ ?_) ?_))
  · exact fun _ => rfl
  · exact fun _ => .inl rfl
  · exact fun _ => rfl
  · exact fun _ _ _ _ => ⟨rfl, rfl, .inl rfl⟩

/-! ### Service -/

theorem setStationService (k v r : Byte) (s : State) : Asked loud s (execSetStationService k v r s) := by
  refine Asked.of_taken (.ok ..) fun _ => ?_
  have hservice : Acts loud s (s.modStation k.toNat fun x => { x with service := if yes v then .outOfService else .inService }) := by
    refine .tuneStation s _ _ ⟨?_, ?_, ?_, ?_⟩
    all_goals exact fun _ => rfl
  have htaken : ∀ u : State, Runs u (if yes v then u.takeOut k.toNat else u.takeIn k.toNat) := fun u => by
    split
    · exact Runs.takeOut ..
    · exact Runs.takeIn ..
  dsimp only [Taken.ok]
  by_cases hready : s.ready = true
  · rw [if_pos hready]
    exact hservice.trans (.runs (htaken _))
  · rw [if_neg hready]
    exact hservice

theorem takenOut (d : Detector) : d.takenOut.committed = d.committed ∧ (d.rearmSound → d.takenOut.rearmSound) := by
  unfold Detector.takenOut
  split
  · exact ⟨rfl, id⟩
  · exact ⟨rfl, fun _ h => by cases h⟩

theorem takenIn_sound (d : Detector) (h : d.rearmSound) : d.takenIn.rearmSound := fun hin => by
  have hstate := h hin
  simp [Detector.takenIn, hstate]

theorem setDetectorServiceOut (n v r : Byte) (s : State) : Asked loud s (execSetDetectorServiceOut n v r s) :=
  Asked.of_runs (.ok ..) (Runs.updDetector s _ _ (fun d => (takenOut d).1) fun _ d _ => (takenOut d).2)

theorem setDetectorServiceIn (n v r : Byte) (s : State) : Asked loud s (execSetDetectorServiceIn n v r s) :=
  Asked.of_runs (.ok ..) (Runs.updDetector s _ Detector.takenIn (fun _ => rfl) fun _ d _ => takenIn_sound d)

theorem rebaseMeter (m r : Byte) (s : State) : Asked loud s (execRebaseMeter m r s) := by
  refine Asked.of_runs (.ok ..) ?_
  dsimp only [Taken.ok]
  unfold State.rebase
  split
  · exact .refl s
  · refine Runs.trans (.change (.meter s _ Meter.rebased (fun _ => rfl) fun _ _ _ _ h => absurd rfl h))
      (Runs.stationAside _ _ _ ?_ ?_ ?_)
    all_goals exact fun _ => rfl

theorem setValvePermit (v x r : Byte) (s : State) : Asked loud s (execSetValvePermit v x r s) := by
  refine Asked.of_runs (.ok ..) (Runs.updValve s _ _ ?_ ?_)
  · exact fun _ => rfl
  · exact fun _ _ => ⟨rfl, rfl, rfl, rfl⟩

/-! ### Sequences and commands -/

theorem pauseSequence (k r : Byte) (s : State) : Asked loud s (execPauseSequence k r s) := by
  refine Asked.of_runs (.ok ..) ?_
  dsimp only [Taken.ok]
  split
  · exact .refl s
  · exact Runs.updSlotWithin s _ _ (fun _ => rfl) (fun _ => rfl) fun _ => rfl

theorem abortSequence (k r : Byte) (s : State) : Asked loud s (execAbortSequence k r s) := by
  refine Asked.of_taken (.ok ..) fun hpass => .runs ?_
  have hactive := hpass (decide ((s.slotOf k.toNat).state = .idle), .wrongState) (by simp)
  dsimp only [Taken.ok]
  split
  · exact .refl s
  · exact Runs.abortAt (of_decide_eq_false hactive)

theorem clearTrapFault (k r : Byte) (s : State) : Asked loud s (execClearTrapFault k r s) := by
  refine Asked.of_runs (.ok ..) ?_
  dsimp only [Taken.ok]
  split
  · refine Runs.stationAside s _ _ ?_ ?_ ?_
    all_goals exact fun _ => rfl
  · exact .refl s

theorem commandValve (v x r : Byte) (s : State) : Asked loud s (execCommandValve v x r s) := by
  refine Asked.of_runs (.commandTaken ..) ?_
  unfold State.commandTaken
  split
  · exact .refl s
  · rename_i y hy
    split
    · exact .change (.endCommand s y _ (State.valve_mem hy))
    · exact .change (.enqueue s y _ _ (State.valve_mem hy))

theorem readStation (k r : Byte) (s : State) : Asked loud s (execReadStation k r s) := by
  refine Asked.of_runs (.withData ..) (Runs.stationAside s _ _ ?_ ?_ ?_)
  all_goals exact fun _ => rfl

/-- Every request but RESTART is refused or acts, and none of them but an acknowledgement is loud. -/
theorem of_request {c : Instr} (s : State) (hrequest : isRequest c = true) (hrestart : ∀ r, c ≠ .restart r)
    (hack : loud = true ∨ ∀ f, c ≠ .ackAlert f) : Asked loud s (exec c s) := by
  cases c with
  | defineStationDefine f => exact defineStationDefine f s
  | defineStationTune f => exact defineStationTune f s
  | defineDetector f => exact defineDetector f s
  | defineValveDefine f => exact defineValveDefine f s
  | defineValveTune f => exact defineValveTune f s
  | defineMeterDefine f => exact defineMeterDefine f s
  | defineMeterTune f => exact Asked.of_taken (.clamped ..) fun _ => .tuneMeter s _ _ _
  | setSegmentMeter k m r => exact setSegmentMeter k m r s
  | setProfile f => exact setProfile f s
  | setLineParameters f => exact setLineParameters f s
  | commitLine r => exact commitLine r s
  | openLine r => exact openLine r s
  | clearLine r => exact clearLine r s
  | readLineStatus r => exact Asked.of_runs (.withData ..) (.refl s)
  | setStationService k v r => exact setStationService k v r s
  | setDetectorServiceOut n v r => exact setDetectorServiceOut n v r s
  | setDetectorServiceIn n v r => exact setDetectorServiceIn n v r s
  | rebaseMeter m r => exact rebaseMeter m r s
  | setValvePermit v x r => exact setValvePermit v x r s
  | launch f => exact launch f s
  | declarePig f => exact declarePig f s
  | amendPig f => exact Asked.of_runs (.clamped ..) (Runs.amend f)
  | fixPig f => exact fixPig f s
  | declareLost tag r => exact declareLost tag r s
  | retirePig tag r => exact retirePig tag r s
  | readPig tag r => exact readPig tag r s
  | listTrain start r => exact Asked.of_runs (.withData ..) (.refl s)
  | listAll r => exact Asked.of_runs (.withData ..) (.refl s)
  | armReceive tag r => exact Asked.of_runs (.ok ..) (Runs.startReceive ..)
  | pauseSequence k r => exact pauseSequence k r s
  | continueSequence k r => exact Asked.of_runs (.ok ..) (Runs.continueAt ..)
  | abortSequence k r => exact abortSequence k r s
  | clearTrapFault k r => exact clearTrapFault k r s
  | commandValve v x r => exact commandValve v x r s
  | withdrawValveCommand v r => exact Asked.of_runs (.ok ..) (Runs.finishCommand ..)
  | readStation k r => exact readStation k r s
  | readDetector n r => exact Asked.of_runs (.withData ..) (.refl s)
  | readValve v r => exact Asked.of_runs (.withData ..) (.refl s)
  | readMeter m r => exact Asked.of_runs (.withData ..) (.refl s)
  | readAttention r => exact Asked.of_runs (.withData ..) (.refl s)
  | ackAlert f => exact Asked.of_taken (.withData ..) fun _ => .aside s s.port _ s.lineTrip s.commitFault s.pending (.inl (hack.resolve_right fun h => h f rfl))
  | setAttentionMasks f => exact Asked.of_taken (.ok ..) fun _ => .aside s s.port _ s.lineTrip s.commitFault s.pending (.inr ⟨rfl, rfl⟩)
  | linkReset r => exact Asked.of_taken (.ok ..) fun _ => .linkReset s
  | restart r => exact absurd rfl (hrestart r)
  | _ => cases hrequest

/-- Every command acts. -/
theorem of_exec (c : Instr) {s t : State} (h : exec c s = .next t) : Acts true s t := by
  cases c with
  | powerOn linkRate => cases h; exact (Acts.reset _ _ _ _ _ _ rfl).trans (tripAtReset _)
  | lineTripAsserted =>
    cases h
    split
    · exact refl s
    · exact assertTrip s
  | lineTripReleased =>
    cases h
    split
    · exact releaseTrip s
    · exact refl s
  | lineClockSecond => cases h; exact second s
  | meterStale m => cases h; exact .runs (Runs.expire ..)
  | strokeTimeout v => cases h; exact .runs (Runs.expire ..)
  | deliveryLimitExpiry v => cases h; exact .runs (Runs.expire ..)
  | confirmationLapse d => cases h; exact .runs (Runs.expire ..)
  | holdLapsed k => cases h; exact .runs (Runs.expire ..)
  | launchTimeout k => cases h; exact .runs (Runs.expire ..)
  | arrivalTimeout k => cases h; exact .runs (Runs.expire ..)
  | pauseLapsed k => cases h; exact .runs (Runs.expire ..)
  | replyTimeout => cases h; exact .runs (Runs.replyExpires s)
  | pollSlotStart => cases h; exact .runs (Runs.pollSlot s)
  | report frame => cases h; exact .runs (Runs.receive s frame)
  | autoReceiveStart k => cases h; exact .runs (Runs.autoStart s k)
  | requestFrameOverrun => cases h; exact .aside s _ s.attention s.lineTrip s.commitFault s.pending (.inl rfl)
  | badLength frame => cases h; exact respond ..
  | unknownRequest frame => cases h; exact respond ..
  | readResponse n => cases h; exact .aside s _ s.attention s.lineTrip s.commitFault s.pending (.inl rfl)
  | restart r =>
    simp only [exec, execRestart] at h
    split at h
    · cases h; exact respond ..
    · cases h; exact (Acts.reset _ _ _ _ _ _ rfl).trans (tripAtReset _)
  | _ => exact (h ▸ of_request s rfl (fun r hr => by cases hr) (.inl rfl)).of_next

/-- A step takes the command at the front of the queue from it, and acts; on an empty queue it changes nothing. -/
theorem of_step {s t : State} (h : step s = .next t) : Acts true s t := by
  unfold step at h
  split at h
  · cases h; exact refl s
  · rename_i c rest _
    exact (Acts.aside s s.port s.attention s.lineTrip s.commitFault rest (.inl rfl)).trans (of_exec c h)

end Acts

end Sys2Proof.Machine
end

section
/-! SUPPORT. The tables rise through every act, and what a re-evaluation of a hold leaves as it was. -/

namespace Sys2Proof.Machine

theorem Rising.nil : Rising [] := List.Pairwise.nil

/-- No record of a tag is live where none is found. -/
theorem State.tag_ne_of_fresh {s : State} {t : Nat} (h : s.pig t = none) : ∀ p ∈ s.pigs, p.tag ≠ t := find?_key_eq_none h

/-- A table mapped by a change that keeps the numbers rises as it did. -/
theorem rising_map {α : Type} (key : α → Nat) (f : α → α) (hf : ∀ x, key (f x) = key x) {l : List α}
    (h : Rising (l.map key)) : Rising ((l.map f).map key) := by
  rw [List.map_map, show key ∘ f = key from funext hf]
  exact h

/-- A table in which one number's items change, and keep their number, rises as it did. -/
theorem rising_mod {α : Type} (key : α → Nat) (k : Nat) (f : α → α) (hf : ∀ x, key (f x) = key x) {l : List α}
    (h : Rising (l.map key)) : Rising ((l.map fun x => if key x = k then f x else x).map key) := by
  rw [map_key_map key k f hf]
  exact h

theorem Detector.second_num (d : Detector) : d.second.num = d.num := by
  unfold Detector.second
  split <;> rfl

theorem Detector.linkReset_num (d : Detector) : d.linkReset.num = d.num := by
  unfold Detector.linkReset
  split <;> rfl

/-- A valve's counts one second on (R112, R113). -/
def Valve.second (v : Valve) : Valve := { v with command := v.command.map Command.second }

/-- A station's counts one second on (R139). -/
def Station.second (x : Station) : Station := { x with slot := x.slot.second }

/-- A Line Clock second in READY: the clock, and every running count (R12, R48, R139). -/
theorem State.tick_of_ready {s : State} (h : s.ready = true) :
    s.tick = { s with
      clock := min (s.clock + 1) maxWord, valves := s.valves.map Valve.second
      detectors := s.detectors.map Detector.second
      stations := if s.lineTrip then s.stations else s.stations.map Station.second } := by
  rw [State.tick, if_pos h]
  rfl

/-- A Line Clock second in UNCONFIGURED moves the clock alone (R12, R48). -/
theorem State.tick_of_not_ready {s : State} (h : ¬ s.ready = true) :
    s.tick = { s with clock := min (s.clock + 1) maxWord } := by rw [State.tick, if_neg h]

theorem State.tick_tablesRise {s : State} (h : TablesRise s) : TablesRise s.tick := by
  by_cases hready : s.ready = true
  · rw [State.tick_of_ready hready]
    refine ⟨?_, rising_map _ _ Detector.second_num h.detectors, rising_map Valve.num Valve.second (fun _ => rfl) h.valves,
      h.meters, h.pigs⟩
    dsimp only
    split
    · exact h.stations
    · exact rising_map Station.num Station.second (fun _ => rfl) h.stations
  · rw [State.tick_of_not_ready hready]
    exact ⟨h.stations, h.detectors, h.valves, h.meters, h.pigs⟩

theorem TablesRise.reevalAll {s : State} (h : TablesRise s) : TablesRise s.reevalAll := (SameLine.reevalAll s).tablesRise h

/-- A record put into the Pig Table under a fresh tag. -/
theorem TablesRise.insertPig {s : State} (h : TablesRise s) {p : Pig} (hfresh : s.pig p.tag = none) :
    TablesRise { s with pigs := insertByKey Pig.tag p s.pigs } :=
  ⟨h.stations, h.detectors, h.valves, h.meters, rising_insertByKey _ _ _ h.pigs (State.tag_ne_of_fresh hfresh)⟩

theorem TablesRise.dropPig {s : State} (h : TablesRise s) (t : Nat) : TablesRise (s.dropPig t) :=
  ⟨h.stations, h.detectors, h.valves, h.meters, h.pigs.sublist (List.filter_sublist.map _)⟩

/-- Every act keeps the tables in rising number. -/
theorem TablesRise.acts {s t : State} (hacts : Acts true s t) (h : TablesRise s) : TablesRise t := by
  induction hacts with
  | runs hruns => exact (SameLine.of_runs hruns).tablesRise h
  | trans _ _ ih ih' => exact ih' (ih h)
  | aside s => exact ⟨h.stations, h.detectors, h.valves, h.meters, h.pigs⟩
  | tick s => exact State.tick_tablesRise h
  | tuneStation s k f hf => exact ⟨rising_mod _ _ _ hf.num h.stations, h.detectors, h.valves, h.meters, h.pigs⟩
  | tuneValve s v g c hline =>
    exact ⟨h.stations, h.detectors, rising_mod Valve.num v (Valve.tuned g c) (fun _ => rfl) h.valves, h.meters, h.pigs⟩
  | rezone s v g c =>
    exact (SameLine.reevalValve _ v).tablesRise
      ⟨h.stations, h.detectors, rising_mod Valve.num v (Valve.tuned g c) (fun _ => rfl) h.valves, h.meters, h.pigs⟩
  | tuneMeter s m r c =>
    exact ⟨h.stations, h.detectors, h.valves, rising_mod Meter.num m (Meter.tuned r c) (fun _ => rfl) h.meters, h.pigs⟩
  | addStation s x hline hfresh hqueue =>
    exact ⟨rising_insertByKey _ _ _ h.stations hfresh, h.detectors, h.valves, h.meters, h.pigs⟩
  | addDetector s d hline hfresh hrearm =>
    exact ⟨h.stations, rising_insertByKey _ _ _ h.detectors hfresh, h.valves, h.meters, h.pigs⟩
  | addValve s v hline hfresh hholders hstruck =>
    exact ⟨h.stations, h.detectors, rising_insertByKey _ _ _ h.valves hfresh, h.meters, h.pigs⟩
  | addMeter s m hline hfresh hprovisional =>
    exact ⟨h.stations, h.detectors, h.valves, rising_insertByKey _ _ _ h.meters hfresh, h.pigs⟩
  | clear s hline => exact ⟨.nil, .nil, .nil, .nil, h.pigs⟩
  | commit s hline hpassed =>
    exact ⟨rising_map Station.num Station.committed (fun _ => rfl) h.stations,
      rising_map Detector.num Detector.committed (fun _ => rfl) h.detectors,
      rising_map Valve.num Valve.committed (fun _ => rfl) h.valves,
      rising_map Meter.num Meter.rebased (fun _ => rfl) h.meters, h.pigs⟩
  | opened s hquiet =>
    refine ⟨h.stations, rising_map Detector.num _ ?_ h.detectors, h.valves, h.meters, h.pigs⟩
    exact fun _ => rfl
  | linkReset s =>
    exact ⟨rising_map Station.num Station.linkReset (fun _ => rfl) h.stations,
      rising_map _ _ Detector.linkReset_num h.detectors, rising_map Valve.num Valve.linkReset (fun _ => rfl) h.valves, h.meters, h.pigs⟩
  | reset s => exact ⟨.nil, .nil, .nil, .nil, .nil⟩
  | gauge s profiles params hsame => exact ⟨h.stations, h.detectors, h.valves, h.meters, h.pigs⟩
  | regauge s profiles params hruns =>
    have hgauged : TablesRise (s.gauged profiles params) := ⟨h.stations, h.detectors, h.valves, h.meters, h.pigs⟩
    exact ((SameLine.of_runs hruns).tablesRise hgauged).reevalAll
  | declare s p hready hfresh =>
    have hjoined : TablesRise (s.joinTrain p.tag p.position) := (SameLine.joinTrain ..).tablesRise h
    exact (hjoined.insertPig hfresh).reevalAll
  | stage s p hready hfresh => exact h.insertPig hfresh
  | retire s u hout hruns => exact ((SameLine.of_runs hruns).tablesRise (h.dropPig u)).reevalAll

/-- Settles O7: every act keeps the tables in rising number, and a step acts. -/
theorem tablesStayInOrder : Obligations.TablesStayInOrder := by
  unfold Obligations.TablesStayInOrder
  exact fun s t h hstep => h.acts (Acts.of_step hstep)

/-! ### What a re-evaluation leaves -/

/-- A station but for its changed flag. -/
def Station.unflagged (x : Station) : Station := { x with changed := false }

/-- A valve but for its hold and its strike. -/
def Valve.unheld (v : Valve) : Valve := { v with holders := [], struck := false }

/-- A record but for its flags. -/
def Pig.unflagged (p : Pig) : Pig := { p with flags := PigFlags.clear }

/-- A re-evaluation of holds changes no more than the valves' holds and strikes, the stations' changed flags, the records'
flags and the Attention Unit. -/
structure Rehold (s t : State) : Prop where
  stations : t.stations.map Station.unflagged = s.stations.map Station.unflagged
  valves : t.valves.map Valve.unheld = s.valves.map Valve.unheld
  pigs : t.pigs.map Pig.unflagged = s.pigs.map Pig.unflagged
  rest : t = { s with stations := t.stations, valves := t.valves, pigs := t.pigs, attention := t.attention }

namespace Rehold

theorem refl (s : State) : Rehold s s := ⟨rfl, rfl, rfl, rfl⟩

theorem trans {s t u : State} (h : Rehold s t) (g : Rehold t u) : Rehold s u where
  stations := g.stations.trans h.stations
  valves := g.valves.trans h.valves
  pigs := g.pigs.trans h.pigs
  rest := by rw [g.rest, h.rest]

theorem foldl {α : Type} (f : State → α → State) (hf : ∀ s a, Rehold s (f s a)) (l : List α) (s : State) :
    Rehold s (l.foldl f s) := by
  induction l generalizing s with
  | nil => exact refl s
  | cons a l ih => exact (hf s a).trans (ih _)

theorem touchIf (s : State) (b : Bool) (k : Nat) : Rehold s (s.touchIf b k) := by
  rw [State.touchIf_eq]
  refine ⟨map_mod_of_same _ _ _ _ ?_ _, rfl, rfl, rfl⟩
  exact fun _ _ => rfl

theorem updValve (s : State) (n : Nat) (f : Valve → Valve) (hf : ∀ v, (f v).unheld = v.unheld) : Rehold s (s.updValve n f) := by
  unfold State.updValve
  split
  · exact refl s
  · have hmod : Rehold s (s.modValve n f) := ⟨rfl, map_mod_of_same _ _ _ _ (fun v _ => hf v) _, rfl, rfl⟩
    exact hmod.trans (touchIf ..)

theorem strikeRecords (s : State) (l : List Nat) : Rehold s (s.strikeRecords l) := by
  refine foldl _ (fun s t => ?_) l s
  refine ⟨rfl, rfl, map_mod_of_same Pig.tag t _ _ ?_ _, rfl⟩
  exact fun _ _ => rfl

theorem applyHold (s : State) (v : Valve) (l : List Nat) : Rehold s (s.applyHold v l) := by
  have hstored := updValve s v.num (v.holding l) fun _ => rfl
  rcases s.applyHold_cases v l with h | ⟨tags, h⟩ <;> rw [h]
  · exact hstored
  · have hraised : Rehold ((s.updValve v.num (v.holding l)).strikeRecords tags)
        (((s.updValve v.num (v.holding l)).strikeRecords tags).raise .valveStrike) := ⟨rfl, rfl, rfl, rfl⟩
    exact (hstored.trans (strikeRecords ..)).trans hraised

theorem reevalValve (s : State) (v : Nat) : Rehold s (s.reevalValve v) := by
  unfold State.reevalValve
  split
  · exact refl s
  · split
    · exact applyHold ..
    · exact refl s

theorem strikeTest (s : State) (v : Nat) : Rehold s (s.strikeTest v) := by
  unfold State.strikeTest
  split
  · exact refl s
  · split
    · exact applyHold ..
    · exact refl s

theorem reevalAll (s : State) : Rehold s s.reevalAll := foldl _ reevalValve _ s

theorem reevalStation (s : State) (k : Nat) : Rehold s (s.reevalStation k) := foldl _ reevalValve _ s

variable {s t : State} (h : Rehold s t)

include h

theorem detectors : t.detectors = s.detectors := by rw [h.rest]

theorem meters : t.meters = s.meters := by rw [h.rest]

theorem train : t.train = s.train := by rw [h.rest]

theorem revision : t.revision = s.revision := by rw [h.rest]

theorem lineState : t.lineState = s.lineState := by rw [h.rest]

theorem detector (n : Nat) : t.detector n = s.detector n := by simp only [State.detector, h.detectors]

theorem meter (n : Nat) : t.meter n = s.meter n := by simp only [State.meter, h.meters]

end Rehold

/-- What g reads of the items holds of every item of one table where it holds of every item of the other. -/
theorem forall_of_map_eq {α β : Type} {g : α → β} {P : α → Prop} (hP : ∀ a b, g a = g b → P a → P b) {l m : List α}
    (h : m.map g = l.map g) (hl : ∀ a ∈ l, P a) : ∀ b ∈ m, P b := fun b hb => by
  have hg : g b ∈ l.map g := h ▸ List.mem_map_of_mem hb
  obtain ⟨a, ha, hab⟩ := List.mem_map.1 hg
  exact hP a b hab (hl a ha)

end Sys2Proof.Machine
end

section
/-! SUPPORT. The stored ranges (O8), provisional volume (O12), the re-arm sets (O13) and the queues (O14) through every
change, and so through every act. -/

namespace Sys2Proof.Machine

/-! ### Stored ranges -/

/-- Every record is within the stored ranges (R20, R28). -/
def RecordsInBounds (s : State) : Prop := ∀ p ∈ s.pigs, p.inBounds

theorem Rehold.recordsInBounds {s t : State} (h : Rehold s t) (hs : RecordsInBounds s) : RecordsInBounds t := by
  refine forall_of_map_eq (fun a b hab ha => ?_) h.pigs hs
  have hresidue : a.residue = b.residue := (congrArg Pig.residue hab : a.unflagged.residue = b.unflagged.residue)
  have hslip : a.slip = b.slip := (congrArg Pig.slip hab : a.unflagged.slip = b.unflagged.slip)
  have htag : a.tag = b.tag := (congrArg Pig.tag hab : a.unflagged.tag = b.unflagged.tag)
  rwa [Pig.inBounds, hresidue, hslip, htag] at ha

theorem KeepsRange.recordsInBounds {s : State} {t : Nat} {f : Pig → Pig} (h : KeepsRange s t f) (hs : RecordsInBounds s) :
    RecordsInBounds (s.modPig t f) := by
  intro q hq
  obtain ⟨p, hp, rfl⟩ := List.mem_map.1 hq
  split
  · exact h.bounds hs p (hs p hp)
  · exact hs p hp

theorem State.leaveTrain_pigs (s : State) (t : Nat) : (s.leaveTrain t).pigs = s.pigs := by
  unfold State.leaveTrain
  split <;> rfl

theorem State.strikeTest_recordsInBounds {s : State} (h : RecordsInBounds s) (n : Nat) : RecordsInBounds (s.strikeTest n) :=
  (Rehold.strikeTest s n).recordsInBounds h

/-- The revision keeps to a byte: it stands, or rises and wraps (R178). -/
theorem State.leaveTrain_revision {s : State} (t : Nat) (h : s.revision ≤ 255) : (s.leaveTrain t).revision ≤ 255 := by
  unfold State.leaveTrain
  split
  · exact Nat.le_of_lt_succ (Nat.mod_lt _ (by decide))
  · exact h

theorem Change.bounded {s t : State} (h : Change s t) (hs : RecordsInBounds s ∧ s.revision ≤ 255) :
    RecordsInBounds t ∧ t.revision ≤ 255 := by
  obtain ⟨hrecords, hrevision⟩ := hs
  have hrehold : ∀ {u v : State}, Rehold u v → RecordsInBounds u → u.revision ≤ 255 →
      RecordsInBounds v ∧ v.revision ≤ 255 := fun hold hu hr => ⟨hold.recordsInBounds hu, hold.revision.trans_le hr⟩
  cases h with
  | reevalValve v => exact hrehold (Rehold.reevalValve s v) hrecords hrevision
  | station k f hdef hkept => exact ⟨hrecords, hrevision⟩
  | reseat k f hblank =>
    have hslot : RecordsInBounds (s.updSlot k f) ∧ (s.updSlot k f).revision ≤ 255 := by
      unfold State.updSlot
      split
      · exact ⟨hrecords, hrevision⟩
      · rw [State.touchIf_eq]
        exact ⟨hrecords, hrevision⟩
    exact hrehold (Rehold.reevalStation ..) hslot.1 hslot.2
  | serve k => exact ⟨hrecords, hrevision⟩
  | link l => exact ⟨hrecords, hrevision⟩
  | detector n f hdef hrearm => exact ⟨hrecords, hrevision⟩
  | valve n f hdef hkept => exact ⟨hrecords, hrevision⟩
  | enqueue v t o hv => exact ⟨hrecords, hrevision⟩
  | endCommand v o hv => exact ⟨hrecords, hrevision⟩
  | accept v c hv => exact ⟨hrecords, hrevision⟩
  | meter n f hdef hsound => exact ⟨hrecords, hrevision⟩
  | record u f hrange hsteady => exact ⟨hrange.recordsInBounds hrecords, hrevision⟩
  | moved u f hrange ht htracked hfits =>
    exact hrehold (Rehold.reevalAll _) (hrange.recordsInBounds hrecords) hrevision
  | joined u x f p hrange hp htag hout hin hfits =>
    refine hrehold (Rehold.reevalAll _) ?_ (Nat.le_of_lt_succ (Nat.mod_lt _ (by decide)))
    exact hrange.recordsInBounds hrecords
  | left u f hrange hout =>
    refine hrehold (Rehold.reevalAll _) ?_ (State.leaveTrain_revision u hrevision)
    have hleft := hrange.recordsInBounds hrecords
    simp only [RecordsInBounds, State.modPig_pigs, State.leaveTrain_pigs] at hleft ⊢
    exact hleft
  | raise c => exact ⟨hrecords, hrevision⟩
  | note c => exact ⟨hrecords, hrevision⟩
  | due l => exact ⟨hrecords, hrevision⟩
  | choices n => exact ⟨hrecords, hrevision⟩

theorem State.updValve_pigs (s : State) (n : Nat) (f : Valve → Valve) : (s.updValve n f).pigs = s.pigs := by
  unfold State.updValve
  split
  · rfl
  · rw [State.touchIf_eq]
    rfl

theorem State.updValve_revision (s : State) (n : Nat) (f : Valve → Valve) : (s.updValve n f).revision = s.revision := by
  unfold State.updValve
  split
  · rfl
  · rw [State.touchIf_eq]
    rfl

theorem Runs.bounded {s t : State} (h : Runs s t) (hs : RecordsInBounds s ∧ s.revision ≤ 255) :
    RecordsInBounds t ∧ t.revision ≤ 255 := by
  induction h with
  | refl s => exact hs
  | change h => exact h.bounded hs
  | trans _ _ ih ih' => exact ih' (ih hs)
  | debounce n v c hv h ih =>
    obtain ⟨hrecords, hrevision⟩ := ih (by rwa [RecordsInBounds, State.updValve_pigs, State.updValve_revision])
    exact ⟨State.strikeTest_recordsInBounds hrecords n, (Rehold.strikeTest _ n).revision.trans_le hrevision⟩

/-- A run keeps the ranges: it changes neither the clock nor the number of live records. -/
theorem PigBounds.runs {s t : State} (hruns : Runs s t) (h : PigBounds s) : PigBounds t := by
  obtain ⟨hrecords, hrevision⟩ := hruns.bounded ⟨h.records, h.revision⟩
  have hline := SameLine.of_runs hruns
  refine ⟨hrecords, ?_, hrevision, ?_⟩
  · have hlength := congrArg List.length hline.tags
    simp only [List.length_map] at hlength
    exact hlength ▸ h.live
  · rw [hline.rest]
    exact h.clock

theorem length_insertByKey {α : Type} (key : α → Nat) (a : α) (l : List α) :
    (insertByKey key a l).length = l.length + 1 := by
  induction l with
  | nil => rfl
  | cons b l ih =>
    unfold insertByKey
    split
    · rfl
    · simp only [List.length_cons, ih]

/-- A record within the ranges put into a table that is not full. -/
theorem PigBounds.insertPig {s : State} (h : PigBounds s) {p : Pig} (hfull : s.pigs.length < 32) (hp : p.inBounds) :
    PigBounds { s with pigs := insertByKey Pig.tag p s.pigs } := by
  refine ⟨fun q hq => ?_, ?_, h.revision, h.clock⟩
  · rcases (mem_insertByKey Pig.tag p q s.pigs).1 hq with rfl | hmem
    · exact hp
    · exact h.records q hmem
  · simp only [length_insertByKey]
    omega

theorem PigBounds.acts {s t : State} (hacts : Acts true s t) (h : PigBounds s) : PigBounds t := by
  have hreeval : ∀ {u : State}, PigBounds u → PigBounds u.reevalAll := fun hu => hu.runs (Runs.reevalAll _)
  induction hacts with
  | runs hruns => exact h.runs hruns
  | trans _ _ ih ih' => exact ih' (ih h)
  | aside s => exact ⟨h.records, h.live, h.revision, h.clock⟩
  | tick s =>
    by_cases hready : s.ready = true
    · rw [State.tick_of_ready hready]
      exact ⟨h.records, h.live, h.revision, Nat.min_le_right ..⟩
    · rw [State.tick_of_not_ready hready]
      exact ⟨h.records, h.live, h.revision, Nat.min_le_right ..⟩
  | tuneStation s k f hf => exact ⟨h.records, h.live, h.revision, h.clock⟩
  | tuneValve s v g c hline => exact ⟨h.records, h.live, h.revision, h.clock⟩
  | rezone s v g c =>
    have htuned : PigBounds (s.modValve v (Valve.tuned g c)) := ⟨h.records, h.live, h.revision, h.clock⟩
    exact htuned.runs (Runs.reevalValve ..)
  | tuneMeter s m r c => exact ⟨h.records, h.live, h.revision, h.clock⟩
  | addStation s x hline hfresh hqueue => exact ⟨h.records, h.live, h.revision, h.clock⟩
  | addDetector s d hline hfresh hrearm => exact ⟨h.records, h.live, h.revision, h.clock⟩
  | addValve s v hline hfresh hholders hstruck => exact ⟨h.records, h.live, h.revision, h.clock⟩
  | addMeter s m hline hfresh hprovisional => exact ⟨h.records, h.live, h.revision, h.clock⟩
  | clear s hline => exact ⟨h.records, h.live, h.revision, h.clock⟩
  | commit s hline hpassed => exact ⟨h.records, h.live, h.revision, h.clock⟩
  | opened s hquiet => exact ⟨h.records, h.live, h.revision, h.clock⟩
  | linkReset s => exact ⟨h.records, h.live, h.revision, h.clock⟩
  | reset s => exact ⟨fun p hp => absurd hp List.not_mem_nil, Nat.zero_le _, Nat.zero_le _, Nat.zero_le _⟩
  | gauge s profiles params hsame => exact ⟨h.records, h.live, h.revision, h.clock⟩
  | regauge s profiles params hruns =>
    have hgauged : PigBounds (s.gauged profiles params) := ⟨h.records, h.live, h.revision, h.clock⟩
    exact hreeval (hgauged.runs hruns)
  | declare s p hready hfresh hfull hbounds =>
    have hjoined : PigBounds (s.joinTrain p.tag p.position) :=
      ⟨h.records, h.live, Nat.le_of_lt_succ (Nat.mod_lt _ (by decide)), h.clock⟩
    exact hreeval (hjoined.insertPig hfull hbounds)
  | stage s p hready hfresh hfull hbounds => exact h.insertPig hfull hbounds
  | retire s u hout hruns =>
    have hdropped : PigBounds (s.dropPig u) :=
      ⟨fun p hp => h.records p (List.mem_of_mem_filter hp), Nat.le_trans (List.length_filter_le ..) h.live, h.revision,
        h.clock⟩
    exact hreeval (hdropped.runs hruns)

/-- Settles O8: every act keeps the ranges. -/
theorem pigBoundsHold : Obligations.PigBoundsHold := by
  unfold Obligations.PigBoundsHold
  exact fun s t h hstep => h.acts (Acts.of_step hstep)

/-! ### Provisional volume -/

/-- Every item of a table meets a property where one number's items change, and keep it. -/
theorem forall_mod {α : Type} {key : α → Nat} {k : Nat} {f : α → α} {P : α → Prop} {l : List α}
    (hf : ∀ x ∈ l, key x = k → P x → P (f x)) (hl : ∀ x ∈ l, P x) :
    ∀ y ∈ l.map fun x => if key x = k then f x else x, P y := fun y hy => by
  obtain ⟨x, hx, rfl⟩ := List.mem_map.1 hy
  split
  · exact hf x hx ‹_› (hl x hx)
  · exact hl x hx

theorem forall_insertByKey {α : Type} {key : α → Nat} {a : α} {P : α → Prop} {l : List α} (ha : P a) (hl : ∀ x ∈ l, P x) :
    ∀ y ∈ insertByKey key a l, P y := fun y hy => by
  rcases (mem_insertByKey key a y l).1 hy with rfl | hmem
  · exact ha
  · exact hl y hmem

/-! What touches neither the detectors nor the meters. -/

theorem State.updSlot_meters (s : State) (k : Nat) (f : Slot → Slot) : (s.updSlot k f).meters = s.meters := by
  unfold State.updSlot
  split
  · rfl
  · rw [State.touchIf_eq]
    rfl

theorem State.updSlot_detectors (s : State) (k : Nat) (f : Slot → Slot) : (s.updSlot k f).detectors = s.detectors := by
  unfold State.updSlot
  split
  · rfl
  · rw [State.touchIf_eq]
    rfl

theorem State.leaveTrain_meters (s : State) (t : Nat) : (s.leaveTrain t).meters = s.meters := by
  unfold State.leaveTrain
  split <;> rfl

theorem State.leaveTrain_detectors (s : State) (t : Nat) : (s.leaveTrain t).detectors = s.detectors := by
  unfold State.leaveTrain
  split <;> rfl

theorem State.updValve_meters (s : State) (n : Nat) (f : Valve → Valve) : (s.updValve n f).meters = s.meters := by
  unfold State.updValve
  split
  · rfl
  · rw [State.touchIf_eq]
    rfl

theorem State.updValve_detectors (s : State) (n : Nat) (f : Valve → Valve) : (s.updValve n f).detectors = s.detectors := by
  unfold State.updValve
  split
  · rfl
  · rw [State.touchIf_eq]
    rfl

/-- A change leaves the meters, or changes those of one number soundly. -/
theorem Change.meters {s t : State} (h : Change s t) (hrise : TablesRise s) :
    t.meters = s.meters ∨ ∃ n f, t.meters = (s.modMeter n f).meters ∧
      ∀ m, s.meter n = some m → m.provisionalSound → (f m).provisionalSound := by
  cases h with
  | reevalValve v => exact .inl (Rehold.reevalValve s v).meters
  | reseat k f hblank => exact .inl ((Rehold.reevalStation ..).meters.trans (s.updSlot_meters k f))
  | meter n f hdef hsound => exact .inr ⟨n, f, rfl, hsound hrise⟩
  | moved u f => exact .inl (Rehold.reevalAll _).meters
  | joined u x f => exact .inl (Rehold.reevalAll _).meters
  | left u f => exact .inl ((Rehold.reevalAll _).meters.trans (s.leaveTrain_meters u))
  | station | serve | link | detector | valve | enqueue | endCommand | accept | record | raise | note | due | choices =>
    exact .inl rfl

theorem Runs.meters {s t : State} (h : Runs s t) (hrise : TablesRise s) (hs : ∀ m ∈ s.meters, m.provisionalSound) :
    ∀ m ∈ t.meters, m.provisionalSound := by
  induction h with
  | refl s => exact hs
  | change h =>
    rcases h.meters hrise with heq | ⟨n, f, heq, hf⟩ <;> rw [heq]
    · exact hs
    · exact forall_mod (fun m hm hn => hf m (hn ▸ hrise.meter_of_mem hm)) hs
  | trans hst _ ih ih' => exact ih' ((SameLine.of_runs hst).tablesRise hrise) (ih hrise hs)
  | debounce n v c hv h ih =>
    rw [(Rehold.strikeTest _ n).meters]
    refine ih ((SameLine.updValve _ n (fun y => y.afterCode c) fun _ => rfl).tablesRise hrise) ?_
    rwa [State.updValve_meters]

/-- Meters whose provisional volume is 0 are sound, whatever state they enter (R49). -/
theorem Meter.provisionalSound_of_zero {m : Meter} (h : m.provisional = 0) : m.provisionalSound := fun hne => absurd h hne

theorem ProvisionalOnlyInOutage.acts {s t : State} (hacts : Acts true s t) (hrise : TablesRise s)
    (h : ∀ m ∈ s.meters, m.provisionalSound) : ∀ m ∈ t.meters, m.provisionalSound := by
  induction hacts with
  | runs hruns => exact hruns.meters hrise h
  | trans hst _ ih ih' => exact ih' (hrise.acts hst) (ih hrise h)
  | tick s =>
    by_cases hready : s.ready = true
    · rwa [State.tick_of_ready hready]
    · rwa [State.tick_of_not_ready hready]
  | rezone s v g c => rwa [(Rehold.reevalValve _ v).meters]
  | tuneMeter s m r c => exact forall_mod (fun _ _ _ => id) h
  | addMeter s m hline hfresh hprovisional =>
    exact forall_insertByKey (Meter.provisionalSound_of_zero hprovisional) h
  | clear s hline => exact fun m hm => by cases hm
  | commit s hline hpassed =>
    intro m hm
    obtain ⟨n, -, rfl⟩ := List.mem_map.1 hm
    exact Meter.provisionalSound_of_zero rfl
  | reset s => exact fun m hm => by cases hm
  | regauge s profiles params hruns =>
    rw [(Rehold.reevalAll _).meters]
    exact hruns.meters ⟨hrise.stations, hrise.detectors, hrise.valves, hrise.meters, hrise.pigs⟩ h
  | declare s p => rwa [(Rehold.reevalAll _).meters]
  | retire s u hout hruns =>
    rw [(Rehold.reevalAll _).meters]
    exact hruns.meters (hrise.dropPig u) h
  | aside | tuneStation | tuneValve | addStation | addDetector | addValve | opened | linkReset | gauge | stage => exact h

/-- Settles O12: every change of a meter is sound, and no other act gives one provisional volume. -/
theorem provisionalVolumeNeedsAnOutage : Obligations.ProvisionalVolumeNeedsAnOutage := by
  unfold Obligations.ProvisionalVolumeNeedsAnOutage
  exact fun s t hrise h hstep => ProvisionalOnlyInOutage.acts (Acts.of_step hstep) hrise h

/-! ### The re-arm sets -/

/-- A change leaves the detectors, or changes those of one number soundly. -/
theorem Change.detectors {s t : State} (h : Change s t) (hrise : TablesRise s) :
    t.detectors = s.detectors ∨ ∃ n f, t.detectors = (s.modDetector n f).detectors ∧
      ∀ d, s.detector n = some d → d.rearmSound → (f d).rearmSound := by
  cases h with
  | reevalValve v => exact .inl (Rehold.reevalValve s v).detectors
  | reseat k f hblank => exact .inl ((Rehold.reevalStation ..).detectors.trans (s.updSlot_detectors k f))
  | detector n f hdef hrearm => exact .inr ⟨n, f, rfl, hrearm hrise⟩
  | moved u f => exact .inl (Rehold.reevalAll _).detectors
  | joined u x f => exact .inl (Rehold.reevalAll _).detectors
  | left u f => exact .inl ((Rehold.reevalAll _).detectors.trans (s.leaveTrain_detectors u))
  | station | serve | link | meter | valve | enqueue | endCommand | accept | record | raise | note | due | choices =>
    exact .inl rfl

theorem Runs.detectors {s t : State} (h : Runs s t) (hrise : TablesRise s) (hs : ∀ d ∈ s.detectors, d.rearmSound) :
    ∀ d ∈ t.detectors, d.rearmSound := by
  induction h with
  | refl s => exact hs
  | change h =>
    rcases h.detectors hrise with heq | ⟨n, f, heq, hf⟩ <;> rw [heq]
    · exact hs
    · exact forall_mod (fun d hd hn => hf d (hn ▸ hrise.detector_of_mem hd)) hs
  | trans hst _ ih ih' => exact ih' ((SameLine.of_runs hst).tablesRise hrise) (ih hrise hs)
  | debounce n v c hv h ih =>
    rw [(Rehold.strikeTest _ n).detectors]
    refine ih ((SameLine.updValve _ n (fun y => y.afterCode c) fun _ => rfl).tablesRise hrise) ?_
    rwa [State.updValve_detectors]

theorem Detector.rearmSound_of_out {d : Detector} (h : d.inRearmSet = false) : d.rearmSound := fun hin => by
  rw [h] at hin
  cases hin

theorem Detector.second_rearmSound {d : Detector} (h : d.rearmSound) : d.second.rearmSound := by
  unfold Detector.second
  split
  · exact h
  · exact h

theorem Detector.linkReset_rearmSound {d : Detector} (h : d.rearmSound) : d.linkReset.rearmSound := by
  unfold Detector.linkReset
  split
  · exact h
  · rename_i hout
    exact rearmSound_of_out (Bool.eq_false_iff.2 hout)

/-- A table of which every item changes, and keeps a property. -/
theorem forall_map {α : Type} {f : α → α} {P : α → Prop} {l : List α} (hf : ∀ x, P x → P (f x)) (hl : ∀ x ∈ l, P x) :
    ∀ y ∈ l.map f, P y := fun y hy => by
  obtain ⟨x, hx, rfl⟩ := List.mem_map.1 hy
  exact hf x (hl x hx)

theorem RearmOnlyTripped.acts {s t : State} (hacts : Acts true s t) (hrise : TablesRise s)
    (h : ∀ d ∈ s.detectors, d.rearmSound) : ∀ d ∈ t.detectors, d.rearmSound := by
  induction hacts with
  | runs hruns => exact hruns.detectors hrise h
  | trans hst _ ih ih' => exact ih' (hrise.acts hst) (ih hrise h)
  | tick s =>
    by_cases hready : s.ready = true
    · rw [State.tick_of_ready hready]
      exact forall_map (fun _ => Detector.second_rearmSound) h
    · rwa [State.tick_of_not_ready hready]
  | rezone s v g c => rwa [(Rehold.reevalValve _ v).detectors]
  | addDetector s d hline hfresh hrearm => exact forall_insertByKey (Detector.rearmSound_of_out hrearm) h
  | clear s hline => exact fun d hd => by cases hd
  | commit s hline hpassed =>
    intro d hd
    obtain ⟨e, -, rfl⟩ := List.mem_map.1 hd
    exact Detector.rearmSound_of_out rfl
  | opened s hquiet =>
    intro d hd
    obtain ⟨e, -, rfl⟩ := List.mem_map.1 hd
    exact Detector.rearmSound_of_out rfl
  | linkReset s => exact forall_map (fun _ => Detector.linkReset_rearmSound) h
  | reset s => exact fun d hd => by cases hd
  | regauge s profiles params hruns =>
    rw [(Rehold.reevalAll _).detectors]
    exact hruns.detectors ⟨hrise.stations, hrise.detectors, hrise.valves, hrise.meters, hrise.pigs⟩ h
  | declare s p => rwa [(Rehold.reevalAll _).detectors]
  | retire s u hout hruns =>
    rw [(Rehold.reevalAll _).detectors]
    exact hruns.detectors (hrise.dropPig u) h
  | aside | tuneStation | tuneValve | tuneMeter | addStation | addMeter | addValve | gauge | stage => exact h

/-- Settles O13: every change of a detector is sound, and no other act puts one in its re-arm set. -/
theorem rearmSetHoldsTripped : Obligations.RearmSetHoldsTripped := by
  unfold Obligations.RearmSetHoldsTripped
  exact fun s t hrise h hstep => RearmOnlyTripped.acts (Acts.of_step hstep) hrise h

end Sys2Proof.Machine
end

section
/-! SUPPORT. The queues through every change, and so through every act (O14). -/

namespace Sys2Proof.Machine

/-- A change of the items of one number that leaves what g reads of those of the table leaves what g reads of it. -/
theorem map_mod_of_mem {α β : Type} {key : α → Nat} {k : Nat} {f : α → α} {g : α → β} {l : List α}
    (hf : ∀ x ∈ l, key x = k → g (f x) = g x) : (l.map fun x => if key x = k then f x else x).map g = l.map g := by
  rw [List.map_map]
  refine List.map_congr_left fun x hx => ?_
  simp only [Function.comp_apply]
  split
  · exact hf x hx ‹_›
  · rfl

/-- What an entry of a queue has to do with its valve. -/
def Valve.entry (v : Valve) : Nat × Nat × Option Phase := (v.num, v.station, v.command.map Command.phase)

/-- A station with its queue. -/
def Station.withQueue (x : Station) : Nat × List Nat := (x.num, x.queue)

theorem State.queueEntryOk_iff {s : State} {k v : Nat} :
    s.queueEntryOk k v = true ↔ ∃ y, s.valve v = some y ∧ y.station = k ∧ y.command.map Command.phase = some .queued := by
  unfold State.queueEntryOk
  cases s.valve v with
  | none => simp
  | some y => cases hc : y.command <;> simp [hc]

/-- An entry of a queue stands or falls with what it has to do with its valve. -/
theorem State.queueEntryOk_of_entries {s t : State} (h : t.valves.map Valve.entry = s.valves.map Valve.entry) {k v : Nat}
    (hs : s.queueEntryOk k v = true) : t.queueEntryOk k v = true := by
  obtain ⟨y, hy, hstation, hphase⟩ := State.queueEntryOk_iff.1 hs
  have hfind : (t.valve v).map Valve.entry = (s.valve v).map Valve.entry :=
    find?_map_congr Valve.num Valve.entry (fun _ _ h => (Prod.mk.inj h).1) v _ _ h
  rw [hy, Option.map_some] at hfind
  obtain ⟨z, hz, hentry⟩ := Option.map_eq_some_iff.1 hfind
  obtain ⟨-, hrest⟩ := Prod.mk.inj hentry
  obtain ⟨hzstation, hzphase⟩ := Prod.mk.inj hrest
  exact State.queueEntryOk_iff.2 ⟨z, hz, hzstation.trans hstation, hzphase.trans hphase⟩

/-- The queues hold QUEUED commands where the queues and what their entries have to do with the valves are the same. -/
theorem QueuesHoldQueued.congr {s t : State} (h : QueuesHoldQueued s)
    (hstations : t.stations.map Station.withQueue = s.stations.map Station.withQueue)
    (hvalves : t.valves.map Valve.entry = s.valves.map Valve.entry) : QueuesHoldQueued t := by
  refine forall_of_map_eq (P := fun x => ∀ v ∈ x.queue, t.queueEntryOk x.num v = true) (fun a b hab ha => ?_) hstations
    fun x hx v hv => State.queueEntryOk_of_entries hvalves (h x hx v hv)
  obtain ⟨hnum, hqueue⟩ := Prod.mk.inj hab
  rwa [← hnum, ← hqueue]

theorem Rehold.queues {s t : State} (h : Rehold s t) (hs : QueuesHoldQueued s) : QueuesHoldQueued t := by
  refine hs.congr ?_ ?_
  · have := congrArg (List.map Station.withQueue) h.stations
    simp only [List.map_map] at this
    exact this
  · have := congrArg (List.map Valve.entry) h.valves
    simp only [List.map_map] at this
    exact this

/-- A change of one valve leaves the entries of the others. -/
theorem State.queueEntryOk_modValve_ne {s : State} {n k u : Nat} (f : Valve → Valve) (hnum : ∀ y, (f y).num = y.num)
    (hu : u ≠ n) (h : s.queueEntryOk k u = true) : (s.modValve n f).queueEntryOk k u = true := by
  obtain ⟨y, hy, hrest⟩ := State.queueEntryOk_iff.1 h
  refine State.queueEntryOk_iff.2 ⟨y, ?_, hrest⟩
  rw [State.valve_modValve s n u f hnum, hy, Option.map_some, if_neg]
  rwa [State.valve_num hy]

/-- A valve's command ends or leaves QUEUED as the valve leaves its station's queue (R111, R116). -/
theorem QueuesHoldQueued.leaveQueue {s : State} (h : QueuesHoldQueued s) (hrise : TablesRise s) {v : Valve}
    (hv : v ∈ s.valves) (f : Valve → Valve) (hf : ∀ y, (f y).num = y.num) (g : Station → Station)
    (hg : ∀ x, (g x).num = x.num ∧ (g x).queue = x.queue.filter (· ≠ v.num)) :
    QueuesHoldQueued ((s.modValve v.num f).modStation v.station g) := by
  intro y hy u hu
  obtain ⟨x, hx, rfl⟩ := List.mem_map.1 hy
  suffices hkept : u ≠ v.num ∧ u ∈ x.queue by
    have hnum : (if x.num = v.station then g x else x).num = x.num := by
      split
      · exact (hg x).1
      · rfl
    rw [hnum]
    exact State.queueEntryOk_modValve_ne f hf hkept.1 (h x hx u hkept.2)
  split at hu
  · rw [(hg x).2, List.mem_filter, decide_eq_true_eq] at hu
    exact ⟨hu.2, hu.1⟩
  · rename_i hstation
    refine ⟨?_, hu⟩
    rintro rfl
    obtain ⟨z, hz, hzstation, -⟩ := State.queueEntryOk_iff.1 (h x hx v.num hu)
    rw [hrise.valve_of_mem hv, Option.some.injEq] at hz
    exact hstation (hz ▸ hzstation.symm)

/-- A command enters its station's queue QUEUED (R109). -/
theorem QueuesHoldQueued.enqueue {s : State} (h : QueuesHoldQueued s) (hrise : TablesRise s) {v : Valve}
    (hv : v ∈ s.valves) (t : Target) (o : Origin) : QueuesHoldQueued (s.enqueue v t o) := by
  have hentered : (s.enqueue v t o).queueEntryOk v.station v.num = true := by
    refine State.queueEntryOk_iff.2 ⟨{ v with command := some (Command.fresh t o s.clock) }, ?_, rfl, rfl⟩
    have hvalve := s.valve_modValve v.num v.num (fun x => { x with command := some (Command.fresh t o s.clock) })
      fun _ => rfl
    rw [hrise.valve_of_mem hv, Option.map_some, if_pos rfl] at hvalve
    exact hvalve
  intro y hy u hu
  obtain ⟨x, hx, rfl⟩ := List.mem_map.1 hy
  have hnum : ∀ x : Station, (if x.num = v.station then { x with queue := x.queue ++ [v.num] } else x).num = x.num := by
    intro x
    split <;> rfl
  rw [hnum]
  by_cases hvalve : u = v.num
  · subst hvalve
    suffices hstation : x.num = v.station by rw [hstation]; exact hentered
    by_contra hne
    rw [if_neg hne] at hu
    obtain ⟨z, hz, hzstation, -⟩ := State.queueEntryOk_iff.1 (h x hx v.num hu)
    rw [hrise.valve_of_mem hv, Option.some.injEq] at hz
    exact hne (hz ▸ hzstation.symm)
  · refine State.queueEntryOk_modValve_ne (s := s) _ ?_ hvalve (h x hx u ?_)
    · exact fun _ => rfl
    · split at hu
      · simpa [hvalve] using hu
      · exact hu

theorem QueuesHoldQueued.change {s t : State} (hchange : Change s t) (hrise : TablesRise s) (h : QueuesHoldQueued s) :
    QueuesHoldQueued t := by
  have hstationCase : ∀ k (f : Station → Station), (∀ x, (f x).definition = x.definition) →
      (∀ x, s.station k = some x → (f x).queue = x.queue) → QueuesHoldQueued (s.modStation k f) := fun k f hdef hqueue => by
    refine h.congr (map_mod_of_mem fun x hx hk => ?_) rfl
    simp only [Station.withQueue, Station.num_of_definition (hdef x), hqueue x (hk ▸ hrise.station_of_mem hx)]
  cases hchange with
  | reevalValve v => exact (Rehold.reevalValve s v).queues h
  | station k f hdef hkept => exact hstationCase k f hdef fun x hx => (hkept x hx).1
  | reseat k f hblank =>
    refine (Rehold.reevalStation ..).queues ?_
    cases hx : s.station k with
    | none => rwa [State.updSlot_of_none f hx]
    | some x =>
      rw [State.updSlot_of_some f hx]
      refine hstationCase k _ ?_ ?_
      · exact fun _ => rfl
      · exact fun _ _ => rfl
  | serve k =>
    refine h.congr ?_ rfl
    rw [State.serve, List.map_map]
    refine List.map_congr_left fun x _ => ?_
    simp only [Function.comp_apply, Station.waited]
    split <;> rfl
  | valve n f hdef hkept =>
    refine h.congr rfl (map_mod_of_mem fun v hv hn => ?_)
    have hcommitted := hdef v
    have hphase := (hkept v (hn ▸ hrise.valve_of_mem hv)).phase
    have hnum : (f v).num = v.num := Valve.num_of_committed hcommitted
    have hstation : (f v).station = v.station := (congrArg Valve.station hcommitted : (f v).committed.station = v.committed.station)
    simp only [Valve.entry, hnum, hstation, hphase]
  | enqueue v t o hv => exact h.enqueue hrise hv t o
  | endCommand v o hv =>
    refine h.leaveQueue hrise hv _ ?_ _ ?_
    · exact fun _ => rfl
    · exact fun _ => ⟨rfl, rfl⟩
  | accept v c hv =>
    refine h.leaveQueue hrise hv _ ?_ _ ?_
    · exact fun _ => rfl
    · exact fun _ => ⟨rfl, rfl⟩
  | moved u f => exact (Rehold.reevalAll _).queues (h.congr (t := s.modPig u f) rfl rfl)
  | joined u x f => exact (Rehold.reevalAll _).queues (h.congr (t := (s.joinTrain u x).modPig u f) rfl rfl)
  | left u f =>
    refine (Rehold.reevalAll _).queues (h.congr ?_ ?_)
    · unfold State.leaveTrain
      split <;> rfl
    · unfold State.leaveTrain
      split <;> rfl
  | link | detector | meter | record | raise | note | due | choices => exact h.congr rfl rfl

theorem QueuesHoldQueued.runs {s t : State} (hruns : Runs s t) (hrise : TablesRise s) (h : QueuesHoldQueued s) :
    QueuesHoldQueued t := by
  induction hruns with
  | refl s => exact h
  | change hchange => exact h.change hchange hrise
  | trans hst _ ih ih' => exact ih' ((SameLine.of_runs hst).tablesRise hrise) (ih hrise h)
  | debounce n v c hv hrun ih =>
    refine (Rehold.strikeTest _ n).queues
      (ih ((SameLine.updValve _ n (fun y => y.afterCode c) fun _ => rfl).tablesRise hrise) ?_)
    rw [State.updValve_of_some _ hv]
    refine h.congr ?_ ?_
    · refine map_mod_of_same _ _ _ _ ?_ _
      exact fun _ _ => rfl
    · refine map_mod_of_same Valve.num n (fun y => y.afterCode c) _ ?_ _
      exact fun _ _ => rfl

theorem Command.second_phase (c : Command) : c.second.phase = c.phase := by
  unfold Command.second
  cases c.phase <;> rfl

theorem Valve.second_entry (v : Valve) : v.second.entry = v.entry := by
  simp only [Valve.entry, Valve.second, Option.map_map, show Command.phase ∘ Command.second = Command.phase from
    funext Command.second_phase]

/-- Queues that are empty hold no command. -/
theorem QueuesHoldQueued.of_empty {s : State} (h : ∀ x ∈ s.stations, x.queue = []) : QueuesHoldQueued s := fun x hx v hv => by
  rw [h x hx] at hv
  cases hv

theorem QueuesHoldQueued.acts {s t : State} (hacts : Acts true s t) (hrise : TablesRise s) (h : QueuesHoldQueued s) :
    QueuesHoldQueued t := by
  induction hacts with
  | runs hruns => exact h.runs hruns hrise
  | trans hst _ ih ih' => exact ih' (hrise.acts hst) (ih hrise h)
  | tick s =>
    by_cases hready : s.ready = true
    · rw [State.tick_of_ready hready]
      refine h.congr ?_ ?_
      · dsimp only
        split
        · rfl
        · rw [List.map_map]
          exact List.map_congr_left fun _ _ => rfl
      · rw [List.map_map]
        exact List.map_congr_left fun v _ => v.second_entry
    · rw [State.tick_of_not_ready hready]
      exact h.congr rfl rfl
  | tuneStation s k f hf =>
    refine h.congr (map_mod_of_same _ _ _ _ (fun x _ => ?_) _) rfl
    simp only [Station.withQueue, hf.num, hf.queue]
  | tuneValve s v g c hline => exact h.congr rfl (map_mod_of_same _ _ (Valve.tuned g c) _ (fun _ _ => rfl) _)
  | rezone s v g c =>
    exact (Rehold.reevalValve _ v).queues (h.congr rfl (map_mod_of_same _ _ (Valve.tuned g c) _ (fun _ _ => rfl) _))
  | addStation s x hline hfresh hqueue =>
    refine forall_insertByKey (fun v hv => ?_) h
    rw [hqueue] at hv
    cases hv
  | addValve s v hline hfresh hholders hstruck =>
    intro x hx u hu
    obtain ⟨y, hy, hentry⟩ := State.queueEntryOk_iff.1 (h x hx u hu)
    have hmem : y ∈ insertByKey Valve.num v s.valves := (mem_insertByKey ..).2 (.inr (State.valve_mem hy))
    have hrises := hrise.acts (.addValve s v hline hfresh hholders hstruck)
    have hfound := hrises.valve_of_mem (x := y) hmem
    rw [State.valve_num hy] at hfound
    exact State.queueEntryOk_iff.2 ⟨y, hfound, hentry⟩
  | clear s hline => exact .of_empty fun x hx => absurd hx List.not_mem_nil
  | commit s hline hpassed =>
    refine .of_empty fun x hx => ?_
    obtain ⟨y, -, rfl⟩ := List.mem_map.1 hx
    rfl
  | linkReset s =>
    refine h.congr ?_ ?_
    · exact (List.map_map ..).trans (List.map_congr_left fun _ _ => rfl)
    · exact (List.map_map ..).trans (List.map_congr_left fun _ _ => rfl)
  | reset s => exact .of_empty fun x hx => absurd hx List.not_mem_nil
  | regauge s profiles params hruns =>
    refine (Rehold.reevalAll _).queues (QueuesHoldQueued.runs hruns ?_ (h.congr rfl rfl))
    exact ⟨hrise.stations, hrise.detectors, hrise.valves, hrise.meters, hrise.pigs⟩
  | declare s p => exact (Rehold.reevalAll _).queues (h.congr rfl rfl)
  | retire s u hout hruns =>
    exact (Rehold.reevalAll _).queues (QueuesHoldQueued.runs hruns (hrise.dropPig u) (h.congr rfl rfl))
  | aside | tuneMeter | addDetector | addMeter | opened | gauge | stage => exact h.congr rfl rfl

/-- Settles O14: a command leaves its queue as it ends or is accepted, and enters it QUEUED. -/
theorem queuesStayQueued : Obligations.QueuesStayQueued := by
  unfold Obligations.QueuesStayQueued
  exact fun s t hrise h hstep => h.acts (Acts.of_step hstep) hrise

end Sys2Proof.Machine
end

section
/-! SUPPORT. The strikes through every change, and so through every act (O11). -/

namespace Sys2Proof.Machine

/-- A valve is struck exactly while it is a MAINLINE valve, held, and CLOSED, MOVING or FAULT (R122). -/
def Valve.strikeSound (v : Valve) : Prop :=
  v.struck = (decide (v.role = .mainline) && decide (v.holders ≠ []) && v.debounced.notOpen)

/-- The valve of a number, where there is one, is struck as R122 says. -/
def State.strikeAt (s : State) (n : Nat) : Prop := ∀ v, s.valve n = some v → v.strikeSound

/-- A hold that is stored makes the strike the one R122 says, of a MAINLINE valve. -/
theorem Valve.holding_strikeSound {v : Valve} (hrole : v.role = .mainline) (l : List Nat) : (v.holding l v).strikeSound := by
  simp only [Valve.strikeSound, Valve.holding, hrole]

theorem Valve.strikeSound_of_side {v : Valve} (hrole : v.role ≠ .mainline) : v.strikeSound ↔ v.struck = false := by
  simp only [Valve.strikeSound, hrole, decide_false, Bool.false_and]

theorem State.strikeRecords_valves (s : State) (l : List Nat) : (s.strikeRecords l).valves = s.valves := by
  unfold State.strikeRecords
  induction l generalizing s with
  | nil => rfl
  | cons t l ih => exact (ih _).trans rfl

/-- What a stored hold leaves of each valve: it changes the one it is stored for. -/
theorem State.valve_applyHold {s : State} {v : Valve} (hv : s.valve v.num = some v) (l : List Nat) (n : Nat) :
    (s.applyHold v l).valve n = (s.valve n).map fun y => if y.num = v.num then v.holding l y else y := by
  have hstored : (s.updValve v.num (v.holding l)).valve n =
      (s.valve n).map fun y => if y.num = v.num then v.holding l y else y := by
    rw [State.updValve_of_some _ hv, State.valve_modStation]
    exact s.valve_modValve v.num n (v.holding l) fun _ => rfl
  rcases s.applyHold_cases v l with h | ⟨tags, h⟩ <;> rw [h]
  · exact hstored
  · rw [← hstored]
    simp only [State.valve, State.raise_valves, State.strikeRecords_valves]

/-- A hold stored for a MAINLINE valve leaves that valve's strike exact, and every other valve as it was. -/
theorem State.strikeAt_applyHold {s : State} {v : Valve} (hv : s.valve v.num = some v) (hrole : v.role = .mainline)
    (l : List Nat) (n : Nat) (h : n = v.num ∨ s.strikeAt n) : (s.applyHold v l).strikeAt n := by
  intro z hz
  rw [State.valve_applyHold hv] at hz
  obtain ⟨y, hy, rfl⟩ := Option.map_eq_some_iff.1 hz
  have hnum := State.valve_num hy
  by_cases hn : n = v.num
  · subst hn
    obtain rfl : v = y := Option.some.inj (hv.symm.trans hy)
    rw [if_pos rfl]
    exact Valve.holding_strikeSound hrole l
  · rw [if_neg (hnum ▸ hn)]
    exact h.resolve_left hn y hy

theorem State.strikeAt_reevalValve {s : State} (v n : Nat) (h : s.strikeAt n) : (s.reevalValve v).strikeAt n := by
  unfold State.reevalValve
  split
  · exact h
  · rename_i x hx
    split
    · rename_i hrole
      have hself : s.valve x.num = some x := State.valve_num hx ▸ hx
      exact State.strikeAt_applyHold hself hrole _ n (.inr h)
    · exact h

theorem State.strikeAt_foldl (l : List Nat) {s : State} {n : Nat} (h : s.strikeAt n) :
    (l.foldl State.reevalValve s).strikeAt n := by
  induction l generalizing s with
  | nil => exact h
  | cons v l ih => exact ih (State.strikeAt_reevalValve v n h)

theorem State.strikeAt_reevalAll {s : State} {n : Nat} (h : s.strikeAt n) : s.reevalAll.strikeAt n := State.strikeAt_foldl _ h

theorem State.strikeAt_congr {s t : State} {n : Nat} (ht : t.valve n = s.valve n) (h : s.strikeAt n) : t.strikeAt n :=
  fun v hv => h v (ht ▸ hv)

/-- A change of a valve that leaves its role, its debounced state, its hold and its strike. -/
theorem State.strikeAt_modValve {s : State} {m n : Nat} {f : Valve → Valve} (hnum : ∀ v, (f v).num = v.num)
    (hf : ∀ v, s.valve m = some v → v.strikeSound → (f v).strikeSound) (h : s.strikeAt n) : (s.modValve m f).strikeAt n := by
  intro z hz
  rw [State.valve_modValve s m n f hnum] at hz
  obtain ⟨y, hy, rfl⟩ := Option.map_eq_some_iff.1 hz
  split
  · rename_i hm
    exact hf y (hm ▸ (State.valve_num hy).symm ▸ hy) (h y hy)
  · exact h y hy

theorem Change.strikeAt {s t : State} (hchange : Change s t) (n : Nat) (h : s.strikeAt n) : t.strikeAt n := by
  cases hchange with
  | reevalValve v => exact State.strikeAt_reevalValve v n h
  | reseat k f hblank =>
    refine State.strikeAt_foldl _ (State.strikeAt_congr ?_ h)
    unfold State.updSlot
    split
    · rfl
    · rw [State.touchIf_eq]
      rfl
  | valve m f hdef hkept =>
    refine State.strikeAt_modValve (fun v => Valve.num_of_committed (hdef v)) (fun v hv hsound => ?_) h
    obtain ⟨-, hdebounced, hholders, hstruck⟩ := hkept v hv
    have hrole : (f v).role = v.role := (congrArg Valve.role (hdef v) : (f v).committed.role = v.committed.role)
    rwa [Valve.strikeSound, hdebounced, hholders, hstruck, hrole]
  | enqueue v t o hv =>
    refine State.strikeAt_modValve (s := s) (m := v.num) ?_ ?_ h
    · exact fun _ => rfl
    · exact fun _ _ h => h
  | endCommand v o hv =>
    refine State.strikeAt_modValve (s := s) (m := v.num) ?_ ?_ h
    · exact fun _ => rfl
    · exact fun _ _ h => h
  | accept v c hv =>
    refine State.strikeAt_modValve (s := s) (m := v.num) ?_ ?_ h
    · exact fun _ => rfl
    · exact fun _ _ h => h
  | moved u f => exact State.strikeAt_reevalAll (State.strikeAt_congr rfl h)
  | joined u x f => exact State.strikeAt_reevalAll (State.strikeAt_congr rfl h)
  | left u f =>
    refine State.strikeAt_reevalAll (State.strikeAt_congr ?_ h)
    unfold State.leaveTrain
    split <;> rfl
  | station | serve | link | detector | meter | record | raise | note | due | choices => exact h

/-- The test for a strike makes a MAINLINE valve's strike exact, and leaves every other valve (R106). -/
theorem State.strikeAt_strikeTest {s : State} {m n : Nat}
    (h : s.strikeAt n ∨ (n = m ∧ ∀ v, s.valve m = some v → v.role = .mainline)) : (s.strikeTest m).strikeAt n := by
  unfold State.strikeTest
  split
  · rename_i hnone
    rcases h with h | ⟨rfl, -⟩
    · exact h
    · intro v hv
      rw [hnone] at hv
      cases hv
  · rename_i x hx
    have hself : s.valve x.num = some x := State.valve_num hx ▸ hx
    split
    · rename_i hrole
      exact State.strikeAt_applyHold hself hrole _ n (h.symm.imp_left fun h => h.1.trans (State.valve_num hx).symm)
    · rename_i hrole
      exact h.resolve_right fun h => hrole (h.2 x hx)

/-- Every run keeps each valve's strike exact: a debounced state that changes is tested for it. -/
theorem Runs.strikeAt {s t : State} (hruns : Runs s t) (n : Nat) (h : s.strikeAt n) : t.strikeAt n := by
  induction hruns with
  | refl s => exact h
  | change hchange => exact hchange.strikeAt n h
  | trans _ _ ih ih' => exact ih' (ih h)
  | @debounce s t m v c hv hrun ih =>
    have hcoded := fun y => State.valve_modValve s m y (fun z => z.afterCode c) fun _ => rfl
    by_cases hmain : n = m ∧ v.role = .mainline
    · obtain ⟨rfl, hrole⟩ := hmain
      refine State.strikeAt_strikeTest (.inr ⟨rfl, fun z hz => ?_⟩)
      have hline := ((SameLine.updValve s n (fun y => y.afterCode c) fun _ => rfl).trans (SameLine.of_runs hrun)).valve n
      rw [hz, hv, Option.map_some, Option.map_some, Option.some.injEq] at hline
      exact (congrArg Valve.role hline : z.committed.role = v.committed.role).trans hrole
    · refine State.strikeAt_strikeTest (.inl (ih fun z hz => ?_))
      rw [State.updValve_of_some _ hv, State.valve_modStation, hcoded] at hz
      obtain ⟨y, hy, rfl⟩ := Option.map_eq_some_iff.1 hz
      split
      · rename_i hm
        have hn : n = m := (State.valve_num hy).symm.trans hm
        subst hn
        obtain rfl : v = y := Option.some.inj (hv.symm.trans hy)
        have hside : v.role ≠ .mainline := fun hrole => hmain ⟨rfl, hrole⟩
        exact (Valve.strikeSound_of_side (v := v.afterCode c) hside).2 ((Valve.strikeSound_of_side hside).1 (h v hv))
      · exact h y hy

theorem TablesRise.strikeAt {s : State} (hrise : TablesRise s) (h : ∀ n, s.strikeAt n) : ∀ v ∈ s.valves, v.strikeSound :=
  fun v hv => h v.num v (hrise.valve_of_mem hv)

theorem State.strikeAt_of_all {s : State} (h : ∀ v ∈ s.valves, v.strikeSound) (n : Nat) : s.strikeAt n :=
  fun v hv => h v (State.valve_mem hv)

theorem Valve.strikeSound_of_free {v : Valve} (hholders : v.holders = []) (hstruck : v.struck = false) : v.strikeSound := by
  simp [Valve.strikeSound, hholders, hstruck]

theorem StrikesExact.runs {s t : State} (hruns : Runs s t) (hrise : TablesRise s) (h : ∀ v ∈ s.valves, v.strikeSound) :
    ∀ v ∈ t.valves, v.strikeSound :=
  ((SameLine.of_runs hruns).tablesRise hrise).strikeAt fun n => hruns.strikeAt n (State.strikeAt_of_all h n)

theorem StrikesExact.acts {s t : State} (hacts : Acts true s t) (hrise : TablesRise s) (h : ∀ v ∈ s.valves, v.strikeSound) :
    ∀ v ∈ t.valves, v.strikeSound := by
  induction hacts with
  | runs hruns => exact StrikesExact.runs hruns hrise h
  | trans hst _ ih ih' => exact ih' (hrise.acts hst) (ih hrise h)
  | tick s =>
    by_cases hready : s.ready = true
    · rw [State.tick_of_ready hready]
      exact forall_map (fun _ hv => hv) h
    · rwa [State.tick_of_not_ready hready]
  | tuneValve s v g c hline => exact forall_mod (f := Valve.tuned g c) (fun _ _ _ hv => hv) h
  | rezone s v g c =>
    refine StrikesExact.runs (Runs.reevalValve ..) ?_ (forall_mod (f := Valve.tuned g c) (fun _ _ _ hv => hv) h)
    exact ⟨hrise.stations, hrise.detectors, rising_mod Valve.num v (Valve.tuned g c) (fun _ => rfl) hrise.valves,
      hrise.meters, hrise.pigs⟩
  | addValve s v hline hfresh hholders hstruck => exact forall_insertByKey (Valve.strikeSound_of_free hholders hstruck) h
  | clear s hline => exact fun v hv => absurd hv List.not_mem_nil
  | commit s hline hpassed =>
    intro v hv
    obtain ⟨w, -, rfl⟩ := List.mem_map.1 hv
    exact Valve.strikeSound_of_free rfl rfl
  | linkReset s =>
    intro v hv
    obtain ⟨w, -, rfl⟩ := List.mem_map.1 hv
    simp [Valve.strikeSound, Valve.linkReset, Debounced.notOpen]
  | reset s => exact fun v hv => absurd hv List.not_mem_nil
  | regauge s profiles params hruns =>
    have hgauged : TablesRise (s.gauged profiles params) :=
      ⟨hrise.stations, hrise.detectors, hrise.valves, hrise.meters, hrise.pigs⟩
    exact StrikesExact.runs (hruns.trans (Runs.reevalAll _)) hgauged h
  | declare s p hready hfresh =>
    refine StrikesExact.runs (Runs.reevalAll _) ?_ h
    exact ((SameLine.joinTrain ..).tablesRise hrise).insertPig hfresh
  | retire s u hout hruns => exact StrikesExact.runs (hruns.trans (Runs.reevalAll _)) (hrise.dropPig u) h
  | aside | tuneStation | tuneMeter | addStation | addDetector | addMeter | opened | gauge | stage => exact h

/-- Settles O11: a stored hold is tested for a strike, and so is a debounced state that changes. -/
theorem strikesStayExact : Obligations.StrikesStayExact := by
  unfold Obligations.StrikesStayExact
  exact fun s t hrise h hstep => StrikesExact.acts (Acts.of_step hstep) hrise h

end Sys2Proof.Machine
end

section
/-! SUPPORT. The Train List through every change, and so through every act (O9). -/

namespace Sys2Proof.Machine

/-! ### What the Train List reads -/

/-- What the Train List reads of a record. -/
def Pig.place (p : Pig) : Nat × Bool × Nat := (p.tag, p.tracked, p.position)

/-- What line start reads of a detector (R14 check 3). -/
def Detector.place (d : Detector) : DetectorKind × Nat := (d.kind, d.position)

/-- Two states in which the Train List reads the same. -/
structure SameGround (s t : State) : Prop where
  stations : t.stations.map Station.position = s.stations.map Station.position
  detectors : t.detectors.map Detector.place = s.detectors.map Detector.place
  pigs : t.pigs.map Pig.place = s.pigs.map Pig.place
  train : t.train = s.train
  lineState : t.lineState = s.lineState

namespace SameGround

variable {s t : State} (h : SameGround s t)

include h

theorem pig (u : Nat) : (t.pig u).map Pig.place = (s.pig u).map Pig.place :=
  find?_map_congr Pig.tag Pig.place (fun _ _ h => (Prod.mk.inj h).1) u _ _ h.pigs

theorem pigPos (u : Nat) : t.pigPos u = s.pigPos u := by
  have := congrArg (Option.map fun x : Nat × Bool × Nat => x.2.2) (h.pig u)
  simp only [Option.map_map] at this
  exact congrArg (Option.getD · 0) this

theorem tracked (u : Nat) : (t.pig u).any Pig.tracked = (s.pig u).any Pig.tracked := by
  have := congrArg (fun o : Option (Nat × Bool × Nat) => o.any fun x => x.2.1) (h.pig u)
  simp only [Option.any_map] at this
  exact this

theorem lineStart : t.lineStart = s.lineStart := by
  have := congrArg (fun l => l.head?.getD 0) h.stations
  simp only [List.head?_map] at this
  exact this

theorem lineEnd : t.lineEnd = s.lineEnd := by
  have := congrArg (fun l => l.getLast?.getD 0) h.stations
  simp only [List.getLast?_map] at this
  exact this

theorem trainInOrder (hs : TrainInOrder s) : TrainInOrder t where
  once := h.train ▸ hs.once
  members u hu := by
    rw [h.tracked]
    exact hs.members u (h.train ▸ hu)
  all := by
    rw [h.train]
    refine forall_of_map_eq (g := Pig.place) (fun a b hab ha hb => ?_) h.pigs hs.all
    obtain ⟨htag, hrest⟩ := Prod.mk.inj hab
    exact htag ▸ ha ((Prod.mk.inj hrest).1.trans hb)
  order := by
    rw [h.train]
    exact hs.order.imp fun hab => by rwa [h.pigPos, h.pigPos]
  onLine u hu := by
    rw [h.pigPos, h.lineEnd]
    exact hs.onLine u (h.train ▸ hu)
  empty hline := by
    have := h.pigs
    rw [hs.empty (h.lineState ▸ hline), List.map_nil, List.map_eq_nil_iff] at this
    exact this

theorem nothingBelowStart (hs : NothingBelowStart s) : NothingBelowStart t where
  stations hready := by
    rw [h.lineStart]
    refine forall_of_map_eq (g := Station.position) (fun a b hab ha => ?_) h.stations (hs.stations (h.lineState ▸ hready))
    exact hab ▸ ha
  detectors hready := by
    rw [h.lineStart]
    refine forall_of_map_eq (g := Detector.place) (fun a b hab ha hkind => ?_) h.detectors
      (hs.detectors (h.lineState ▸ hready))
    obtain ⟨hab, hposition⟩ := Prod.mk.inj hab
    exact hposition ▸ ha (hab.trans hkind)
  train u hu := by
    rw [h.lineStart, h.pigPos]
    exact hs.train u (h.train ▸ hu)

omit h in
theorem trans {u : State} (h : SameGround s t) (g : SameGround t u) : SameGround s u where
  stations := g.stations.trans h.stations
  detectors := g.detectors.trans h.detectors
  pigs := g.pigs.trans h.pigs
  train := g.train.trans h.train
  lineState := g.lineState.trans h.lineState

end SameGround

theorem Rehold.sameGround {s t : State} (h : Rehold s t) : SameGround s t where
  stations := by
    have := congrArg (List.map Station.position) h.stations
    simp only [List.map_map] at this
    exact this
  detectors := by rw [h.detectors]
  pigs := by
    have := congrArg (List.map Pig.place) h.pigs
    simp only [List.map_map] at this
    exact this
  train := h.train
  lineState := h.lineState

/-- The Train List is in order, and nothing stands below line start where nothing did in r. -/
def Lined (r s : State) : Prop := TrainInOrder s ∧ (NothingBelowStart r → NothingBelowStart s)

theorem Lined.ground {r s t : State} (h : Lined r s) (hground : SameGround s t) : Lined r t :=
  ⟨hground.trainInOrder h.1, fun hr => hground.nothingBelowStart (h.2 hr)⟩

/-! ### A record is placed -/

/-- The record found under a tag after a change of the records of one tag. -/
theorem State.pig_modPig_of_tag {s : State} {t : Nat} {f : Pig → Pig} (hf : ∀ p, p.tag = t → (f p).tag = t) (u : Nat) :
    (s.modPig t f).pig u = (s.pig u).map fun p => if p.tag = t then f p else p := by
  have hmod : s.modPig t f = s.modPig t fun p => if p.tag = t then f p else p := by
    unfold State.modPig
    congr 1
    refine List.map_congr_left fun p _ => ?_
    by_cases hp : p.tag = t <;> simp [hp]
  rw [hmod, State.pig_modPig s t u]
  · cases s.pig u with
    | none => rfl
    | some p =>
      simp only [Option.map_some]
      split <;> rfl
  · intro p
    split
    · rename_i hp
      rw [hf p hp, hp]
    · rfl

theorem State.pig_modPig_self {s : State} {t : Nat} {f : Pig → Pig} (hf : ∀ p, p.tag = t → (f p).tag = t) {p : Pig}
    (hp : s.pig t = some p) : (s.modPig t f).pig t = some (f p) := by
  rw [State.pig_modPig_of_tag hf, hp, Option.map_some, if_pos (State.pig_tag hp)]

theorem State.pig_modPig_ne {s : State} {t u : Nat} {f : Pig → Pig} (hf : ∀ p, p.tag = t → (f p).tag = t) (hu : u ≠ t) :
    (s.modPig t f).pig u = s.pig u := by
  rw [State.pig_modPig_of_tag hf]
  cases hp : s.pig u with
  | none => rfl
  | some p =>
    rw [Option.map_some, if_neg]
    rwa [State.pig_tag hp]

theorem State.pigPos_of_some {s : State} {t : Nat} {p : Pig} (hp : s.pig t = some p) : s.pigPos t = p.position := by
  rw [State.pigPos, hp, Option.map_some, Option.getD_some]

/-- A member put between two stretches of an ordered list, at or short of the last before it and at or beyond the first
after it. -/
theorem pairwise_between {pos pos' : Nat → Nat} {l m : List Nat} {t x : Nat}
    (horder : (l ++ m).Pairwise fun a b => pos b ≤ pos a) (hl : t ∉ l) (hm : t ∉ m) (hpos : ∀ u, u ≠ t → pos' u = pos u)
    (hx : pos' t = x) (hlast : ∀ a, l.getLast? = some a → x ≤ pos a) (hhead : ∀ b, m.head? = some b → pos b ≤ x) :
    (l ++ t :: m).Pairwise fun a b => pos' b ≤ pos' a := by
  obtain ⟨horderl, horderm, hacross⟩ := List.pairwise_append.1 horder
  have hl' : ∀ a ∈ l, pos' a = pos a := fun a ha => hpos a fun h => hl (h ▸ ha)
  have hm' : ∀ b ∈ m, pos' b = pos b := fun b hb => hpos b fun h => hm (h ▸ hb)
  have hbefore : ∀ a ∈ l, x ≤ pos a := by
    intro a ha
    obtain ⟨c, hc⟩ := Option.ne_none_iff_exists'.1 (mt List.getLast?_eq_none_iff.1 (List.ne_nil_of_mem ha))
    obtain ⟨i, rfl⟩ := List.getLast?_eq_some_iff.1 hc
    rcases List.mem_append.1 ha with hi | hlast'
    · exact Nat.le_trans (hlast c hc) ((List.pairwise_append.1 horderl).2.2 a hi c (List.mem_singleton.2 rfl))
    · rw [List.mem_singleton.1 hlast']
      exact hlast c hc
  have hbehind : ∀ b ∈ m, pos b ≤ x := by
    intro b hb
    cases m with
    | nil => cases hb
    | cons c m =>
      rcases List.mem_cons.1 hb with rfl | hmem
      · exact hhead _ rfl
      · exact Nat.le_trans ((List.pairwise_cons.1 horderm).1 b hmem) (hhead c rfl)
  refine List.pairwise_append.2 ⟨horderl.imp_of_mem fun ha hb h => ?_, List.pairwise_cons.2 ⟨fun b hb => ?_,
    horderm.imp_of_mem fun ha hb h => ?_⟩, fun a ha b hb => ?_⟩
  · rwa [hl' _ ha, hl' _ hb]
  · rw [hm' b hb, hx]
    exact hbehind b hb
  · rwa [hm' _ ha, hm' _ hb]
  · rw [hl' a ha]
    rcases List.mem_cons.1 hb with rfl | hmem
    · rw [hx]
      exact hbefore a ha
    · rw [hm' b hmem]
      exact hacross a ha b hmem

/-- A member of an ordered list is placed between its neighbours. -/
theorem pairwise_moved {pos pos' : Nat → Nat} {l : List Nat} {t : Nat} (honce : l.Nodup) (ht : t ∈ l)
    (horder : l.Pairwise fun a b => pos b ≤ pos a) (hpos : ∀ u, u ≠ t → pos' u = pos u)
    (hahead : ∀ a, aheadOf l t = some a → pos' t ≤ pos a) (hbehind : ∀ b, behindOf l t = some b → pos b ≤ pos' t) :
    l.Pairwise fun a b => pos' b ≤ pos' a := by
  obtain ⟨m, n, rfl⟩ := List.append_of_mem ht
  obtain ⟨-, hn, hdisjoint⟩ := List.nodup_append.1 honce
  have hm : t ∉ m := fun h => hdisjoint t h t (List.mem_cons_self ..) rfl
  have hn : t ∉ n := (List.nodup_cons.1 hn).1
  refine pairwise_between (horder.sublist ?_) hm hn hpos rfl (fun a ha => hahead a ?_) fun b hb => hbehind b ?_
  · exact (List.sublist_cons_self t n).append_left m
  · rwa [aheadOf_append hm hn]
  · rwa [behindOf_append n hm]

/-- The lineup after a record of the train is placed between its neighbours. -/
theorem Lined.moved {r s : State} (h : Lined r s) {t : Nat} {f : Pig → Pig}
    (htag : ∀ p, p.tag = t → (f p).tag = t) (ht : t ∈ s.train)
    (htracked : ∀ p, s.pig t = some p → p.tracked = true → (f p).tracked = true)
    (hfits : ∀ p, s.pig t = some p → s.FitsAt t (f p).position ∧ (NothingBelowStart s → s.lineStart ≤ (f p).position)) :
    Lined r (s.modPig t f) := by
  obtain ⟨horder, hbelow⟩ := h
  obtain ⟨p, hp, htracks⟩ := (Option.any_eq_true ..).1 (horder.members t ht)
  have hself := State.pig_modPig_self htag hp
  have hposSelf : (s.modPig t f).pigPos t = (f p).position := State.pigPos_of_some hself
  have hposNe : ∀ u, u ≠ t → (s.modPig t f).pigPos u = s.pigPos u := fun u hu => by
    simp only [State.pigPos, State.pig_modPig_ne htag hu]
  obtain ⟨⟨hbehind, hahead, honLine⟩, hstart⟩ := hfits p hp
  refine ⟨⟨horder.once, fun u hu => ?_, fun q hq hqt => ?_, ?_, fun u hu => ?_, fun hline => ?_⟩, fun hr => ?_⟩
  · by_cases hut : u = t
    · rw [hut, hself]
      exact htracked p hp htracks
    · rw [State.pig_modPig_ne htag hut]
      exact horder.members u hu
  · obtain ⟨q', hq', rfl⟩ := List.mem_map.1 hq
    split
    · rename_i hqtag
      rw [htag q' hqtag]
      exact ht
    · rename_i hqtag
      rw [if_neg hqtag] at hqt
      exact horder.all q' hq' hqt
  · exact pairwise_moved horder.once ht horder.order hposNe (by rwa [hposSelf]) (by rwa [hposSelf])
  · by_cases hut : u = t
    · rw [hut, hposSelf]
      exact honLine
    · rw [hposNe u hut]
      exact horder.onLine u hu
  · have hempty := horder.empty hline
    simp only [State.modPig_pigs, hempty, List.map_nil]
  · have hs := hbelow hr
    refine ⟨hs.stations, hs.detectors, fun u hu => ?_⟩
    by_cases hut : u = t
    · rw [hut, hposSelf]
      exact hstart hs
    · rw [hposNe u hut]
      exact hs.train u hu

/-- The lineup after a record joins the train between the members it stands between (R24). -/
theorem Lined.joined {r s : State} (h : Lined r s) {t x : Nat} {f : Pig → Pig} {p : Pig}
    (htag : ∀ p, p.tag = t → (f p).tag = t) (hp : s.pig t = some p) (hout : p.tracked = false) (hin : (f p).tracked = true)
    (hfits : (s.joinTrain t x).FitsAt t (f p).position ∧ (NothingBelowStart s → s.lineStart ≤ (f p).position)) :
    Lined r ((s.joinTrain t x).modPig t f) := by
  obtain ⟨horder, hbelow⟩ := h
  have hmem : t ∉ s.train := horder.not_mem hp hout
  have hl : t ∉ s.membersAhead x := fun hu => hmem (State.mem_train_of_ahead hu)
  have hm : t ∉ s.membersBehind x := fun hu => hmem (State.mem_train_of_behind hu)
  have hself : ((s.joinTrain t x).modPig t f).pig t = some (f p) := State.pig_modPig_self (s := s.joinTrain t x) htag hp
  have hposSelf : ((s.joinTrain t x).modPig t f).pigPos t = (f p).position := State.pigPos_of_some hself
  have hne : ∀ u, u ≠ t → ((s.joinTrain t x).modPig t f).pig u = s.pig u := fun u hu =>
    State.pig_modPig_ne (s := s.joinTrain t x) htag hu
  have hposNe : ∀ u, u ≠ t → ((s.joinTrain t x).modPig t f).pigPos u = s.pigPos u := fun u hu => by
    simp only [State.pigPos, hne u hu]
  obtain ⟨⟨hbehind, hahead, honLine⟩, hstart⟩ := hfits
  rw [State.behindOf_joinTrain x hmem] at hbehind
  rw [State.aheadOf_joinTrain x hmem] at hahead
  have hmembers : ∀ u ∈ ((s.joinTrain t x).modPig t f).train, u = t ∨ u ∈ s.train := fun u hu => by
    have hu' : u ∈ s.membersAhead x ++ t :: s.membersBehind x := hu
    rw [← s.members_append x]
    simp only [List.mem_append, List.mem_cons] at hu' ⊢
    tauto
  refine ⟨⟨?_, fun u hu => ?_, fun q hq hqt => ?_, ?_, fun u hu => ?_, fun hline => ?_⟩, fun hr => ?_⟩
  · have honce := horder.once
    rw [← s.members_append x] at honce
    exact (List.nodup_middle.2 (List.nodup_cons.2 ⟨by rwa [s.members_append x], honce⟩))
  · rcases hmembers u hu with rfl | hu
    · rwa [hself]
    · rw [hne u fun h => hmem (h ▸ hu)]
      exact horder.members u hu
  · obtain ⟨q', hq', rfl⟩ := List.mem_map.1 hq
    have hjoined : ∀ u, u = t ∨ u ∈ s.train → u ∈ s.membersAhead x ++ t :: s.membersBehind x := fun u hu => by
      rw [← s.members_append x] at hu
      simp only [List.mem_append, List.mem_cons] at hu ⊢
      tauto
    refine hjoined _ ?_
    split
    · rename_i hqtag
      exact .inl (htag q' hqtag)
    · rename_i hqtag
      rw [if_neg hqtag] at hqt
      exact .inr (horder.all q' hq' hqt)
  · refine pairwise_between (pos := s.pigPos) ?_ hl hm hposNe hposSelf hahead hbehind
    rw [s.members_append x]
    exact horder.order
  · rcases hmembers u hu with rfl | hu
    · rw [hposSelf]
      exact honLine
    · rw [hposNe u fun h => hmem (h ▸ hu)]
      exact horder.onLine u hu
  · have hempty := horder.empty hline
    have := State.pig_mem hp
    rw [hempty] at this
    cases this
  · have hs := hbelow hr
    refine ⟨hs.stations, hs.detectors, fun u hu => ?_⟩
    rcases hmembers u hu with rfl | hu
    · rw [hposSelf]
      exact hstart hs
    · rw [hposNe u fun h => hmem (h ▸ hu)]
      exact hs.train u hu

theorem State.leaveTrain_train (s : State) (t : Nat) : (s.leaveTrain t).train = s.train.filter (· ≠ t) := by
  unfold State.leaveTrain
  split
  · rfl
  · rename_i ht
    refine (List.filter_eq_self.2 fun u hu => ?_).symm
    simp only [ne_eq, decide_eq_true_eq]
    rintro rfl
    exact ht hu

theorem State.leaveTrain_eq (s : State) (t : Nat) :
    s.leaveTrain t = { s with train := (s.leaveTrain t).train, revision := (s.leaveTrain t).revision } := by
  unfold State.leaveTrain
  split <;> rfl

/-- The lineup after a record leaves the train (R25). -/
theorem Lined.left {r s : State} (h : Lined r s) {t : Nat} {f : Pig → Pig} (hrise : TablesRise s)
    (htag : ∀ p, p.tag = t → (f p).tag = t) (hout : ∀ p, s.pig t = some p → (f p).tracked = false) :
    Lined r ((s.leaveTrain t).modPig t f) := by
  obtain ⟨horder, hbelow⟩ := h
  have htrain : ((s.leaveTrain t).modPig t f).train = s.train.filter (· ≠ t) := s.leaveTrain_train t
  have hstations : ((s.leaveTrain t).modPig t f).stations = s.stations := by rw [State.modPig_stations, s.leaveTrain_eq]
  have hdetectors : ((s.leaveTrain t).modPig t f).detectors = s.detectors := s.leaveTrain_detectors t
  have hline : ((s.leaveTrain t).modPig t f).lineState = s.lineState := by rw [State.modPig_lineState, s.leaveTrain_eq]
  have hpig : ∀ u, (s.leaveTrain t).pig u = s.pig u := fun u => by simp only [State.pig, s.leaveTrain_pigs]
  have hne : ∀ u, u ≠ t → ((s.leaveTrain t).modPig t f).pig u = s.pig u := fun u hu => by
    rw [State.pig_modPig_ne htag hu, hpig]
  have hpos : ∀ u, u ≠ t → ((s.leaveTrain t).modPig t f).pigPos u = s.pigPos u := fun u hu => by
    simp only [State.pigPos, hne u hu]
  have hmember : ∀ u ∈ ((s.leaveTrain t).modPig t f).train, u ∈ s.train ∧ u ≠ t := fun u hu => by
    rw [htrain, List.mem_filter, decide_eq_true_eq] at hu
    exact hu
  have hend : ((s.leaveTrain t).modPig t f).lineEnd = s.lineEnd := by simp only [State.lineEnd, hstations]
  have hstart : ((s.leaveTrain t).modPig t f).lineStart = s.lineStart := by simp only [State.lineStart, hstations]
  refine ⟨⟨?_, fun u hu => ?_, fun q hq hqt => ?_, ?_, fun u hu => ?_, fun h => ?_⟩, fun hr => ?_⟩
  · rw [htrain]
    exact horder.once.filter _
  · obtain ⟨hu, hut⟩ := hmember u hu
    rw [hne u hut]
    exact horder.members u hu
  · rw [State.modPig_pigs, s.leaveTrain_pigs] at hq
    obtain ⟨q', hq', rfl⟩ := List.mem_map.1 hq
    rw [htrain, List.mem_filter, decide_eq_true_eq]
    by_cases hqtag : q'.tag = t
    · rw [if_pos hqtag, hout q' (hqtag ▸ hrise.pig_of_mem hq')] at hqt
      cases hqt
    · rw [if_neg hqtag] at hqt ⊢
      exact ⟨horder.all q' hq' hqt, hqtag⟩
  · rw [htrain]
    refine (horder.order.filter _).imp_of_mem fun ha hb h => ?_
    rw [← htrain] at ha hb
    rwa [hpos _ (hmember _ ha).2, hpos _ (hmember _ hb).2]
  · obtain ⟨hu, hut⟩ := hmember u hu
    rw [hpos u hut, hend]
    exact horder.onLine u hu
  · rw [hline] at h
    rw [State.modPig_pigs, s.leaveTrain_pigs, horder.empty h]
    rfl
  · have hs := hbelow hr
    refine ⟨?_, ?_, fun u hu => ?_⟩
    · rw [hline, hstations, hstart]
      exact hs.stations
    · rw [hline, hdetectors, hstart]
      exact hs.detectors
    · obtain ⟨hu, hut⟩ := hmember u hu
      rw [hstart, hpos u hut]
      exact hs.train u hu

/-! ### Changes and runs -/

/-- A change of the stations of one number that keeps their positions. -/
theorem SameGround.modStation {s : State} {k : Nat} {f : Station → Station} (hf : ∀ x, (f x).position = x.position) :
    SameGround s (s.modStation k f) := ⟨map_mod_of_same _ _ _ _ (fun x _ => hf x) _, rfl, rfl, rfl, rfl⟩

theorem SameGround.modValveStation (s : State) (n k : Nat) (f : Valve → Valve) (g : Station → Station)
    (hg : ∀ x, (g x).position = x.position) : SameGround s ((s.modValve n f).modStation k g) :=
  ⟨map_mod_of_same _ _ _ _ (fun x _ => hg x) _, rfl, rfl, rfl, rfl⟩

theorem SameGround.updSlot (s : State) (k : Nat) (f : Slot → Slot) : SameGround s (s.updSlot k f) := by
  cases hx : s.station k with
  | none => rw [State.updSlot_of_none f hx]; exact ⟨rfl, rfl, rfl, rfl, rfl⟩
  | some x => rw [State.updSlot_of_some f hx]; exact .modStation fun _ => rfl

theorem Pig.Steady.place {p q : Pig} (h : p.Steady q) (htag : q.tag = p.tag) : q.place = p.place := by
  obtain ⟨hposition, -, hstate⟩ := h
  have htracked : q.tracked = p.tracked := by
    rcases hstate with heq | ⟨hp, hq⟩ | ⟨hp, hq⟩
    · simp only [Pig.tracked, heq]
    · simp only [Pig.inLauncher, Bool.or_eq_true, decide_eq_true_eq] at hp hq
      rcases hp with hp | hp <;> rcases hq with hq | hq <;> simp [Pig.tracked, hp, hq]
    · rw [hp, hq]
  simp only [Pig.place, htag, htracked, hposition]

theorem Lined.change {r s t : State} (hchange : Change s t) (hrise : TablesRise s) (h : Lined r s) : Lined r t := by
  cases hchange with
  | reevalValve v => exact h.ground (Rehold.reevalValve s v).sameGround
  | station k f hdef hkept => exact h.ground (.modStation fun x => Station.position_of_definition (hdef x))
  | reseat k f hblank => exact (h.ground (.updSlot s k f)).ground (Rehold.reevalStation ..).sameGround
  | serve k =>
    refine h.ground ⟨?_, rfl, rfl, rfl, rfl⟩
    rw [State.serve, List.map_map]
    refine List.map_congr_left fun x _ => ?_
    simp only [Function.comp_apply, Station.waited]
    split <;> rfl
  | detector n f hdef hrearm =>
    refine h.ground ⟨rfl, map_mod_of_same _ _ _ _ (fun d _ => ?_) _, rfl, rfl, rfl⟩
    have hcommitted := hdef d
    exact congrArg₂ Prod.mk (congrArg Detector.kind hcommitted : (f d).committed.kind = d.committed.kind)
      (congrArg Detector.position hcommitted : (f d).committed.position = d.committed.position)
  | enqueue v t o hv =>
    refine h.ground (.modValveStation s _ _ _ _ ?_)
    exact fun _ => rfl
  | endCommand v o hv =>
    refine h.ground (.modValveStation s _ _ _ _ ?_)
    exact fun _ => rfl
  | accept v c hv =>
    refine h.ground (.modValveStation s _ _ _ _ ?_)
    exact fun _ => rfl
  | record u f hrange hsteady =>
    refine h.ground ⟨rfl, rfl, map_mod_of_mem fun p hp hpu => ?_, rfl, rfl⟩
    exact (hsteady hrise h.1 p (hpu ▸ hrise.pig_of_mem hp)).place ((hrange.tag p hpu).trans hpu.symm)
  | moved u f hrange ht htracked hfits =>
    exact (h.moved hrange.tag (ht hrise h.1) htracked fun p hp => hfits p hp hrise h.1).ground
      (Rehold.reevalAll _).sameGround
  | joined u x f p hrange hp htag hout hin hfits =>
    exact (h.joined hrange.tag (htag ▸ hrise.pig_of_mem hp) hout hin (hfits hrise h.1)).ground
      (Rehold.reevalAll _).sameGround
  | left u f hrange hout => exact (h.left hrise hrange.tag hout).ground (Rehold.reevalAll _).sameGround
  | link | valve | meter | raise | note | due | choices => exact h.ground ⟨rfl, rfl, rfl, rfl, rfl⟩

theorem Lined.runs {r s t : State} (hruns : Runs s t) (hrise : TablesRise s) (h : Lined r s) : Lined r t := by
  induction hruns with
  | refl s => exact h
  | change hchange => exact h.change hchange hrise
  | trans hst _ ih ih' => exact ih' ((SameLine.of_runs hst).tablesRise hrise) (ih hrise h)
  | debounce n v c hv hrun ih =>
    refine (ih ((SameLine.updValve _ n (fun y => y.afterCode c) fun _ => rfl).tablesRise hrise) (h.ground ?_)).ground
      (Rehold.strikeTest _ n).sameGround
    rw [State.updValve_of_some _ hv]
    refine .modValveStation _ _ _ _ _ ?_
    exact fun _ => rfl

/-! ### Acts -/

/-- With no record live the train is empty, and in order. -/
theorem Lined.of_empty {r s : State} (hpigs : s.pigs = []) (htrain : s.train = [])
    (hstations : NothingBelowStart r → s.lineState = .ready → ∀ x ∈ s.stations, s.lineStart ≤ x.position)
    (hdetectors : NothingBelowStart r → s.lineState = .ready → ∀ d ∈ s.detectors, d.kind = .mainline →
      s.lineStart ≤ d.position) : Lined r s := by
  have hmem : ∀ u, u ∉ s.train := fun u hu => by rw [htrain] at hu; cases hu
  refine ⟨⟨by rw [htrain]; exact .nil, fun u hu => absurd hu (hmem u), fun p hp => ?_, by rw [htrain]; exact .nil,
    fun u hu => absurd hu (hmem u), fun _ => hpigs⟩, fun hr => ⟨hstations hr, hdetectors hr, fun u hu => absurd hu (hmem u)⟩⟩
  rw [hpigs] at hp
  cases hp

/-- With no record live the train is empty. -/
theorem TrainInOrder.train_eq_nil {s : State} (h : TrainInOrder s) (hpigs : s.pigs = []) : s.train = [] := by
  refine List.eq_nil_iff_forall_not_mem.2 fun u hu => ?_
  have hmember := h.members u hu
  rw [State.pig, hpigs] at hmember
  cases hmember

/-- In UNCONFIGURED no record is live and the train is empty (R47). -/
theorem TrainInOrder.empty_of_unconfigured {s : State} (h : TrainInOrder s) (hline : s.lineState = .unconfigured) :
    s.pigs = [] ∧ s.train = [] := ⟨h.empty hline, h.train_eq_nil (h.empty hline)⟩

/-- In UNCONFIGURED a change that leaves the Line State, the Pig Table and the Train List. -/
theorem Lined.unconfigured {r s t : State} (h : Lined r s) (hline : s.lineState = .unconfigured)
    (htline : t.lineState = s.lineState) (hpigs : t.pigs = s.pigs) (htrain : t.train = s.train) : Lined r t := by
  obtain ⟨hspigs, hstrain⟩ := h.1.empty_of_unconfigured hline
  have hnot : t.lineState ≠ .ready := by
    rw [htline, hline]
    decide
  exact .of_empty (hpigs.trans hspigs) (htrain.trans hstrain) (fun _ hready => absurd hready hnot) fun _ hready =>
    absurd hready hnot

/-- Where the stations rise in position, each stands at or beyond the first (R14 check 2). -/
theorem le_of_firstNotRising {x : Station} {l : List Station} (h : firstNotRising (x :: l) = none) :
    ∀ y ∈ l, x.position ≤ y.position := by
  induction l generalizing x with
  | nil => exact fun y hy => by cases hy
  | cons z l ih =>
    rw [firstNotRising] at h
    split at h
    · cases h
    · rename_i hlt
      rw [Nat.not_le] at hlt
      refine List.forall_mem_cons.2 ⟨Nat.le_of_lt hlt, fun y hy => Nat.le_trans (Nat.le_of_lt hlt) (ih h y hy)⟩

/-- A line that passes the commit checks has no station below line start. -/
theorem State.lineStart_le_of_commit {s : State} (h : s.commitFailure = none) : ∀ x ∈ s.stations, s.lineStart ≤ x.position := by
  have hrising : firstNotRising s.stations = none := by
    have := List.findSome?_eq_none_iff.1 h (2, firstNotRising s.stations) (by simp [State.commitItems])
    simpa using this
  intro x hx
  unfold State.lineStart
  cases hstations : s.stations with
  | nil => rw [hstations] at hx; cases hx
  | cons y l =>
    rw [hstations] at hx hrising
    rcases List.mem_cons.1 hx with rfl | hmem
    · exact Nat.le_refl _
    · exact le_of_firstNotRising hrising x hmem

/-- A line that passes the commit checks has no MAINLINE detector below line start (R14 check 3). -/
theorem State.lineStart_le_detector_of_commit {s : State} (h : s.commitFailure = none) :
    ∀ d ∈ s.detectors, d.kind = .mainline → s.lineStart ≤ d.position := by
  have hplaced : s.mainlineDetectors.find? s.misplaced = none := by
    have := List.findSome?_eq_none_iff.1 h (3, (s.mainlineDetectors.find? s.misplaced).map Detector.num)
      (by simp [State.commitItems])
    simpa using this
  intro d hd hkind
  have hnot := List.find?_eq_none.1 hplaced d (List.mem_filter.2 ⟨hd, by simp [hkind]⟩)
  simp only [State.misplaced, Bool.or_eq_true, decide_eq_true_eq, not_or, not_lt] at hnot
  exact hnot.1.1

theorem find?_insertByKey_ne {α : Type} (key : α → Nat) (a : α) {k : Nat} (hk : key a ≠ k) (l : List α) :
    (insertByKey key a l).find? (fun x => key x == k) = l.find? fun x => key x == k := by
  induction l with
  | nil => simp [insertByKey, hk]
  | cons b l ih =>
    unfold insertByKey
    split
    · rw [List.find?_cons_of_neg (by simpa using hk)]
    · simp only [List.find?_cons, ih]

/-- A record put into the Pig Table under a fresh tag is found there, and every other as before. -/
theorem State.pig_insertPig {s : State} (hrise : TablesRise s) {p : Pig} (hfresh : s.pig p.tag = none) :
    ({ s with pigs := insertByKey Pig.tag p s.pigs } : State).pig p.tag = some p ∧
      ∀ u, u ≠ p.tag → ({ s with pigs := insertByKey Pig.tag p s.pigs } : State).pig u = s.pig u :=
  ⟨(hrise.insertPig hfresh).pig_of_mem (p := p) ((mem_insertByKey ..).2 (.inl rfl)),
    fun _ hu => find?_insertByKey_ne Pig.tag p (Ne.symm hu) s.pigs⟩

/-- No member of the train has a fresh tag. -/
theorem TrainInOrder.ne_of_fresh {s : State} (h : TrainInOrder s) {t : Nat} (hfresh : s.pig t = none) {u : Nat}
    (hu : u ∈ s.train) : u ≠ t := by
  rintro rfl
  have hmember := h.members u hu
  rw [hfresh] at hmember
  cases hmember

/-- A record created in a launcher joins no train. -/
theorem Lined.stage {r s : State} (h : Lined r s) (hrise : TablesRise s) {p : Pig} (hready : s.lineState = .ready)
    (hfresh : s.pig p.tag = none) (hout : p.tracked = false) :
    Lined r { s with pigs := insertByKey Pig.tag p s.pigs } := by
  obtain ⟨horder, hbelow⟩ := h
  have hpig := (State.pig_insertPig hrise hfresh).2
  have hpos : ∀ u ∈ s.train, ({ s with pigs := insertByKey Pig.tag p s.pigs } : State).pigPos u = s.pigPos u := fun u hu => by
    simp only [State.pigPos, hpig u (horder.ne_of_fresh hfresh hu)]
  refine ⟨⟨horder.once, fun u hu => ?_, forall_insertByKey (fun hin => ?_) horder.all,
    horder.order.imp_of_mem fun ha hb hab => ?_, fun u hu => ?_, fun hline => ?_⟩, fun hr => ?_⟩
  · rw [hpig u (horder.ne_of_fresh hfresh hu)]
    exact horder.members u hu
  · rw [hout] at hin
    cases hin
  · rwa [hpos _ ha, hpos _ hb]
  · rw [hpos u hu]
    exact horder.onLine u hu
  · have hline : s.lineState = .unconfigured := hline
    rw [hready] at hline
    cases hline
  · have hs := hbelow hr
    exact ⟨hs.stations, hs.detectors, fun u hu => (hpos u hu).symm ▸ hs.train u hu⟩

/-- A record declared on the line joins the train at its position (R24, R37). -/
theorem Lined.declare {r s : State} (h : Lined r s) (hrise : TablesRise s) {p : Pig} (hready : s.lineState = .ready)
    (hfresh : s.pig p.tag = none) (hin : p.tracked = true) (hstart : s.lineStart ≤ p.position)
    (hend : p.position ≤ s.lineEnd) :
    Lined r { s.joinTrain p.tag p.position with pigs := insertByKey Pig.tag p s.pigs } := by
  obtain ⟨horder, hbelow⟩ := h
  obtain ⟨hself, hpig⟩ := State.pig_insertPig hrise hfresh
  have hmem : p.tag ∉ s.train := fun hu => horder.ne_of_fresh hfresh hu rfl
  generalize ht : ({ s.joinTrain p.tag p.position with pigs := insertByKey Pig.tag p s.pigs } : State) = t
  have hself : t.pig p.tag = some p := ht ▸ hself
  have hne : ∀ u, u ≠ p.tag → t.pig u = s.pig u := fun u hu => ht ▸ hpig u hu
  have htrain : t.train = s.membersAhead p.position ++ p.tag :: s.membersBehind p.position := ht ▸ rfl
  have hposSelf : t.pigPos p.tag = p.position := State.pigPos_of_some hself
  have hposNe : ∀ u, u ≠ p.tag → t.pigPos u = s.pigPos u := fun u hu => by simp only [State.pigPos, hne u hu]
  have hlineEnd : t.lineEnd = s.lineEnd := ht ▸ rfl
  have hlineStart : t.lineStart = s.lineStart := ht ▸ rfl
  have hmembers : ∀ u, u ∈ t.train ↔ u = p.tag ∨ u ∈ s.train := fun u => by
    rw [htrain, ← s.members_append p.position]
    simp only [List.mem_append, List.mem_cons]
    tauto
  have hother : ∀ u ∈ s.train, u ≠ p.tag := fun u hu => horder.ne_of_fresh hfresh hu
  refine ⟨⟨?_, fun u hu => ?_, fun q hq hqt => ?_, ?_, fun u hu => ?_, fun hline => ?_⟩, fun hr => ?_⟩
  · have honce := horder.once
    rw [← s.members_append p.position] at honce
    rw [htrain]
    exact List.nodup_middle.2 (List.nodup_cons.2 ⟨by rwa [s.members_append p.position], honce⟩)
  · rcases (hmembers u).1 hu with rfl | hu
    · rwa [hself]
    · rw [hne u (hother u hu)]
      exact horder.members u hu
  · have hq : q ∈ insertByKey Pig.tag p s.pigs := by rwa [← ht] at hq
    rw [hmembers]
    rcases (mem_insertByKey ..).1 hq with rfl | hq
    · exact .inl rfl
    · exact .inr (horder.all q hq hqt)
  · rw [htrain]
    refine pairwise_between (pos := s.pigPos) ?_ (fun hu => hmem (State.mem_train_of_ahead hu))
      (fun hu => hmem (State.mem_train_of_behind hu)) hposNe hposSelf (fun a ha => ?_) fun b hb => ?_
    · rw [s.members_append p.position]
      exact horder.order
    · exact State.membersAhead_le (List.mem_of_getLast? ha)
    · exact Nat.le_of_lt (State.membersBehind_lt hb)
  · rw [hlineEnd]
    rcases (hmembers u).1 hu with rfl | hu
    · rwa [hposSelf]
    · rw [hposNe u (hother u hu)]
      exact horder.onLine u hu
  · have hline : s.lineState = .unconfigured := by rwa [← ht] at hline
    rw [hready] at hline
    cases hline
  · have hs := hbelow hr
    refine ⟨fun _ => ?_, fun _ => ?_, fun u hu => ?_⟩
    · rw [hlineStart, ← ht]
      exact hs.stations hready
    · rw [hlineStart, ← ht]
      exact hs.detectors hready
    · rw [hlineStart]
      rcases (hmembers u).1 hu with rfl | hu
      · rwa [hposSelf]
      · rw [hposNe u (hother u hu)]
        exact hs.train u hu

theorem State.pig_dropPig_ne (s : State) {t u : Nat} (hu : u ≠ t) : (s.dropPig t).pig u = s.pig u := by
  simp only [State.pig, State.dropPig, List.find?_filter]
  refine List.find?_congr fun p _ => ?_
  by_cases hp : p.tag = u
  · simp [hp, hu]
  · simp [hp]

/-- A record that is not in the train is dropped from the Pig Table. -/
theorem Lined.dropPig {r s : State} (h : Lined r s) {t : Nat} (hout : ∀ p, s.pig t = some p → p.tracked = false) :
    Lined r (s.dropPig t) := by
  obtain ⟨horder, hbelow⟩ := h
  have hother : ∀ u ∈ s.train, u ≠ t := by
    rintro u hu rfl
    obtain ⟨p, hp, htracked⟩ := (Option.any_eq_true ..).1 (horder.members u hu)
    rw [hout p hp] at htracked
    cases htracked
  have hpos : ∀ u ∈ s.train, (s.dropPig t).pigPos u = s.pigPos u := fun u hu => by
    simp only [State.pigPos, s.pig_dropPig_ne (hother u hu)]
  refine ⟨⟨horder.once, fun u hu => ?_, fun p hp => horder.all p (List.mem_of_mem_filter hp),
    horder.order.imp_of_mem fun ha hb hab => ?_, fun u hu => ?_, fun hline => ?_⟩, fun hr => ?_⟩
  · rw [s.pig_dropPig_ne (hother u hu)]
    exact horder.members u hu
  · rwa [hpos _ ha, hpos _ hb]
  · rw [hpos u hu]
    exact horder.onLine u hu
  · have := horder.empty hline
    simp only [State.dropPig, this, List.filter_nil]
  · have hs := hbelow hr
    exact ⟨hs.stations, hs.detectors, fun u hu => (hpos u hu).symm ▸ hs.train u hu⟩

theorem Pig.tracked_of_inLauncher {p : Pig} (h : p.inLauncher = true) : p.tracked = false := by
  simp only [Pig.inLauncher, Bool.or_eq_true, decide_eq_true_eq] at h
  rcases h with h | h <;> simp [Pig.tracked, h]

/-- A line that is quiet has no live record (R17). -/
theorem State.pigs_of_quiet {s : State} (h : s.lineBusy = false) : s.pigs = [] := by
  simp only [State.lineBusy, Bool.or_eq_false_iff, decide_eq_false_iff_not, not_not] at h
  exact h.1.1

theorem Lined.acts {r s t : State} (hacts : Acts true s t) (hrise : TablesRise s) (h : Lined r s) : Lined r t := by
  induction hacts with
  | runs hruns => exact h.runs hruns hrise
  | trans hst _ ih ih' => exact ih' (hrise.acts hst) (ih hrise h)
  | tick s =>
    by_cases hready : s.ready = true
    · rw [State.tick_of_ready hready]
      refine h.ground ⟨?_, ?_, rfl, rfl, rfl⟩
      · dsimp only
        split
        · rfl
        · exact (List.map_map ..).trans (List.map_congr_left fun _ _ => rfl)
      · refine (List.map_map ..).trans (List.map_congr_left fun d _ => ?_)
        simp only [Function.comp_apply, Detector.second]
        split <;> rfl
    · rw [State.tick_of_not_ready hready]
      exact h.ground ⟨rfl, rfl, rfl, rfl, rfl⟩
  | tuneStation s k f hf => exact h.ground (.modStation hf.position)
  | rezone s v g c =>
    exact (h.ground (t := s.modValve v (Valve.tuned g c)) ⟨rfl, rfl, rfl, rfl, rfl⟩).ground
      (Rehold.reevalValve _ v).sameGround
  | addStation s x hline hfresh hqueue => exact h.unconfigured hline rfl rfl rfl
  | addDetector s d hline hfresh hrearm => exact h.unconfigured hline rfl rfl rfl
  | clear s hline => exact h.unconfigured hline rfl rfl rfl
  | commit s hline hpassed =>
    obtain ⟨hpigs, htrain⟩ := h.1.empty_of_unconfigured hline
    have hstart : s.commit.lineStart = s.lineStart := by
      have hcommitted : s.commit.stations.head?.map Station.position = s.stations.head?.map Station.position := by
        simp only [State.commit, List.head?_map, Option.map_map]
        rfl
      simp only [State.lineStart, hcommitted]
    refine .of_empty hpigs htrain (fun _ _ => ?_) fun _ _ => ?_
    · rw [hstart]
      exact forall_of_map_eq (g := Station.position) (fun a b hab ha => hab ▸ ha)
        ((List.map_map ..).trans (List.map_congr_left fun _ _ => rfl)) (State.lineStart_le_of_commit hpassed)
    · rw [hstart]
      refine forall_of_map_eq (g := Detector.place) (fun a b hab ha hkind => ?_)
        ((List.map_map ..).trans (List.map_congr_left fun _ _ => rfl)) (State.lineStart_le_detector_of_commit hpassed)
      obtain ⟨hab, hposition⟩ := Prod.mk.inj hab
      exact hposition ▸ ha (hab.trans hkind)
  | opened s hquiet =>
    have hpigs := State.pigs_of_quiet hquiet
    exact .of_empty hpigs (h.1.train_eq_nil hpigs) (fun _ hready => by cases hready) fun _ hready => by cases hready
  | linkReset s =>
    refine h.ground ⟨(List.map_map ..).trans (List.map_congr_left fun _ _ => rfl),
      (List.map_map ..).trans (List.map_congr_left fun d _ => ?_), rfl, rfl, rfl⟩
    simp only [Function.comp_apply, Detector.linkReset]
    split <;> rfl
  | reset s => exact .of_empty rfl rfl (fun _ hready => by cases hready) fun _ hready => by cases hready
  | regauge s profiles params hruns =>
    have hgauged : TablesRise (s.gauged profiles params) :=
      ⟨hrise.stations, hrise.detectors, hrise.valves, hrise.meters, hrise.pigs⟩
    exact (Lined.runs hruns hgauged (h.ground ⟨rfl, rfl, rfl, rfl, rfl⟩)).ground (Rehold.reevalAll _).sameGround
  | declare s p hready hfresh hfull hbounds htracked hstart hend =>
    exact (h.declare hrise hready hfresh htracked hstart hend).ground (Rehold.reevalAll _).sameGround
  | stage s p hready hfresh hfull hbounds hlauncher =>
    exact h.stage hrise hready hfresh (Pig.tracked_of_inLauncher hlauncher)
  | retire s u hout hruns =>
    exact (Lined.runs hruns (hrise.dropPig u) (h.dropPig hout)).ground (Rehold.reevalAll _).sameGround
  | aside | tuneValve | tuneMeter | addValve | addMeter | gauge => exact h.ground ⟨rfl, rfl, rfl, rfl, rfl⟩

/-- Settles O9: every act keeps the train in order, and nothing below line start where nothing was. -/
theorem trainStaysInOrder : Obligations.TrainStaysInOrder := by
  unfold Obligations.TrainStaysInOrder
  exact fun s t hrise h hstep => Lined.acts (Acts.of_step hstep) hrise ⟨h, id⟩

end Sys2Proof.Machine
end

section
/-! SUPPORT. The holds through every change, and so through every act (O10). -/

namespace Sys2Proof.Machine

/-! ### What a hold reads -/

/-- What the holds read of a record (R119): its tag, whether it is LOST, and its hold interval. -/
def State.reach (s : State) (p : Pig) : Nat × Bool × Option (Nat × Nat) :=
  (p.tag, decide (p.state = .lost), s.holdInterval p)

/-- A station with the record its active sequence is bound to (R121). -/
def Station.seated (x : Station) : Nat × Option Nat := (x.num, x.slot.seat)

/-- A valve's definition, and its counted records. -/
def Valve.counted (v : Valve) : Valve × List Nat := (v.committed, v.holders)

/-- The records a hold counts, by what it reads. -/
theorem State.holdersNow_congr {s t : State} {v w : Valve} (hvalve : w.committed = v.committed) (htrain : t.train = s.train)
    (hlost : t.lostSet.map Pig.tag = s.lostSet.map Pig.tag)
    (hintervals : ∀ u, (t.pig u).bind t.holdInterval = (s.pig u).bind s.holdInterval)
    (hseat : (t.slotOf v.station).seat = (s.slotOf v.station).seat) : t.holdersNow w = s.holdersNow v := by
  have hrole : w.role = v.role := (congrArg Valve.role hvalve : w.committed.role = v.committed.role)
  have hstation : w.station = v.station := (congrArg Valve.station hvalve : w.committed.station = v.committed.station)
  have hzone : w.zone = v.zone := (congrArg Valve.zone hvalve : w.committed.zone = v.committed.zone)
  have hcounted : t.countedAt w = s.countedAt v := by
    funext u
    simp only [State.countedAt, hintervals u, hzone, hstation, State.boundAt_eq, hseat]
  simp only [State.holdersNow, hrole, htrain, hlost, hcounted]

/-- Two states in which the holds read the same. -/
structure SameHolds (s t : State) : Prop where
  train : t.train = s.train
  reach : t.pigs.map t.reach = s.pigs.map s.reach
  stations : t.stations.map Station.seated = s.stations.map Station.seated

theorem State.lostTags_eq (s : State) :
    s.lostSet.map Pig.tag = ((s.pigs.map s.reach).filter fun x => x.2.1).map Prod.fst := by
  simp only [State.lostSet, List.filter_map, List.map_map]
  rfl

theorem State.interval_eq (s : State) (u : Nat) :
    (s.pig u).bind s.holdInterval = ((s.pigs.map s.reach).find? fun x => x.1 == u).bind fun x => x.2.2 := by
  simp only [State.pig, List.find?_map, Option.bind_map]
  rfl

theorem State.seat_eq (s : State) (k : Nat) :
    (s.slotOf k).seat = (((s.stations.map Station.seated).find? fun x => x.1 == k).map Prod.snd).getD none := by
  have hfind : (s.stations.map Station.seated).find? (fun x => x.1 == k) = (s.station k).map Station.seated := by
    simp only [State.station, List.find?_map]
    rfl
  rw [hfind, State.slotOf]
  cases s.station k with
  | none => rfl
  | some x => rfl

theorem SameHolds.seat {s t : State} (h : SameHolds s t) (k : Nat) : (t.slotOf k).seat = (s.slotOf k).seat := by
  rw [State.seat_eq, State.seat_eq, h.stations]

theorem SameHolds.holdersNow {s t : State} (h : SameHolds s t) {v w : Valve} (hvalve : w.committed = v.committed) :
    t.holdersNow w = s.holdersNow v :=
  State.holdersNow_congr hvalve h.train (by rw [State.lostTags_eq, State.lostTags_eq, h.reach])
    (fun u => by rw [State.interval_eq, State.interval_eq, h.reach]) (h.seat _)

/-- A record's hold interval by what it reads of the record (R67). -/
theorem State.holdInterval_congr {s t : State} (hprofiles : t.profiles = s.profiles) (hparams : t.params = s.params)
    {p q : Pig} (hstate : q.state = p.state) (hposition : q.position = p.position) (hfix : q.fixPosition = p.fixPosition) :
    t.holdInterval q = s.holdInterval p := by
  simp only [State.holdInterval, State.holdHalf, State.profile, hprofiles, hparams, hstate, hposition, hfix]

theorem Rehold.sameHolds {s t : State} (h : Rehold s t) : SameHolds s t where
  train := h.train
  reach := by
    have hprofiles : t.profiles = s.profiles := by rw [h.rest]
    have hparams : t.params = s.params := by rw [h.rest]
    have hunflagged : ∀ r : State, r.pigs.map r.reach = (r.pigs.map Pig.unflagged).map r.reach := fun r => by
      rw [List.map_map]
      exact List.map_congr_left fun _ _ => rfl
    rw [hunflagged t, hunflagged s, h.pigs]
    refine List.map_congr_left fun p _ => ?_
    simp only [State.reach, State.holdInterval_congr (s := s) (t := t) hprofiles hparams (p := p) (q := p) rfl rfl rfl]
  stations := by
    have := congrArg (List.map Station.seated) h.stations
    simp only [List.map_map] at this
    exact this

/-! ### One valve's hold -/

/-- The valve of a number, where there is one, counts the records R119 counts. -/
def State.heldAt (s : State) (n : Nat) : Prop := ∀ v, s.valve n = some v → v.holders = s.holdersNow v

/-- A valve that is not a MAINLINE valve counts no record (R119). -/
def State.sideFree (s : State) (n : Nat) : Prop := ∀ v, s.valve n = some v → v.role ≠ .mainline → v.holders = []

theorem State.holdersNow_side (s : State) {v : Valve} (h : v.role ≠ .mainline) : s.holdersNow v = [] := if_neg h

theorem State.heldAt.sideFree {s : State} {n : Nat} (h : s.heldAt n) : s.sideFree n := fun v hv hrole =>
  (h v hv).trans (s.holdersNow_side hrole)

theorem State.heldAt.congr {s t : State} {n : Nat} (h : s.heldAt n) (hholds : SameHolds s t)
    (hvalve : (t.valve n).map Valve.counted = (s.valve n).map Valve.counted) : t.heldAt n := by
  intro w hw
  rw [hw, Option.map_some] at hvalve
  obtain ⟨v, hv, heq⟩ := Option.map_eq_some_iff.1 hvalve.symm
  obtain ⟨hcommitted, hholders⟩ := Prod.mk.inj heq
  rw [← hholders, h v hv]
  exact (hholds.holdersNow hcommitted.symm).symm

theorem State.sideFree.congr {s t : State} {n : Nat} (h : s.sideFree n)
    (hvalve : (t.valve n).map Valve.counted = (s.valve n).map Valve.counted) : t.sideFree n := by
  intro w hw hrole
  rw [hw, Option.map_some] at hvalve
  obtain ⟨v, hv, heq⟩ := Option.map_eq_some_iff.1 hvalve.symm
  obtain ⟨hcommitted, hholders⟩ := Prod.mk.inj heq
  rw [← hholders]
  exact h v hv fun hmain => hrole ((congrArg Valve.role hcommitted : v.committed.role = w.committed.role).symm.trans hmain)

/-- What a re-evaluation leaves of a valve: a MAINLINE valve of the number counts afresh, any other is as it was. -/
theorem State.valve_reevalValve (s : State) (v n : Nat) :
    ((s.reevalValve v).valve n).map Valve.counted = (s.valve n).map fun y =>
      if n = v ∧ y.role = .mainline then (y.committed, s.holdersNow y) else y.counted := by
  unfold State.reevalValve
  split
  · rename_i hnone
    cases hy : s.valve n with
    | none => rfl
    | some y =>
      rw [Option.map_some, Option.map_some, if_neg]
      rintro ⟨rfl, -⟩
      rw [hnone] at hy
      cases hy
  · rename_i x hx
    have hnum := State.valve_num hx
    have hself : s.valve x.num = some x := hnum ▸ hx
    split
    · rename_i hrole
      rw [State.valve_applyHold hself]
      cases hy : s.valve n with
      | none => rfl
      | some y =>
        simp only [Option.map_some, Option.some.injEq]
        have hynum := State.valve_num hy
        by_cases hn : n = v
        · subst hn
          obtain rfl : x = y := Option.some.inj (hx.symm.trans hy)
          rw [if_pos rfl, if_pos ⟨rfl, hrole⟩]
          rfl
        · rw [if_neg (by rw [hynum, hnum]; exact hn), if_neg (fun h => hn h.1)]
    · rename_i hrole
      cases hy : s.valve n with
      | none => rfl
      | some y =>
        rw [Option.map_some, Option.map_some, if_neg]
        rintro ⟨rfl, hmain⟩
        rw [hx, Option.some.injEq] at hy
        exact hrole (hy ▸ hmain)

/-- A re-evaluation makes a valve's hold exact, and keeps every other that is. -/
theorem State.heldAt_reevalValve {s : State} {v n : Nat} (hside : s.sideFree n) (h : n = v ∨ s.heldAt n) :
    (s.reevalValve v).heldAt n := by
  intro w hw
  have hvalve := s.valve_reevalValve v n
  rw [hw, Option.map_some] at hvalve
  obtain ⟨y, hy, heq⟩ := Option.map_eq_some_iff.1 hvalve.symm
  have hnow := fun hcommitted => (Rehold.reevalValve s v).sameHolds.holdersNow (v := y) (w := w) hcommitted
  split at heq
  · obtain ⟨hcommitted, hholders⟩ := Prod.mk.inj heq
    rw [← hholders, hnow hcommitted.symm]
  · rename_i hnot
    obtain ⟨hcommitted, hholders⟩ := Prod.mk.inj heq
    rw [← hholders, hnow hcommitted.symm]
    rcases h with rfl | hheld
    · have hrole : y.role ≠ .mainline := fun hmain => hnot ⟨rfl, hmain⟩
      rw [hside y hy hrole, s.holdersNow_side hrole]
    · exact hheld y hy

theorem State.sideFree_reevalValve {s : State} (v : Nat) {n : Nat} (h : s.sideFree n) : (s.reevalValve v).sideFree n := by
  intro w hw hrole
  have hvalve := s.valve_reevalValve v n
  rw [hw, Option.map_some] at hvalve
  obtain ⟨y, hy, heq⟩ := Option.map_eq_some_iff.1 hvalve.symm
  have hcommitted : y.committed = w.committed := by
    split at heq
    · exact (Prod.mk.inj heq).1
    · exact (Prod.mk.inj heq).1
  have hside : y.role ≠ .mainline := fun hmain =>
    hrole ((congrArg Valve.role hcommitted : y.committed.role = w.committed.role).symm.trans hmain)
  rw [if_neg fun h => hside h.2] at heq
  exact (Prod.mk.inj heq).2.symm.trans (h y hy hside)

theorem State.heldAt_foldl {s : State} {n : Nat} (l : List Nat) (hside : s.sideFree n) (h : n ∈ l ∨ s.heldAt n) :
    (l.foldl State.reevalValve s).heldAt n := by
  induction l generalizing s with
  | nil => exact h.resolve_left List.not_mem_nil
  | cons v l ih =>
    refine ih (State.sideFree_reevalValve v hside) ?_
    rcases h with hmem | hheld
    · rcases List.mem_cons.1 hmem with rfl | hmem
      · exact .inr (State.heldAt_reevalValve hside (.inl rfl))
      · exact .inl hmem
    · exact .inr (State.heldAt_reevalValve hside (.inr hheld))

theorem State.sideFree_foldl {s : State} {n : Nat} (l : List Nat) (h : s.sideFree n) :
    (l.foldl State.reevalValve s).sideFree n := by
  induction l generalizing s with
  | nil => exact h
  | cons v l ih => exact ih (State.sideFree_reevalValve v h)

/-- The re-evaluation of every valve makes every hold exact (R120). -/
theorem State.heldAt_reevalAll {s : State} {n : Nat} (hside : s.sideFree n) : s.reevalAll.heldAt n := by
  refine State.heldAt_foldl _ hside ?_
  cases hv : s.valve n with
  | none => exact .inr fun v hv' => by rw [hv] at hv'; cases hv'
  | some v => exact .inl (List.mem_map.2 ⟨v, State.valve_mem hv, State.valve_num hv⟩)

theorem State.sideFree_reevalAll {s : State} {n : Nat} (h : s.sideFree n) : s.reevalAll.sideFree n := State.sideFree_foldl _ h

/-! ### Changes -/

theorem State.valves_updSlot (s : State) (k : Nat) (f : Slot → Slot) : (s.updSlot k f).valves = s.valves := by
  unfold State.updSlot
  split
  · rfl
  · rw [State.touchIf_eq]
    rfl

/-- A change of valves that keeps each one's definition and counted records. -/
theorem State.valve_counted_modValve {s : State} {m : Nat} {f : Valve → Valve} (hdef : ∀ v, (f v).committed = v.committed)
    (hholders : ∀ v, s.valve m = some v → (f v).holders = v.holders) (n : Nat) :
    ((s.modValve m f).valve n).map Valve.counted = (s.valve n).map Valve.counted := by
  rw [State.valve_modValve s m n f fun v => Valve.num_of_committed (hdef v)]
  cases hv : s.valve n with
  | none => rfl
  | some v =>
    simp only [Option.map_some, Option.some.injEq]
    split
    · rename_i hm
      have hn : n = m := (State.valve_num hv).symm.trans hm
      exact congrArg₂ Prod.mk (hdef v) (hholders v (hn ▸ hv))
    · rfl

/-- The part of the line's stations and valves that a change of queues and commands leaves. -/
theorem State.valve_counted_enqueue (s : State) (v : Valve) (t : Target) (o : Origin) (n : Nat) :
    ((s.enqueue v t o).valve n).map Valve.counted = (s.valve n).map Valve.counted := by
  refine (State.valve_counted_modValve (s := s) (m := v.num) ?_ ?_ n)
  · exact fun _ => rfl
  · exact fun _ _ => rfl

theorem State.valve_counted_endCommand (s : State) (v : Valve) (o : ValveOutcome) (n : Nat) :
    ((s.endCommand v o).valve n).map Valve.counted = (s.valve n).map Valve.counted := by
  refine (State.valve_counted_modValve (s := s) (m := v.num) ?_ ?_ n)
  · exact fun _ => rfl
  · exact fun _ _ => rfl

/-- What a change leaves of a valve's definition and counted records, where it re-evaluates no hold. -/
theorem SameHolds.modStation {s : State} {k : Nat} {f : Station → Station} (hrise : TablesRise s)
    (hnum : ∀ x, (f x).num = x.num) (hseat : ∀ x, s.station k = some x → (f x).slot.seat = x.slot.seat) :
    SameHolds s (s.modStation k f) :=
  ⟨rfl, rfl, map_mod_of_mem fun x hx hk => congrArg₂ Prod.mk (hnum x) (hseat x (hk ▸ hrise.station_of_mem hx))⟩

/-- A change of the valves, and of the stations' queues. -/
theorem SameHolds.modValveStation (s : State) (n k : Nat) (f : Valve → Valve) (g : Station → Station)
    (hg : ∀ x, (g x).seated = x.seated) : SameHolds s ((s.modValve n f).modStation k g) :=
  ⟨rfl, rfl, map_mod_of_same _ _ _ _ (fun x _ => hg x) _⟩

/-- A record that changes without moving its hold interval (R67). -/
theorem Pig.Steady.reach {s : State} {p q : Pig} (h : p.Steady q) (htag : q.tag = p.tag) : s.reach q = s.reach p := by
  obtain ⟨hposition, hfix, hstate⟩ := h
  rcases hstate with heq | ⟨hp, hq⟩ | ⟨hp, hq⟩
  · simp only [State.reach, htag, heq, State.holdInterval_congr (s := s) (t := s) rfl rfl heq hposition hfix]
  · simp only [Pig.inLauncher, Bool.or_eq_true, decide_eq_true_eq] at hp hq
    rcases hp with hp | hp <;> rcases hq with hq | hq <;> simp [State.reach, State.holdInterval, htag, hp, hq]
  · simp only [Pig.tracked, Bool.or_eq_true, decide_eq_true_eq] at hp hq
    rcases hp with hp | hp <;> rcases hq with hq | hq <;>
      simp [State.reach, State.holdInterval, State.holdHalf, htag, hp, hq, hposition, hfix]

theorem Change.sideFree {s t : State} (hchange : Change s t) (n : Nat) (h : s.sideFree n) : t.sideFree n := by
  cases hchange with
  | reevalValve v => exact State.sideFree_reevalValve v h
  | reseat k f hblank =>
    refine State.sideFree_foldl _ (h.congr ?_)
    simp only [State.valve, State.valves_updSlot]
  | valve m f hdef hkept => exact h.congr (State.valve_counted_modValve hdef (fun v hv => (hkept v hv).holders) n)
  | enqueue v t o hv => exact h.congr (s.valve_counted_enqueue v t o n)
  | endCommand v o hv => exact h.congr (s.valve_counted_endCommand v o n)
  | accept v c hv =>
    refine h.congr (State.valve_counted_modValve (s := s) (m := v.num) ?_ ?_ n)
    · exact fun _ => rfl
    · exact fun _ _ => rfl
  | moved u f => exact State.sideFree_reevalAll (s := s.modPig u f) h
  | joined u x f => exact State.sideFree_reevalAll (s := (s.joinTrain u x).modPig u f) h
  | left u f =>
    refine State.sideFree_reevalAll (h.congr ?_)
    rw [s.leaveTrain_eq]
    rfl
  | station | serve | link | detector | meter | record | raise | note | due | choices => exact h

theorem State.valve_counted_afterCode {s : State} {n : Nat} {v : Valve} {c : PositionCode} (hv : s.valve n = some v) (m : Nat) :
    ((s.updValve n fun y => y.afterCode c).valve m).map Valve.counted = (s.valve m).map Valve.counted := by
  rw [State.updValve_of_some _ hv, State.valve_modStation]
  refine State.valve_counted_modValve (s := s) (m := n) (f := fun y => y.afterCode c) ?_ ?_ m
  · exact fun _ => rfl
  · exact fun _ _ => rfl

/-- The test for a strike stores the records the valve holds (R106). -/
theorem State.valve_counted_strikeTest (s : State) (n m : Nat) :
    ((s.strikeTest n).valve m).map Valve.counted = (s.valve m).map Valve.counted := by
  unfold State.strikeTest
  split
  · rfl
  · rename_i x hx
    have hself : s.valve x.num = some x := State.valve_num hx ▸ hx
    split
    · rw [State.valve_applyHold hself]
      cases hy : s.valve m with
      | none => rfl
      | some y =>
        simp only [Option.map_some, Option.some.injEq]
        split
        · rename_i hnum
          have hm : m = x.num := (State.valve_num hy).symm.trans hnum
          subst hm
          obtain rfl : x = y := Option.some.inj (hself.symm.trans hy)
          rfl
        · rfl
    · rfl

theorem Runs.sideFree {s t : State} (hruns : Runs s t) (n : Nat) (h : s.sideFree n) : t.sideFree n := by
  induction hruns with
  | refl s => exact h
  | change hchange => exact hchange.sideFree n h
  | trans _ _ ih ih' => exact ih' (ih h)
  | debounce m v c hv hrun ih =>
    exact (ih (h.congr (State.valve_counted_afterCode hv n))).congr (State.valve_counted_strikeTest _ m n)

/-- A sequence that starts or ends at a station moves the holds of that station's valves alone (R121). -/
theorem State.heldAt_reseat {s : State} {k n : Nat} (f : Slot → Slot) (h : s.heldAt n) :
    ((s.updSlot k f).reevalStation k).heldAt n := by
  have hvalves := s.valves_updSlot k f
  have hvalve : (s.updSlot k f).valve n = s.valve n := by simp only [State.valve, hvalves]
  have hside : (s.updSlot k f).sideFree n := h.sideFree.congr (by rw [hvalve])
  refine State.heldAt_foldl _ hside ?_
  cases hv : s.valve n with
  | none => exact .inr fun w hw => by rw [hvalve, hv] at hw; cases hw
  | some v =>
    by_cases hstation : v.station = k
    · refine .inl (List.mem_map.2 ⟨v, List.mem_filter.2 ⟨?_, by simp [hstation]⟩, State.valve_num hv⟩)
      rw [hvalves]
      exact State.valve_mem hv
    · refine .inr fun w hw => ?_
      obtain rfl : v = w := Option.some.inj (hv.symm.trans (hvalve ▸ hw))
      have hground : (s.updSlot k f).pigs = s.pigs ∧ (s.updSlot k f).train = s.train ∧
          (s.updSlot k f).profiles = s.profiles ∧ (s.updSlot k f).params = s.params := by
        unfold State.updSlot
        split
        · exact ⟨rfl, rfl, rfl, rfl⟩
        · rw [State.touchIf_eq]
          exact ⟨rfl, rfl, rfl, rfl⟩
      obtain ⟨hpigs, htrain, hprofiles, hparams⟩ := hground
      have hinterval : (s.updSlot k f).holdInterval = s.holdInterval :=
        funext fun p => State.holdInterval_congr hprofiles hparams rfl rfl rfl
      rw [h v hv]
      refine (State.holdersNow_congr rfl htrain ?_ (fun u => ?_) ?_).symm
      · simp only [State.lostSet, hpigs]
      · simp only [State.pig, hpigs, hinterval]
      · rw [s.slotOf_updSlot_ne f hstation]

theorem Change.heldAt {s t : State} (hchange : Change s t) (hrise : TablesRise s) (horder : TrainInOrder s) (n : Nat)
    (h : s.heldAt n) : t.heldAt n := by
  cases hchange with
  | reevalValve v => exact State.heldAt_reevalValve h.sideFree (.inr h)
  | station k f hdef hkept =>
    exact h.congr (.modStation hrise (fun x => Station.num_of_definition (hdef x)) fun x hx => (hkept x hx).2.1) rfl
  | reseat k f hblank => exact State.heldAt_reseat f h
  | serve k =>
    refine h.congr ⟨rfl, rfl, ?_⟩ rfl
    rw [State.serve, List.map_map]
    refine List.map_congr_left fun x _ => ?_
    simp only [Function.comp_apply, Station.waited]
    split <;> rfl
  | valve m f hdef hkept =>
    exact h.congr ⟨rfl, rfl, rfl⟩ (State.valve_counted_modValve hdef (fun v hv => (hkept v hv).holders) n)
  | enqueue v t o hv =>
    refine h.congr (.modValveStation s _ _ _ _ ?_) (s.valve_counted_enqueue v t o n)
    exact fun _ => rfl
  | endCommand v o hv =>
    refine h.congr (.modValveStation s _ _ _ _ ?_) (s.valve_counted_endCommand v o n)
    exact fun _ => rfl
  | accept v c hv =>
    refine h.congr (.modValveStation s _ _ _ _ ?_) (State.valve_counted_modValve (s := s) (m := v.num) ?_ ?_ n)
    · exact fun _ => rfl
    · exact fun _ => rfl
    · exact fun _ _ => rfl
  | record u f hrange hsteady =>
    refine h.congr ⟨rfl, map_mod_of_mem fun p hp hpu => ?_, rfl⟩ rfl
    exact (hsteady hrise horder p (hpu ▸ hrise.pig_of_mem hp)).reach ((hrange.tag p hpu).trans hpu.symm)
  | moved u f => exact State.heldAt_reevalAll (s := s.modPig u f) h.sideFree
  | joined u x f => exact State.heldAt_reevalAll (s := (s.joinTrain u x).modPig u f) h.sideFree
  | left u f =>
    refine State.heldAt_reevalAll (h.sideFree.congr ?_)
    rw [s.leaveTrain_eq]
    rfl
  | link | detector | meter | raise | note | due | choices => exact h.congr ⟨rfl, rfl, rfl⟩ rfl

/-- Every run keeps each hold exact: what moves a hold interval or a bound record is followed by a re-evaluation. -/
theorem Runs.heldAt {s t : State} (hruns : Runs s t) (hrise : TablesRise s) (horder : TrainInOrder s) (n : Nat)
    (h : s.heldAt n) : t.heldAt n := by
  induction hruns with
  | refl s => exact h
  | change hchange => exact hchange.heldAt hrise horder n h
  | trans hst _ ih ih' =>
    exact ih' ((SameLine.of_runs hst).tablesRise hrise) (Lined.runs hst hrise ⟨horder, id⟩).1 (ih hrise horder h)
  | @debounce s t m v c hv hrun ih =>
    have hcoded : SameLine s (s.updValve m fun y => y.afterCode c) := by
      refine SameLine.updValve s m (fun y => y.afterCode c) ?_
      exact fun _ => rfl
    have hground : SameGround s (s.updValve m fun y => y.afterCode c) := by
      rw [State.updValve_of_some _ hv]
      refine SameGround.modValveStation _ _ _ _ _ ?_
      exact fun _ => rfl
    refine (ih (hcoded.tablesRise hrise) (hground.trainInOrder horder) (h.congr ?_ (State.valve_counted_afterCode hv n))).congr
      (Rehold.strikeTest _ m).sameHolds (State.valve_counted_strikeTest _ m n)
    rw [State.updValve_of_some _ hv]
    refine .modValveStation _ _ _ _ _ ?_
    exact fun _ => rfl

/-! ### Acts -/

theorem TablesRise.heldAt {s : State} (hrise : TablesRise s) (h : ∀ n, s.heldAt n) : HoldsExact s :=
  fun v hv => h v.num v (hrise.valve_of_mem hv)

theorem HoldsExact.heldAt {s : State} (h : HoldsExact s) (n : Nat) : s.heldAt n := fun v hv => h v (State.valve_mem hv)

/-- With no record live no hold counts one. -/
theorem State.holdersNow_of_empty {s : State} (hpigs : s.pigs = []) (htrain : s.train = []) (v : Valve) :
    s.holdersNow v = [] := by
  unfold State.holdersNow State.lostSet
  rw [hpigs, htrain]
  split <;> rfl

/-- In UNCONFIGURED no valve counts a record, and none does after a change that brings no valve that does. -/
theorem HoldsExact.unconfigured {s t : State} (h : HoldsExact s) (horder : TrainInOrder s)
    (hline : s.lineState = .unconfigured) (hpigs : t.pigs = s.pigs) (htrain : t.train = s.train)
    (hvalves : (∀ v ∈ s.valves, v.holders = []) → ∀ v ∈ t.valves, v.holders = []) : HoldsExact t := by
  obtain ⟨hspigs, hstrain⟩ := horder.empty_of_unconfigured hline
  intro v hv
  rw [State.holdersNow_of_empty (hpigs.trans hspigs) (htrain.trans hstrain)]
  exact hvalves (fun w hw => (h w hw).trans (State.holdersNow_of_empty hspigs hstrain w)) v hv

theorem HoldsExact.congr {s t : State} (h : HoldsExact s) (hholds : SameHolds s t)
    (hvalves : t.valves.map Valve.counted = s.valves.map Valve.counted) : HoldsExact t := by
  intro w hw
  have hmem : w.counted ∈ s.valves.map Valve.counted := hvalves ▸ List.mem_map_of_mem hw
  obtain ⟨v, hv, heq⟩ := List.mem_map.1 hmem
  obtain ⟨hcommitted, hholders⟩ := Prod.mk.inj heq
  rw [← hholders, h v hv, hholds.holdersNow hcommitted.symm]

theorem HoldsExact.reevalAll {s : State} (hrise : TablesRise s) (hside : ∀ n, s.sideFree n) : HoldsExact s.reevalAll :=
  hrise.reevalAll.heldAt fun n => State.heldAt_reevalAll (hside n)

theorem Slot.second_seat (x : Slot) : x.second.seat = x.seat := by
  refine Slot.seat_congr ?_ ?_
  · unfold Slot.second
    cases hx : x.state <;> rfl
  · unfold Slot.second
    cases x.state <;> rfl

theorem filter_insertByKey_of_neg {α : Type} (key : α → Nat) (P : α → Bool) {a : α} (ha : P a = false) (l : List α) :
    (insertByKey key a l).filter P = l.filter P := by
  induction l with
  | nil => simp [insertByKey, ha]
  | cons b l ih =>
    unfold insertByKey
    split
    · rw [List.filter_cons_of_neg (by simp [ha])]
    · simp only [List.filter_cons, ih]

/-- A record in a launcher has no hold interval (R21). -/
theorem State.holdInterval_inLauncher (s : State) {p : Pig} (h : p.inLauncher = true) : s.holdInterval p = none := by
  simp only [Pig.inLauncher, Bool.or_eq_true, decide_eq_true_eq] at h
  rcases h with h | h <;> simp [State.holdInterval, h]

/-- A record created in a launcher is counted in no hold. -/
theorem HoldsExact.stage {s : State} (h : HoldsExact s) (hrise : TablesRise s) {p : Pig} (hfresh : s.pig p.tag = none)
    (hlauncher : p.inLauncher = true) : HoldsExact { s with pigs := insertByKey Pig.tag p s.pigs } := by
  obtain ⟨hself, hne⟩ := State.pig_insertPig hrise hfresh
  intro v hv
  rw [h v hv]
  refine (State.holdersNow_congr (s := s) (t := { s with pigs := insertByKey Pig.tag p s.pigs }) (v := v) (w := v) rfl rfl ?_ (fun u => ?_) rfl).symm
  · have hnot : (p.state == .lost) = false := by
      simp only [Pig.inLauncher, Bool.or_eq_true, decide_eq_true_eq] at hlauncher
      rcases hlauncher with hstate | hstate <;> rw [hstate] <;> rfl
    exact congrArg (List.map Pig.tag) (filter_insertByKey_of_neg Pig.tag (fun p => p.state == .lost) hnot s.pigs)
  · by_cases hu : u = p.tag
    · rw [hu, hself, hfresh]
      exact s.holdInterval_inLauncher hlauncher
    · rw [hne u hu]
      rfl

theorem HoldsExact.acts {s t : State} (hacts : Acts true s t) (hrise : TablesRise s) (horder : TrainInOrder s)
    (h : HoldsExact s) : HoldsExact t := by
  induction hacts with
  | runs hruns =>
    exact ((SameLine.of_runs hruns).tablesRise hrise).heldAt fun n => hruns.heldAt hrise horder n (h.heldAt n)
  | trans hst _ ih ih' => exact ih' (hrise.acts hst) (Lined.acts hst hrise ⟨horder, id⟩).1 (ih hrise horder h)
  | tick s =>
    by_cases hready : s.ready = true
    · rw [State.tick_of_ready hready]
      refine h.congr ⟨rfl, rfl, ?_⟩ ((List.map_map ..).trans (List.map_congr_left fun _ _ => rfl))
      dsimp only
      split
      · rfl
      · refine (List.map_map ..).trans (List.map_congr_left fun x _ => ?_)
        exact congrArg (Prod.mk x.num) x.slot.second_seat
    · rw [State.tick_of_not_ready hready]
      exact h.congr ⟨rfl, rfl, rfl⟩ rfl
  | tuneStation s k f hf =>
    refine h.congr (.modStation hrise hf.num fun x _ => ?_) rfl
    rw [hf.slot]
  | tuneValve s v g c hline =>
    exact h.unconfigured horder hline rfl rfl fun hempty => forall_mod (f := Valve.tuned g c) (fun _ _ _ hw => hw) hempty
  | rezone s v g c =>
    have htuned : TablesRise (s.modValve v (Valve.tuned g c)) :=
      ⟨hrise.stations, hrise.detectors, rising_mod Valve.num v (Valve.tuned g c) (fun _ => rfl) hrise.valves, hrise.meters,
        hrise.pigs⟩
    refine ((SameLine.reevalValve _ v).tablesRise htuned).heldAt fun n => ?_
    have hvalve := s.valve_modValve v n (Valve.tuned g c) fun _ => rfl
    refine State.heldAt_reevalValve (fun w hw hrole => ?_) ?_
    · rw [hvalve] at hw
      obtain ⟨y, hy, rfl⟩ := Option.map_eq_some_iff.1 hw
      have hfree := (h.heldAt n).sideFree y hy
      split at hrole
      · rename_i hnum
        rw [if_pos hnum]
        exact hfree hrole
      · rename_i hnum
        rw [if_neg hnum]
        exact hfree hrole
    · by_cases hn : n = v
      · exact .inl hn
      · refine .inr ((h.heldAt n).congr ⟨rfl, rfl, rfl⟩ ?_)
        rw [hvalve]
        cases hy : s.valve n with
        | none => rfl
        | some y => rw [Option.map_some, if_neg (by rwa [State.valve_num hy])]
  | addStation s x hline hfresh hqueue => exact h.unconfigured horder hline rfl rfl id
  | addValve s v hline hfresh hholders hstruck =>
    exact h.unconfigured horder hline rfl rfl fun hempty => forall_insertByKey hholders hempty
  | clear s hline => exact fun v hv => absurd hv List.not_mem_nil
  | commit s hline hpassed =>
    refine h.unconfigured horder hline rfl rfl fun _ v hv => ?_
    obtain ⟨w, -, rfl⟩ := List.mem_map.1 hv
    rfl
  | linkReset s =>
    exact h.congr ⟨rfl, rfl, (List.map_map ..).trans (List.map_congr_left fun _ _ => rfl)⟩
      ((List.map_map ..).trans (List.map_congr_left fun _ _ => rfl))
  | reset s => exact fun v hv => absurd hv List.not_mem_nil
  | gauge s profiles params hsame =>
    cases hline : s.lineState with
    | unconfigured => exact h.unconfigured horder hline rfl rfl id
    | ready =>
      refine h.congr ⟨rfl, ?_, rfl⟩ rfl
      refine List.map_congr_left fun p _ => ?_
      simp only [State.reach, hsame hline]
  | regauge s profiles params hruns =>
    have hgauged : TablesRise (s.gauged profiles params) :=
      ⟨hrise.stations, hrise.detectors, hrise.valves, hrise.meters, hrise.pigs⟩
    exact .reevalAll ((SameLine.of_runs hruns).tablesRise hgauged) fun n => hruns.sideFree n (h.heldAt n).sideFree
  | declare s p hready hfresh =>
    exact .reevalAll (((SameLine.joinTrain ..).tablesRise hrise).insertPig hfresh) fun n => (h.heldAt n).sideFree
  | stage s p hready hfresh hfull hbounds hlauncher => exact h.stage hrise hfresh hlauncher
  | retire s u hout hruns =>
    exact .reevalAll ((SameLine.of_runs hruns).tablesRise (hrise.dropPig u)) fun n =>
      hruns.sideFree n (h.heldAt n).sideFree
  | aside | tuneMeter | addDetector | addMeter | opened => exact h.congr ⟨rfl, rfl, rfl⟩ rfl

/-- Settles O10: what moves a hold interval, a zone or a bound record is followed by the re-evaluation it calls for. -/
theorem holdsStayExact : Obligations.HoldsStayExact := by
  unfold Obligations.HoldsStayExact
  exact fun s t hrise horder h hstep => h.acts (Acts.of_step hstep) hrise horder

end Sys2Proof.Machine
end

section
/-! SUPPORT. The checks of requests in the words of the claims, and the requests whose action is written down at once: the
definitions, the reads, the services and the resets. -/

namespace Sys2Proof.Machine

/-! ### Checks -/

theorem State.ready_iff (s : State) : s.ready = true ↔ s.lineState = .ready := decide_eq_true_iff

theorem badStation_iff (b : Byte) : badStation b = true ↔ b.toNat < 1 ∨ 24 < b.toNat := by
  simp only [badStation, Bool.or_eq_true, decide_eq_true_eq, Nat.lt_one_iff]

theorem badPosition_iff (x : BitVec 32) : badPosition x = true ↔ 4000000000 < x.toNat := decide_eq_true_iff

theorem badTag_iff (t : BitVec 16) : badTag t = true ↔ t = 0 := by
  simp only [badTag, decide_eq_true_eq]
  exact BitVec.toNat_eq (x := t) (y := 0).symm

/-- A request's checks as a claim says them: where none of them fails, the request acts. -/
theorem Checked.of_ask {c : Instr} {s : State} {checks : List (Bool × Status)} {t : Taken} {l : List (Prop × Status)}
    {act : Prop} (hexec : exec c s = s.ask checks t) (hl : checks.map (fun x => (x.1 = true, x.2)) = l)
    (hact : (∀ x ∈ l, ¬ x.1) → exec c s = .next (t.state.respond t.status t.data) → act) : Checked c s l act := by
  subst hl
  refine Checked.mono (checked_of_ask c s checks t hexec (exec c s = .next (t.state.respond t.status t.data)) id) hact

/-- The flags and the clamp of an answer that may be OK_CLAMPED. -/
theorem okOrClamped_eq {p : Prop} [Decidable p] {b : Bool} (h : b = true ↔ p) :
    okOrClamped b = if p then .okClamped else .ok := by
  unfold okOrClamped
  exact if_congr h rfl rfl

/-- A request that clamps its values answers OK_CLAMPED where it has clamped one. -/
theorem answers_of_clamped {c : Instr} {s t : State} {b : Bool} {p : Prop} [Decidable p] {P : State → Prop}
    (hexec : exec c s = .next ((Taken.clamped b t).state.respond (Taken.clamped b t).status (Taken.clamped b t).data))
    (hb : b = true ↔ p) (hport : t.port = s.port) (hP : ∀ st, P (t.respond st [])) :
    Answers c s (if p then .okClamped else .ok) [] P := by
  rw [← okOrClamped_eq hb]
  exact answers_of_respond _ s t _ _ _ hexec hport (hP _)

/-- A read answers with its data and leaves the state as it is outside the port. -/
theorem answers_of_read {c : Instr} {s : State} {data : List Byte} (h : exec c s = .next (s.respond .ok data)) :
    Answers c s .ok data fun t => t = { s with port := t.port } := answers_of_respond _ _ _ _ _ _ h rfl rfl

/-! ### Steps and resets -/

/-- Settles O1. -/
theorem stepRunsTheFrontCommand : Obligations.StepRunsTheFrontCommand := by
  unfold Obligations.StepRunsTheFrontCommand
  exact fun c s => ⟨rfl, rfl⟩

/-- Settles O15: the tables of the state after reset are empty. -/
theorem resetMeetsTheInvariants : Obligations.ResetMeetsTheInvariants := by
  unfold Obligations.ResetMeetsTheInvariants
  have hlined : Lined State.reset State.reset :=
    .of_empty rfl rfl (fun _ _ x hx => absurd hx List.not_mem_nil) fun _ _ d hd => absurd hd List.not_mem_nil
  have hbelow : NothingBelowStart State.reset :=
    ⟨fun _ x hx => absurd hx List.not_mem_nil, fun _ d hd => absurd hd List.not_mem_nil,
      fun u hu => absurd hu List.not_mem_nil⟩
  refine ⟨⟨.nil, .nil, .nil, .nil, .nil⟩,
    ⟨fun p hp => absurd hp List.not_mem_nil, Nat.zero_le _, Nat.zero_le _, Nat.zero_le _⟩, hlined.1, hbelow,
    fun v hv => absurd hv List.not_mem_nil, fun v hv => absurd hv List.not_mem_nil, fun m hm => absurd hm List.not_mem_nil,
    fun d hd => absurd hd List.not_mem_nil, .of_empty fun x hx => absurd hx List.not_mem_nil⟩

/-- With no station defined, an asserted LINE_TRIP raises its alert and does nothing more. -/
theorem State.assertTrip_of_empty {s : State} (h : s.stations = []) :
    s.assertTrip = ({ s with lineTrip := true } : State).raise .lineTrip := by
  simp only [State.assertTrip, State.stationNums, h, List.map_nil, List.foldl_nil]

theorem State.tripAtReset_of_empty {s : State} (h : s.stations = []) (hattention : s.attention = Attention.reset) :
    s.tripAtReset = { s with attention := { Attention.reset with alerts := if s.lineTrip then 256 else 0 } } := by
  unfold State.tripAtReset
  split
  · rename_i htrip
    rw [s.assertTrip_of_empty h, ← htrip]
    simp only [State.raise, hattention]
    rfl
  · obtain ⟨⟩ := s
    cases hattention
    rfl

/-- Settles O55: both resets build the state after reset afresh, and no station is defined for LINE_TRIP to act on. -/
theorem resetsGiveThePowerOnState : Obligations.ResetsGiveThePowerOnState := by
  unfold Obligations.ResetsGiveThePowerOnState
  intro s rate r
  constructor
  · refine congrArg Host.Outcome.next ((State.tripAtReset_of_empty rfl rfl).trans ?_)
    rfl
  · refine ⟨fun hr => ?_, fun hr => ?_⟩
    · refine ⟨s.respond .badField [], ?_, s.respond_answered s _ _ rfl, rfl⟩
      exact if_pos ((nonzero_iff r).2 hr)
    · refine (if_neg fun h => hr ((nonzero_iff r).1 h)).trans ?_
      refine congrArg Host.Outcome.next ((State.tripAtReset_of_empty rfl rfl).trans ?_)
      rfl

end Sys2Proof.Machine
end

section
/-! SUPPORT. The requests that define the line's items: stations, detectors, valves, meters and segment meters. -/

namespace Sys2Proof.Machine

theorem kindOf_eq (b : Byte) :
    kindOf b = if b.toNat = 0 then .mainline else if b.toNat = 1 then .launchExit else .trapArrival := by
  unfold kindOf
  rcases b.toNat with _ | _ | _ <;> rfl

theorem roleOf_eq (b : Byte) :
    roleOf b = if b.toNat = 0 then .mainline else if b.toNat = 1 then .launchOutlet
      else if b.toNat = 2 then .launchKicker else .receiveInlet := by
  unfold roleOf
  rcases b.toNat with _ | _ | _ | _ <;> rfl

theorem yes_eq (b : Byte) : yes b = decide (b = 1) := decide_eq_decide.2 (BitVec.toNat_eq (x := b) (y := 1)).symm

/-- A property of an item that a lookup may not find, asked as no. -/
theorem not_getD_map_false {α : Type} (o : Option α) (f : α → Bool) : (!(o.map f).getD false) = true ↔ o.any f = false := by
  rw [getD_map_false, Bool.not_eq_true']

/-! ### Clamping -/

theorem min_ne_iff (a b : Nat) : min a b ≠ a ↔ b < a := by omega

theorem Tuning.inRange_ne_iff (t : Tuning) :
    t.inRange ≠ t ↔ 500000 < t.guardVol ∨ 2000000 < t.approach ∨
      max (min t.approach 2000000) (min t.lead 4000000) ≠ t.lead ∨ 2000000 < t.clearance ∨
      t.exitTimeout < 10 ∨ 3600 < t.exitTimeout ∨ t.arrivalTimeout < 10 ∨ 7200 < t.arrivalTimeout ∨ 3600 < t.pauseLimit := by
  obtain ⟨⟩ := t
  simp only [Tuning.inRange, clampTo, ne_eq, Tuning.mk.injEq, and_true, not_and_or]
  omega

theorem valveClamped_iff (f : ValveFrame) :
    valveClamped f = true ↔ 500000 < f.guardVol.toNat ∨ f.strokeTimeout.toNat < 5 ∨ 900 < f.strokeTimeout.toNat := by
  simp only [valveClamped, Bool.or_eq_true, decide_eq_true_eq]
  simp only [guardInRange, strokeInRange, clampTo]
  omega

theorem meterClamped_iff (f : MeterFrame) : meterClamped f = true ↔ f.maxRate = 0 ∨ 600 < f.holdTime.toNat := by
  have hzero : f.maxRate = 0 ↔ f.maxRate.toNat = 0 := BitVec.toNat_eq (x := f.maxRate) (y := 0)
  simp only [meterClamped, Bool.or_eq_true, decide_eq_true_eq, hzero]
  simp only [rateInRange, holdTimeInRange]
  omega

/-! ### Stations -/

theorem State.defineStationChecks_eq (s : State) (f : StationFrame) :
    (s.defineStationChecks f).map (fun x => (x.1 = true, x.2)) =
      [(s.lineState = .ready, .configLocked),
       (f.form ≠ 0 ∨ f.station.toNat < 1 ∨ 24 < f.station.toNat ∨ f.address.toNat < 1 ∨ 31 < f.address.toNat ∨
          4000000000 < f.position.toNat ∨ 7 < f.replyCode.toNat ∨ f.reserved ≠ 0 ∨ 32 ≤ f.flags.toNat, .badField),
       (f.flags.getLsbD 3 = true ∧ f.flags.getLsbD 1 = false, .badField),
       (∃ x ∈ s.stations, x.num = f.station.toNat ∨ x.address = f.address.toNat, .existing)] := by
  simp only [State.defineStationChecks, List.map_cons, List.map_nil, s.ready_iff, Bool.or_eq_true, Bool.and_eq_true,
    Bool.not_eq_true', nonzero_iff, badStation_iff, above_iff, badPosition_iff, badStationFlags, decide_eq_true_eq, or_assoc,
    List.any_eq_true, beq_iff_eq, Nat.lt_one_iff]

/-- Settles O19. -/
theorem stationIsDefined : Obligations.StationIsDefined := by
  unfold Obligations.StationIsDefined
  intro s f _
  refine .of_ask (t := .clamped _ _) rfl (s.defineStationChecks_eq f) fun _ hexec => ?_
  exact answers_of_clamped hexec (decide_eq_true_iff.trans (StationTuning.given f).inRange_ne_iff) rfl fun _ => ⟨rfl, rfl⟩

/-! ### Detectors -/

theorem State.defineDetectorChecks_eq (s : State) (f : DetectorFrame) :
    (s.defineDetectorChecks f).map (fun x => (x.1 = true, x.2)) =
      [(s.lineState = .ready, .configLocked),
       (63 < f.detector.toNat ∨ f.station.toNat < 1 ∨ 24 < f.station.toNat ∨ 5 < f.slot.toNat ∨ 2 < f.kind.toNat ∨
          3 < f.profile.toNat ∨ (f.kind.toNat = 0 ∧ 4000000000 < f.position.toNat) ∨
          (f.kind.toNat ≠ 0 ∧ f.position ≠ 0) ∨ 1 < f.latching.toNat ∨ f.reserved ≠ 0, .badField),
       (s.station f.station.toNat = none, .noSuch),
       ((kindOf f.kind = .launchExit ∧ (s.station f.station.toNat).any Station.hasLauncher = false) ∨
          (kindOf f.kind = .trapArrival ∧ (s.station f.station.toNat).any Station.hasReceiver = false), .badField),
       (∃ d ∈ s.detectors, d.num = f.detector.toNat ∨ (d.station = f.station.toNat ∧ d.slot = f.slot.toNat) ∨
          (d.station = f.station.toNat ∧ kindOf f.kind ≠ .mainline ∧ d.kind = kindOf f.kind), .existing)] := by
  have hposition : badDetectorPosition f = true ↔ (f.kind.toNat = 0 ∧ 4000000000 < f.position.toNat) ∨
      (f.kind.toNat ≠ 0 ∧ f.position ≠ 0) := by
    unfold badDetectorPosition
    by_cases hkind : f.kind.toNat = 0
    · simp only [hkind, if_true, badPosition_iff, true_and, ne_eq, not_true_eq_false, false_and, or_false]
    · simp only [hkind, if_false, decide_eq_true_eq, false_and, false_or, ne_eq, not_false_eq_true, true_and]
  have hexisting : ((s.detector f.detector.toNat).isSome || (s.detectorsOf f.station.toNat).any (fun d => d.slot == f.slot.toNat) ||
      decide (kindOf f.kind ≠ .mainline) && (s.kindDetector f.station.toNat (kindOf f.kind)).isSome) = true ↔
      ∃ d ∈ s.detectors, d.num = f.detector.toNat ∨ (d.station = f.station.toNat ∧ d.slot = f.slot.toNat) ∨
        (d.station = f.station.toNat ∧ kindOf f.kind ≠ .mainline ∧ d.kind = kindOf f.kind) := by
    simp only [State.detector, State.detectorsOf, State.kindDetector, Bool.or_eq_true, Bool.and_eq_true, List.find?_isSome,
      List.any_filter, List.any_eq_true, beq_iff_eq, decide_eq_true_eq]
    constructor
    · rintro ((⟨d, hd, hnum⟩ | ⟨d, hd, hslot⟩) | ⟨hkind, d, hd, hstation, hdkind⟩)
      · exact ⟨d, hd, .inl hnum⟩
      · exact ⟨d, hd, .inr (.inl hslot)⟩
      · exact ⟨d, hd, .inr (.inr ⟨hstation, hkind, hdkind⟩)⟩
    · rintro ⟨d, hd, hnum | hslot | ⟨hstation, hkind, hdkind⟩⟩
      · exact .inl (.inl ⟨d, hd, hnum⟩)
      · exact .inl (.inr ⟨d, hd, hslot⟩)
      · exact .inr ⟨hkind, d, hd, hstation, hdkind⟩
  simp only [State.defineDetectorChecks, List.map_cons, List.map_nil, hexisting]
  simp only [s.ready_iff, Bool.or_eq_true, Bool.and_eq_true, nonzero_iff, badStation_iff, above_iff, hposition,
    decide_eq_true_eq, or_assoc, Option.isNone_iff_eq_none, not_getD_map_false]

/-- Settles O20. -/
theorem detectorIsDefined : Obligations.DetectorIsDefined := by
  unfold Obligations.DetectorIsDefined
  intro s f
  simp only [← kindOf_eq, ← yes_eq]
  refine .of_ask (t := .clamped _ _) rfl (s.defineDetectorChecks_eq f) fun _ hexec => ?_
  exact answers_of_clamped hexec (decide_eq_true_iff.trans (min_ne_iff f.rearmVolume.toNat 200000)) rfl fun _ => ⟨rfl, rfl⟩

/-! ### Valves and meters -/

theorem State.defineValveChecks_eq (s : State) (f : ValveFrame) :
    (s.defineValveChecks f).map (fun x => (x.1 = true, x.2)) =
      [(s.lineState = .ready, .configLocked),
       (f.form ≠ 0 ∨ 47 < f.valve.toNat ∨ f.station.toNat < 1 ∨ 24 < f.station.toNat ∨ 3 < f.role.toNat ∨
          (f.role.toNat = 0 ∧ 4000000000 < f.position.toNat) ∨
          (f.role.toNat ≠ 0 ∧ (f.position ≠ 0 ∨ f.guardVol ≠ 0)) ∨ f.reserved ≠ 0, .badField),
       (s.station f.station.toNat = none, .noSuch),
       (((roleOf f.role = .launchOutlet ∨ roleOf f.role = .launchKicker) ∧
            (s.station f.station.toNat).any Station.hasLauncher = false) ∨
          (roleOf f.role = .receiveInlet ∧ (s.station f.station.toNat).any Station.hasReceiver = false), .badField),
       (∃ v ∈ s.valves, v.num = f.valve.toNat ∨ (v.station = f.station.toNat ∧ v.role = roleOf f.role), .existing)] := by
  have hplace : badValvePlace f = true ↔ (f.role.toNat = 0 ∧ 4000000000 < f.position.toNat) ∨
      (f.role.toNat ≠ 0 ∧ (f.position ≠ 0 ∨ f.guardVol ≠ 0)) := by
    unfold badValvePlace
    by_cases hrole : f.role.toNat = 0
    · simp only [hrole, if_true, badPosition_iff, true_and, ne_eq, not_true_eq_false, false_and, or_false]
    · simp only [hrole, if_false, Bool.or_eq_true, decide_eq_true_eq, false_and, false_or, ne_eq, not_false_eq_true, true_and]
  have hexisting : ((s.valve f.valve.toNat).isSome || (s.roleValve f.station.toNat (roleOf f.role)).isSome) = true ↔
      ∃ v ∈ s.valves, v.num = f.valve.toNat ∨ (v.station = f.station.toNat ∧ v.role = roleOf f.role) := by
    simp only [State.valve, State.roleValve, Bool.or_eq_true, Bool.and_eq_true, List.find?_isSome, beq_iff_eq, and_or_left,
      exists_or]
  simp only [State.defineValveChecks, List.map_cons, List.map_nil, hexisting]
  simp only [s.ready_iff, Bool.or_eq_true, Bool.and_eq_true, nonzero_iff, badStation_iff, above_iff, hplace,
    decide_eq_true_eq, or_assoc, Option.isNone_iff_eq_none, not_getD_map_false]

theorem State.defineMeterChecks_eq (s : State) (g : MeterFrame) :
    (s.defineMeterChecks g).map (fun x => (x.1 = true, x.2)) =
      [(s.lineState = .ready, .configLocked),
       (g.form ≠ 0 ∨ 15 < g.meter.toNat ∨ g.station.toNat < 1 ∨ 24 < g.station.toNat ∨ g.reserved ≠ 0, .badField),
       (s.station g.station.toNat = none, .noSuch),
       (∃ m ∈ s.meters, m.num = g.meter.toNat ∨ m.station = g.station.toNat, .existing)] := by
  have hexisting : ((s.meter g.meter.toNat).isSome || (s.meterOf g.station.toNat).isSome) = true ↔
      ∃ m ∈ s.meters, m.num = g.meter.toNat ∨ m.station = g.station.toNat := by
    simp only [State.meter, State.meterOf, Bool.or_eq_true, List.find?_isSome, beq_iff_eq, and_or_left, exists_or]
  simp only [State.defineMeterChecks, List.map_cons, List.map_nil, hexisting]
  simp only [s.ready_iff, Bool.or_eq_true, nonzero_iff, badStation_iff, above_iff, or_assoc, Option.isNone_iff_eq_none]

/-- Settles O21. -/
theorem valvesAndMetersAreDefined : Obligations.ValvesAndMetersAreDefined := by
  unfold Obligations.ValvesAndMetersAreDefined
  intro s f g _ _
  simp only [← roleOf_eq]
  constructor
  · refine .of_ask (t := .clamped _ _) rfl (s.defineValveChecks_eq f) fun _ hexec => ?_
    exact answers_of_clamped hexec (valveClamped_iff f) rfl fun _ => ⟨rfl, rfl⟩
  · refine .of_ask (t := .clamped _ _) rfl (s.defineMeterChecks_eq g) fun _ hexec => ?_
    exact answers_of_clamped hexec (meterClamped_iff g) rfl fun _ => ⟨rfl, rfl⟩

/-! ### Segment meters -/

theorem State.segmentChecks_eq (s : State) (k m r : Byte) :
    (s.segmentChecks k m r).map (fun x => (x.1 = true, x.2)) =
      [(s.lineState = .ready, .configLocked),
       (k.toNat < 1 ∨ 24 < k.toNat ∨ (15 < m.toNat ∧ m.toNat ≠ 255) ∨ r ≠ 0, .badField),
       (s.station k.toNat = none ∨ (m.toNat ≠ 255 ∧ s.meter m.toNat = none), .noSuch)] := by
  simp only [State.segmentChecks, List.map_cons, List.map_nil, s.ready_iff, Bool.or_eq_true, Bool.and_eq_true, nonzero_iff,
    badStation_iff, above_iff, decide_eq_true_eq, or_assoc, Option.isNone_iff_eq_none]

/-- Settles O24. -/
theorem segmentMeterIsSet : Obligations.SegmentMeterIsSet := by
  unfold Obligations.SegmentMeterIsSet
  intro s k m r
  refine .of_ask (t := .ok _) rfl (s.segmentChecks_eq k m r) fun _ hexec => ?_
  exact answers_of_respond _ s _ _ _ _ hexec rfl rfl

/-! ### Opening and clearing -/

theorem State.lineBusy_iff (s : State) :
    s.lineBusy = true ↔ s.pigs ≠ [] ∨ (∃ x ∈ s.stations, x.slot.state ≠ .idle) ∨ ∃ v ∈ s.valves, v.command ≠ none := by
  simp only [State.lineBusy, Bool.or_eq_true, decide_eq_true_eq, List.any_eq_true, or_assoc, Option.isSome_iff_ne_none]

/-- Settles O27. -/
theorem lineIsOpenedAndCleared : Obligations.LineIsOpenedAndCleared := by
  unfold Obligations.LineIsOpenedAndCleared
  intro s r
  constructor
  · refine .of_ask (t := .ok _) rfl ?_ fun _ hexec => ⟨fun hline => ?_, fun hline => ?_⟩
    · simp only [List.map_cons, List.map_nil, nonzero_iff, Bool.and_eq_true, s.ready_iff, s.lineBusy_iff]
    · refine answers_of_respond _ s _ _ _ _ (hexec.trans ?_) rfl rfl
      rw [if_neg fun h => by cases hline.symm.trans ((s.ready_iff).1 h)]
      rfl
    · refine answers_of_respond _ s s.opened _ _ _ (hexec.trans ?_) rfl rfl
      rw [if_pos ((s.ready_iff).2 hline)]
      rfl
  · refine .of_ask (t := .ok _) rfl ?_ fun _ hexec => ?_
    · simp only [List.map_cons, List.map_nil, nonzero_iff, s.ready_iff]
    · exact answers_of_respond _ s _ _ _ _ hexec rfl rfl

end Sys2Proof.Machine
end

section
/-! SUPPORT. The reads, the service requests, LINK_RESET, and the timers of meters and detectors. -/

namespace Sys2Proof.Machine

/-! ### Reads -/

/-- Settles O28. -/
theorem readsChangeNothing : Obligations.ReadsChangeNothing := by
  unfold Obligations.ReadsChangeNothing
  intro s n r
  refine ⟨?_, ?_, ?_, ?_, ?_, ?_, ?_⟩
  · refine .of_ask (t := .withData s _) rfl ?_ fun _ hexec => answers_of_read hexec
    simp only [List.map_cons, List.map_nil, nonzero_iff]
  · refine .of_ask (t := .withData s _) rfl ?_ fun _ hexec d hd => answers_of_read (hexec.trans ?_)
    · simp only [List.map_cons, List.map_nil, Bool.or_eq_true, above_iff, nonzero_iff, Option.isNone_iff_eq_none]
    · rw [hd]
      rfl
  · refine .of_ask (t := .withData s _) rfl ?_ fun _ hexec v hv => answers_of_read (hexec.trans ?_)
    · simp only [List.map_cons, List.map_nil, Bool.or_eq_true, above_iff, nonzero_iff, Option.isNone_iff_eq_none]
    · rw [hv]
      rfl
  · refine .of_ask (t := .withData s _) rfl ?_ fun _ hexec m hm => answers_of_read (hexec.trans ?_)
    · simp only [List.map_cons, List.map_nil, Bool.or_eq_true, above_iff, nonzero_iff, Option.isNone_iff_eq_none]
    · rw [hm]
      rfl
  · refine .of_ask (t := .withData s _) rfl ?_ fun _ hexec => answers_of_read hexec
    simp only [List.map_cons, List.map_nil, nonzero_iff]
  · refine .of_ask (t := .withData s _) rfl ?_ fun _ hexec => answers_of_read hexec
    simp only [List.map_cons, List.map_nil, Bool.or_eq_true, above_iff, nonzero_iff]
  · refine .of_ask (t := .withData s _) rfl ?_ fun _ hexec => answers_of_read hexec
    simp only [List.map_cons, List.map_nil, nonzero_iff]

/-- Settles O29. -/
theorem readsClearTheirChangedFlag : Obligations.ReadsClearTheirChangedFlag := by
  unfold Obligations.ReadsClearTheirChangedFlag
  intro s k r tag
  constructor
  · refine .of_ask (t := .withData (s.modStation k.toNat Station.unmarkChanged) _) rfl ?_ fun _ hexec x hx => ?_
    · simp only [List.map_cons, List.map_nil, Bool.or_eq_true, badStation_iff, nonzero_iff, or_assoc,
        Option.isNone_iff_eq_none]
    · rw [hx] at hexec
      exact answers_of_respond _ s (s.modStation k.toNat Station.unmarkChanged) _ _ _ hexec rfl rfl
  · refine .of_ask (t := .withData (s.modPig tag.toNat Pig.unmarkChanged) _) rfl ?_ fun _ hexec p hp => ?_
    · simp only [State.readPigChecks, List.map_cons, List.map_nil, Bool.or_eq_true, badTag_iff, nonzero_iff,
        Option.isNone_iff_eq_none]
    · rw [hp] at hexec
      exact answers_of_respond _ s (s.modPig tag.toNat Pig.unmarkChanged) _ _ _ hexec rfl rfl

/-! ### Services -/

theorem State.detectorServiceChecks_eq (s : State) (d value r : Byte) (good : Byte) :
    (s.detectorServiceChecks d r (decide (value.toNat ≠ good.toNat))).map (fun x => (x.1 = true, x.2)) =
      [(s.lineState = .unconfigured, .notConfigured), (63 < d.toNat ∨ value ≠ good ∨ r ≠ 0, .badField),
       (s.detector d.toNat = none, .noSuch)] := by
  simp only [State.detectorServiceChecks, List.map_cons, List.map_nil, s.not_ready_iff, Bool.or_eq_true, above_iff,
    nonzero_iff, decide_eq_true_eq, ne_eq, ← BitVec.toNat_eq, or_assoc, Option.isNone_iff_eq_none]

/-- A change of a detector that moves nothing unless it moves what is watched: its station's changed flag follows it. -/
theorem State.updDetector_of_watched {s : State} {n : Nat} {x : Detector} (f : Detector → Detector)
    (hx : s.detector n = some x) (hwatched : (x.state, x.awaited, x.inRearmSet, x.spurious, x.suspect) =
      ((f x).state, (f x).awaited, (f x).inRearmSet, (f x).spurious, (f x).suspect) ↔ f x = x) :
    s.updDetector n f = { s with detectors := (s.modDetector n f).detectors
                                 stations := if f x = x then s.stations else (s.touch x.station).stations } := by
  simp only [State.updDetector, hx, State.touchIf, ne_eq, hwatched, decide_not]
  by_cases hsame : f x = x
  · simp only [hsame, decide_true, Bool.not_true, Bool.false_eq_true, if_false, if_true]
    rfl
  · simp only [hsame, decide_false, Bool.not_false, if_true, if_false]
    rfl

theorem Detector.takenOut_watched (x : Detector) :
    (x.state, x.awaited, x.inRearmSet, x.spurious, x.suspect) = (x.takenOut.state, x.takenOut.awaited, x.takenOut.inRearmSet,
      x.takenOut.spurious, x.takenOut.suspect) ↔ x.takenOut = x := by
  unfold Detector.takenOut
  split
  · exact ⟨fun _ => rfl, fun _ => rfl⟩
  · rename_i hout
    refine ⟨fun h => absurd (congrArg Prod.fst h) hout, fun h => ?_⟩
    exact absurd (congrArg Detector.state h).symm hout

theorem Detector.takenIn_watched (x : Detector) :
    (x.state, x.awaited, x.inRearmSet, x.spurious, x.suspect) = (x.takenIn.state, x.takenIn.awaited, x.takenIn.inRearmSet,
      x.takenIn.spurious, x.takenIn.suspect) ↔ x.takenIn = x := by
  obtain ⟨⟩ := x
  simp only [Detector.takenIn, Prod.mk.injEq, Detector.mk.injEq, true_and, and_true]
  exact ⟨fun ⟨hstate, hspurious, hsuspect⟩ => ⟨hstate.symm, hspurious.symm, hsuspect.symm⟩,
    fun ⟨hstate, hspurious, hsuspect⟩ => ⟨hstate.symm, hspurious.symm, hsuspect.symm⟩⟩

/-- Settles O31: what either service moves of a detector is watched by its station's changed flag. -/
theorem detectorServiceSetsTheDetector : Obligations.DetectorServiceSetsTheDetector := by
  unfold Obligations.DetectorServiceSetsTheDetector
  intro s d value r
  constructor
  · refine .of_ask (t := .ok (s.updDetector d.toNat Detector.takenOut)) rfl (s.detectorServiceChecks_eq d value r 1)
      fun _ hexec x hx => ?_
    rw [State.updDetector_of_watched _ hx x.takenOut_watched] at hexec
    exact answers_of_respond _ s _ _ _ _ hexec rfl ⟨rfl, rfl⟩
  · refine .of_ask (t := .ok (s.updDetector d.toNat Detector.takenIn)) rfl (s.detectorServiceChecks_eq d value r 0)
      fun _ hexec x hx => ?_
    rw [State.updDetector_of_watched _ hx x.takenIn_watched] at hexec
    exact answers_of_respond _ s _ _ _ _ hexec rfl ⟨rfl, rfl⟩

/-- The changed flag of the stations of a number, set where something watched has moved. -/
theorem State.touchIf_decide (s : State) (p : Prop) [Decidable p] (k : Nat) :
    s.touchIf (decide p) k =
      { s with stations := s.stations.map fun y => if y.num = k ∧ p then { y with changed := true } else y } := by
  by_cases hp : p
  · simp only [State.touchIf, hp, decide_true, if_true, and_true]
    rfl
  · simp only [State.touchIf, hp, decide_false, Bool.false_eq_true, if_false, and_false, List.map_id']

/-- Settles O33. -/
theorem valvePermitIsSet : Obligations.ValvePermitIsSet := by
  unfold Obligations.ValvePermitIsSet
  intro s v value r
  have hpermit : decide (value.toNat = 0) = decide (value = 0) :=
    decide_eq_decide.2 (BitVec.toNat_eq (x := value) (y := 0)).symm
  refine .of_ask (t := .ok (s.updValve v.toNat fun x => { x with permit := decide (value.toNat = 0) })) rfl ?_
    fun _ hexec x hx => ?_
  · simp only [State.permitChecks, List.map_cons, List.map_nil, s.not_ready_iff, Bool.or_eq_true, above_iff, nonzero_iff,
      or_assoc, Option.isNone_iff_eq_none]
  · simp only [hpermit, State.updValve, hx, State.touchIf_decide, ne_eq, Prod.mk.injEq, true_and, and_true] at hexec
    exact answers_of_respond _ s _ _ _ _ hexec rfl rfl

/-- CLEAR_TRAP_FAULT on a clear flag is answered as a third check would be. -/
theorem exec_clearTrapFault_eq_ask (s : State) (k r : Byte) :
    exec (.clearTrapFault k r) s = s.ask (s.clearFaultChecks k r ++ [(!s.trapFaultOf k.toNat, .ok)])
      (.ok (s.modStation k.toNat fun x => { x with trapFault := false, changed := true })) := by
  change execClearTrapFault k r s = _
  simp only [execClearTrapFault, State.clearFaultChecks, State.ask, List.cons_append, List.nil_append, firstRefusal]
  cases s.trapFaultOf k.toNat <;> cases (badStation k || nonzero r) <;> cases (s.station k.toNat).isNone <;> rfl

/-- Settles O43. -/
theorem trapFaultIsCleared : Obligations.TrapFaultIsCleared := by
  unfold Obligations.TrapFaultIsCleared
  intro s k r
  refine .of_ask (exec_clearTrapFault_eq_ask s k r) ?_ fun _ hexec => answers_of_respond _ s _ _ _ _ hexec rfl rfl
  simp only [State.clearFaultChecks, State.trapFaultOf, getD_map_false, List.cons_append, List.nil_append, List.map_cons,
    List.map_nil, Bool.or_eq_true, badStation_iff, nonzero_iff, or_assoc, Option.isNone_iff_eq_none, Bool.not_eq_true']

/-- Settles O50. -/
theorem linkResetRestartsTheFieldView : Obligations.LinkResetRestartsTheFieldView := by
  unfold Obligations.LinkResetRestartsTheFieldView
  intro s r
  refine .of_ask (t := .ok s.linkReset) rfl ?_ fun _ hexec => answers_of_respond _ s s.linkReset _ _ _ hexec rfl rfl
  simp only [State.linkResetChecks, List.map_cons, List.map_nil, s.not_ready_iff, nonzero_iff, List.any_eq_true,
    decide_eq_true_eq, Option.isSome_iff_ne_none]

/-! ### Timers of meters and detectors -/

/-- An expiry that is due, and whose timer still stands, acts. -/
theorem State.expire_of_stands {s : State} {e : Expiry} (hdue : e ∈ s.due) (hstands : s.timerStands e = true) :
    s.expire e = ({ s with due := s.due.filter (· ≠ e) } : State).expiryActs e := by
  simp only [State.expire, if_pos hdue, State.timerStands_due, hstands, if_true]

/-- An expiry that is due, and whose timer has ended since, is only no longer due. -/
theorem State.expire_of_ended {s : State} {e : Expiry} (hdue : e ∈ s.due) (hended : s.timerStands e = false) :
    s.expire e = { s with due := s.due.filter (· ≠ e) } := by
  simp only [State.expire, if_pos hdue, State.timerStands_due, hended, Bool.false_eq_true, if_false]

theorem State.timerStands_meterStale {s : State} {m : Nat} {x : Meter} (hx : s.meter m = some x) :
    s.timerStands (.meterStale m) = decide (s.lineState = .ready ∧ x.state = .extrapolating) := by
  simp only [State.timerStands, State.timerCount, hx, s.ready_iff]
  split <;> simp_all

theorem State.timerStands_confirmation {s : State} {d : Nat} {x : Detector} (hx : s.detector d = some x) :
    s.timerStands (.confirmation d) = decide (x.state = .rearming ∧ x.confirmCount ≠ 0) := by
  simp only [State.timerStands, State.timerCount, hx]
  split <;> simp_all

/-- A detector that awaits no record is due for its re-arm. -/
theorem State.rearmDue_of_free {s : State} {x : Detector} (h : x.awaited = none) : s.rearmDue x = true := by
  simp only [State.rearmDue, h]

/-- A detector's record as a lapsed confirmation leaves it before its re-arm test (R99). -/
def Detector.lapsed (y : Detector) : Detector :=
  { y with state := .tripped, awaited := none, confirmStart := none, confirmCount := 0 }

/-- A lapsed confirmation leaves a detector that awaits no record, so that it joins the re-arm set at once (R97, R99). -/
theorem State.confirmationLapses_of_rearming {s : State} {d : Nat} {x : Detector} (hrise : TablesRise s)
    (hx : s.detector d = some x) (hstate : x.state = .rearming) (hlatching : x.latching = true) :
    s.confirmationLapses d = { s with
      detectors := s.detectors.map fun y => if y.num = d then { y.lapsed with inRearmSet := true } else y
      stations := s.stations.map fun y => if y.num = x.station then { y with changed := true } else y } := by
  have hmoved : (x.state, x.awaited, x.inRearmSet, x.spurious, x.suspect) ≠
      (x.lapsed.state, x.lapsed.awaited, x.lapsed.inRearmSet, x.lapsed.spurious, x.lapsed.suspect) := fun h => by
    cases hstate.symm.trans (congrArg Prod.fst h)
  have hlapsed : s.updDetector d Detector.lapsed = (s.modDetector d Detector.lapsed).touch x.station := by
    simp only [State.updDetector, hx, State.touchIf, decide_eq_true hmoved, if_true]
  have hfound : (s.updDetector d Detector.lapsed).detector d = some x.lapsed := by
    rw [hlapsed]
    change (s.modDetector d Detector.lapsed).detector d = _
    rw [s.detector_modDetector d d Detector.lapsed fun _ => rfl, hx, Option.map_some, if_pos (State.detector_num hx)]
  change (s.updDetector d Detector.lapsed).rearmTest d = _
  simp only [State.rearmTest, hfound]
  rw [hlapsed] at hfound ⊢
  by_cases hin : x.inRearmSet = true
  · have hstays : ¬x.lapsed.inRearmSet = false := fun h => by cases hin.symm.trans h
    rw [if_neg fun h => hstays h.2.2.1]
    have hdetectors : s.detectors.map (fun y => if y.num = d then y.lapsed else y) =
        s.detectors.map fun y => if y.num = d then { y.lapsed with inRearmSet := true } else y := by
      refine List.map_congr_left fun y hy => ?_
      split
      · rename_i hnum
        obtain rfl : y = x := Option.some.inj ((hnum ▸ hrise.detector_of_mem hy).symm.trans hx)
        rw [← hin]
        rfl
      · rfl
    rw [← hdetectors]
    rfl
  · rw [if_pos ⟨hlatching, rfl, Bool.eq_false_iff.2 hin, State.rearmDue_of_free rfl⟩, State.updDetector_of_some _ hfound]
    simp only [State.touch, State.modDetector, State.modStation, List.map_map]
    congr 1
    · refine List.map_congr_left fun y _ => ?_
      have hstation : x.lapsed.station = x.station := rfl
      simp only [Function.comp_apply, hstation]
      split <;> simp [*]
    · refine List.map_congr_left fun y _ => ?_
      simp only [Function.comp_apply]
      split
      · rename_i hnum
        exact if_pos hnum
      · rfl

/-- Settles O52: an expiry acts where its timer still stands, and the confirmation that lapses leaves a detector that
awaits no record, so that it joins the re-arm set (R97). -/
theorem meterAndDetectorTimersExpire : Obligations.MeterAndDetectorTimersExpire := by
  unfold Obligations.MeterAndDetectorTimersExpire
  refine fun s => ⟨fun m hdue => ?_, fun d hdue => ?_, fun m x hdue hx => ⟨fun hended => ?_, fun hrise hline hstate => ?_⟩,
    fun d x hdue hx => ⟨fun hended => ?_, fun hrise hstate hcount hlatching => ?_⟩⟩
  · exact congrArg Host.Outcome.next (State.expire_of_not_due hdue)
  · exact congrArg Host.Outcome.next (State.expire_of_not_due hdue)
  · refine congrArg Host.Outcome.next (State.expire_of_ended hdue ?_)
    rw [State.timerStands_meterStale hx, decide_eq_false_iff_not]
    rintro ⟨hline, hstate⟩
    rw [hline] at hended
    exact hended.elim (fun h => by cases h) fun h => h hstate
  · refine congrArg Host.Outcome.next ((State.expire_of_stands hdue ?_).trans ?_)
    · rw [State.timerStands_meterStale hx]
      exact decide_eq_true ⟨hline, hstate⟩
    · have hx' : ({ s with due := s.due.filter (· ≠ .meterStale m) } : State).meter m = some x := hx
      simp only [State.expiryActs, State.updMeter, hx', hstate, State.touchIf_decide, ne_eq, reduceCtorEq, not_false_eq_true,
        and_true]
      rfl
  · refine congrArg Host.Outcome.next (State.expire_of_ended hdue ?_)
    rw [State.timerStands_confirmation hx, decide_eq_false_iff_not]
    rintro ⟨hstate, hcount⟩
    exact hended.elim (fun h => h hstate) hcount
  · refine congrArg Host.Outcome.next ((State.expire_of_stands hdue ?_).trans ?_)
    · rw [State.timerStands_confirmation hx]
      exact decide_eq_true ⟨hstate, hcount⟩
    · exact State.confirmationLapses_of_rearming (s := { s with due := s.due.filter (· ≠ .confirmation d) })
        ⟨hrise.stations, hrise.detectors, hrise.valves, hrise.meters, hrise.pigs⟩ hx hstate hlatching

end Sys2Proof.Machine
end

section
/-! SUPPORT. The bytes of a request's frame: the fields read from bytes and written to bytes are the same, and what the
framing of an assertion comes to (R166, R167, R189). -/

namespace Sys2Proof.Machine

/-! ### Words and bytes -/

theorem bytes2_word2 (a b : Byte) : bytes2 (word2 a b) = [a, b] := by
  have hhigh : (word2 a b).extractLsb' 8 8 = a := by
    ext i hi
    rw [BitVec.getElem_extractLsb']
    refine (BitVec.getLsbD_append (x := a) (y := b)).trans ?_
    rw [if_neg (by omega), Nat.add_sub_cancel_left, BitVec.getLsbD_eq_getElem hi]
  have hlow : (word2 a b).extractLsb' 0 8 = b := by
    ext i hi
    rw [BitVec.getElem_extractLsb']
    refine (BitVec.getLsbD_append (x := a) (y := b)).trans ?_
    rw [if_pos (by omega), Nat.zero_add, BitVec.getLsbD_eq_getElem hi]
  unfold bytes2
  rw [hhigh, hlow]

theorem getLsbD_word4 (a b c d : Byte) (i : Nat) :
    (word4 a b c d).getLsbD i = if i < 8 then d.getLsbD i else if i - 8 < 8 then c.getLsbD (i - 8) else
      if i - 8 - 8 < 8 then b.getLsbD (i - 8 - 8) else a.getLsbD (i - 8 - 8 - 8) := by
  refine (BitVec.getLsbD_append (x := a ++ b ++ c) (y := d)).trans ?_
  rw [BitVec.getLsbD_append (x := a ++ b) (y := c), BitVec.getLsbD_append (x := a) (y := b)]

theorem bytes4_word4 (a b c d : Byte) : bytes4 (word4 a b c d) = [a, b, c, d] := by
  have h24 : (word4 a b c d).extractLsb' 24 8 = a := by
    ext i hi
    rw [BitVec.getElem_extractLsb', getLsbD_word4, if_neg (by omega), if_neg (by omega), if_neg (by omega),
      show 24 + i - 8 - 8 - 8 = i by omega, BitVec.getLsbD_eq_getElem hi]
  have h16 : (word4 a b c d).extractLsb' 16 8 = b := by
    ext i hi
    rw [BitVec.getElem_extractLsb', getLsbD_word4, if_neg (by omega), if_neg (by omega), if_pos (by omega),
      show 16 + i - 8 - 8 = i by omega, BitVec.getLsbD_eq_getElem hi]
  have h8 : (word4 a b c d).extractLsb' 8 8 = c := by
    ext i hi
    rw [BitVec.getElem_extractLsb', getLsbD_word4, if_neg (by omega), if_pos (by omega), Nat.add_sub_cancel_left,
      BitVec.getLsbD_eq_getElem hi]
  have h0 : (word4 a b c d).extractLsb' 0 8 = d := by
    ext i hi
    rw [BitVec.getElem_extractLsb', getLsbD_word4, if_pos (by omega), Nat.zero_add, BitVec.getLsbD_eq_getElem hi]
  unfold bytes4
  rw [h24, h16, h8, h0]

theorem bytes2_word2At (b : List Byte) (i : Nat) : bytes2 (word2At b i) = [b.getD i 0, b.getD (i + 1) 0] := bytes2_word2 ..

theorem bytes4_word4At (b : List Byte) (i : Nat) :
    bytes4 (word4At b i) = [b.getD i 0, b.getD (i + 1) 0, b.getD (i + 2) 0, b.getD (i + 3) 0] := bytes4_word4 ..

/-- A list's entries in order are the list. -/
theorem map_getD_range {b : List Byte} {n : Nat} (h : b.length = n) : (List.range n).map (fun i => b.getD i 0) = b := by
  subst h
  refine List.ext_getElem (by simp) fun i hi hi' => ?_
  simp [List.getD_eq_getElem?_getD, hi']

/-! ### Fields written and read back -/

theorem stationFrameOf_bytes (f : StationFrame) : stationFrameOf (stationFrameBytes f) = f := by
  simp only [stationFrameOf, stationFrameBytes, bytes2, bytes4, word2At, word4At, List.cons_append, List.nil_append, List.getD_cons_zero,
    List.getD_cons_succ, word4_bytes4, word2_bytes2]

theorem detectorFrameOf_bytes (f : DetectorFrame) : detectorFrameOf (detectorFrameBytes f) = f := by
  simp only [detectorFrameOf, detectorFrameBytes, bytes4, word4At, List.cons_append, List.nil_append, List.getD_cons_zero,
    List.getD_cons_succ, word4_bytes4]

theorem valveFrameOf_bytes (f : ValveFrame) : valveFrameOf (valveFrameBytes f) = f := by
  simp only [valveFrameOf, valveFrameBytes, bytes2, bytes4, word2At, word4At, List.cons_append, List.nil_append, List.getD_cons_zero,
    List.getD_cons_succ, word4_bytes4, word2_bytes2]

theorem meterFrameOf_bytes (f : MeterFrame) : meterFrameOf (meterFrameBytes f) = f := by
  simp only [meterFrameOf, meterFrameBytes, bytes2, word2At, List.cons_append, List.nil_append, List.getD_cons_zero,
    List.getD_cons_succ, word2_bytes2]

theorem profileFrameOf_bytes (f : ProfileFrame) : profileFrameOf (profileFrameBytes f) = f := by
  simp only [profileFrameOf, profileFrameBytes, bytes2, bytes4, word2At, word4At, List.cons_append, List.nil_append, List.getD_cons_zero,
    List.getD_cons_succ, word4_bytes4, word2_bytes2]

theorem parametersFrameOf_bytes (f : ParametersFrame) : parametersFrameOf (parametersFrameBytes f) = f := by
  simp only [parametersFrameOf, parametersFrameBytes, bytes2, bytes4, word2At, word4At, List.cons_append, List.nil_append, List.getD_cons_zero,
    List.getD_cons_succ, word4_bytes4, word2_bytes2]

theorem launchFrameOf_bytes (f : LaunchFrame) : launchFrameOf (launchFrameBytes f) = f := by
  simp only [launchFrameOf, launchFrameBytes, bytes2, word2At, List.cons_append, List.nil_append, List.getD_cons_zero,
    List.getD_cons_succ, word2_bytes2]

theorem declareFrameOf_bytes (f : DeclareFrame) : declareFrameOf (declareFrameBytes f) = f := by
  simp only [declareFrameOf, declareFrameBytes, bytes2, bytes4, word2At, word4At, List.cons_append, List.nil_append, List.getD_cons_zero,
    List.getD_cons_succ, word4_bytes4, word2_bytes2]

theorem amendFrameOf_bytes (f : AmendFrame) : amendFrameOf (amendFrameBytes f) = f := by
  simp only [amendFrameOf, amendFrameBytes, bytes2, word2At, List.cons_append, List.nil_append, List.getD_cons_zero,
    List.getD_cons_succ, word2_bytes2]

theorem fixFrameOf_bytes (f : FixFrame) : fixFrameOf (fixFrameBytes f) = f := by
  simp only [fixFrameOf, fixFrameBytes, bytes2, bytes4, word2At, word4At, List.cons_append, List.nil_append, List.getD_cons_zero,
    List.getD_cons_succ, word4_bytes4, word2_bytes2]

theorem ackFrameOf_bytes (f : AckFrame) : ackFrameOf (ackFrameBytes f) = f := by
  simp only [ackFrameOf, ackFrameBytes, bytes2, word2At, List.cons_append, List.nil_append, List.getD_cons_zero,
    List.getD_cons_succ, word2_bytes2]

theorem masksFrameOf_bytes (f : MasksFrame) : masksFrameOf (masksFrameBytes f) = f := by
  simp only [masksFrameOf, masksFrameBytes, bytes2, word2At, List.cons_append, List.nil_append, List.getD_cons_zero,
    List.getD_cons_succ, word2_bytes2]

theorem word2At_bytes2 (x : BitVec 16) (l : List Byte) : word2At (bytes2 x ++ l) 0 = x := word2_bytes2 x

/-- What a request's frame says of it: its code gives the length of its fields, and fields and code give it back. -/
structure FrameOf (i : Instr) (code : Nat) (b : List Byte) : Prop where
  request : requestOf code b = some i
  length : requestLength code = some (b.length + 1)

/-- The fields of a well-formed request are read back from the bytes that carry them. -/
theorem frameOf_encodeRequest {i : Instr} {code : Nat} {b : List Byte} (hwell : i.wellFormed = true)
    (h : encodeRequest i = some (code, b)) : FrameOf i code b := by
  cases i with
  | defineStationDefine f =>
    cases h
    refine ⟨?_, rfl⟩
    exact (congrArg some (if_neg (of_decide_eq_true hwell))).trans
      (congrArg (fun g => some (Instr.defineStationDefine g)) (stationFrameOf_bytes f))
  | defineStationTune f =>
    cases h
    refine ⟨?_, rfl⟩
    exact (congrArg some (if_pos (of_decide_eq_true hwell))).trans
      (congrArg (fun g => some (Instr.defineStationTune g)) (stationFrameOf_bytes f))
  | defineDetector f => cases h; exact ⟨congrArg (fun g => some (Instr.defineDetector g)) (detectorFrameOf_bytes f), rfl⟩
  | defineValveDefine f =>
    cases h
    refine ⟨?_, rfl⟩
    exact (congrArg some (if_neg (of_decide_eq_true hwell))).trans
      (congrArg (fun g => some (Instr.defineValveDefine g)) (valveFrameOf_bytes f))
  | defineValveTune f =>
    cases h
    refine ⟨?_, rfl⟩
    exact (congrArg some (if_pos (of_decide_eq_true hwell))).trans
      (congrArg (fun g => some (Instr.defineValveTune g)) (valveFrameOf_bytes f))
  | defineMeterDefine f =>
    cases h
    refine ⟨?_, rfl⟩
    exact (congrArg some (if_neg (of_decide_eq_true hwell))).trans
      (congrArg (fun g => some (Instr.defineMeterDefine g)) (meterFrameOf_bytes f))
  | defineMeterTune f =>
    cases h
    refine ⟨?_, rfl⟩
    exact (congrArg some (if_pos (of_decide_eq_true hwell))).trans
      (congrArg (fun g => some (Instr.defineMeterTune g)) (meterFrameOf_bytes f))
  | setProfile f => cases h; exact ⟨congrArg (fun g => some (Instr.setProfile g)) (profileFrameOf_bytes f), rfl⟩
  | setLineParameters f =>
    cases h; exact ⟨congrArg (fun g => some (Instr.setLineParameters g)) (parametersFrameOf_bytes f), rfl⟩
  | setDetectorServiceOut d v r => cases h; exact ⟨congrArg some (if_pos (of_decide_eq_true hwell)), rfl⟩
  | setDetectorServiceIn d v r => cases h; exact ⟨congrArg some (if_neg (of_decide_eq_true hwell)), rfl⟩
  | launch f => cases h; exact ⟨congrArg (fun g => some (Instr.launch g)) (launchFrameOf_bytes f), rfl⟩
  | declarePig f => cases h; exact ⟨congrArg (fun g => some (Instr.declarePig g)) (declareFrameOf_bytes f), rfl⟩
  | amendPig f => cases h; exact ⟨congrArg (fun g => some (Instr.amendPig g)) (amendFrameOf_bytes f), rfl⟩
  | fixPig f => cases h; exact ⟨congrArg (fun g => some (Instr.fixPig g)) (fixFrameOf_bytes f), rfl⟩
  | ackAlert f => cases h; exact ⟨congrArg (fun g => some (Instr.ackAlert g)) (ackFrameOf_bytes f), rfl⟩
  | setAttentionMasks f => cases h; exact ⟨congrArg (fun g => some (Instr.setAttentionMasks g)) (masksFrameOf_bytes f), rfl⟩
  | declareLost u r => cases h; exact ⟨congrArg (fun x => some (Instr.declareLost x r)) (word2At_bytes2 u [r]), rfl⟩
  | retirePig u r => cases h; exact ⟨congrArg (fun x => some (Instr.retirePig x r)) (word2At_bytes2 u [r]), rfl⟩
  | readPig u r => cases h; exact ⟨congrArg (fun x => some (Instr.readPig x r)) (word2At_bytes2 u [r]), rfl⟩
  | armReceive u r => cases h; exact ⟨congrArg (fun x => some (Instr.armReceive x r)) (word2At_bytes2 u [r]), rfl⟩
  | _ => cases h <;> exact ⟨rfl, rfl⟩

/-- Every request's frame fits in an assertion. -/
theorem requestLength_le {code n : Nat} (h : requestLength code = some n) : code < 256 ∧ n ≤ 63 := by
  unfold requestLength at h
  split at h <;> cases h <;> decide

/-! ### Framing -/

theorem framing_zero {n : Byte} (h : n = 0) (rest : List Byte) : framing (n :: rest) = .read := by
  subst h
  rfl

theorem framing_above {n : Byte} (h : 64 ≤ n.toNat) (rest : List Byte) : framing (n :: rest) = .badLength := by
  rw [framing, if_neg (by omega), if_pos h]

theorem framing_short {n : Byte} (hpos : 1 ≤ n.toNat) (hle : n.toNat ≤ 63) {rest : List Byte} (h : rest.length < n.toNat) :
    framing (n :: rest) = .badLength := by
  rw [framing, if_neg (by omega), if_neg (by omega)]
  split
  · rfl
  · rw [if_pos h]

theorem take_frame {n code : Byte} (hpos : 1 ≤ n.toNat) (more : List Byte) :
    (code :: more).take n.toNat = code :: more.take (n.toNat - 1) := by
  obtain ⟨m, hm⟩ : ∃ m, n.toNat = m + 1 := ⟨n.toNat - 1, by omega⟩
  rw [hm, List.take_succ_cons, Nat.add_sub_cancel]

theorem framing_unknown {n code : Byte} (hpos : 1 ≤ n.toNat) (hle : n.toNat ≤ 63) {more : List Byte}
    (hlen : n.toNat ≤ (code :: more).length) (hcode : requestLength code.toNat = none) :
    framing (n :: code :: more) = .unknown := by
  rw [framing, if_neg (by omega), if_neg (by omega), take_frame hpos]
  simp only [if_neg (Nat.not_lt.2 hlen), hcode]

theorem framing_wrongLength {n code : Byte} (hpos : 1 ≤ n.toNat) (hle : n.toNat ≤ 63) {more : List Byte}
    (hlen : n.toNat ≤ (code :: more).length) {k : Nat} (hcode : requestLength code.toNat = some k) (hk : n.toNat ≠ k) :
    framing (n :: code :: more) = .badLength := by
  rw [framing, if_neg (by omega), if_neg (by omega), take_frame hpos]
  simp only [if_neg (Nat.not_lt.2 hlen), hcode, if_neg hk]

theorem framing_request {n code : Byte} (hpos : 1 ≤ n.toNat) (hle : n.toNat ≤ 63) {more : List Byte}
    (hlen : n.toNat ≤ (code :: more).length) (hcode : requestLength code.toNat = some n.toNat) :
    framing (n :: code :: more) = .request code.toNat (more.take (n.toNat - 1)) := by
  rw [framing, if_neg (by omega), if_neg (by omega), take_frame hpos]
  simp only [if_neg (Nat.not_lt.2 hlen), hcode, if_true]

/-- Settles O2: the length byte and the code of the frame are those of the request, and its fields are read back. -/
theorem requestFramesDecodeBack : Obligations.RequestFramesDecodeBack := by
  unfold Obligations.RequestFramesDecodeBack
  intro i frame extra hwell hframe
  obtain ⟨⟨code, b⟩, hencode, rfl⟩ := Option.map_eq_some_iff.1 hframe
  obtain ⟨hrequest, hlength⟩ := frameOf_encodeRequest hwell hencode
  obtain ⟨hcode, hle⟩ := requestLength_le hlength
  have hn : (BitVec.ofNat 8 (b.length + 1)).toNat = b.length + 1 := by
    rw [BitVec.toNat_ofNat]
    exact Nat.mod_eq_of_lt (by omega)
  have hc : (BitVec.ofNat 8 code).toNat = code := by
    rw [BitVec.toNat_ofNat]
    exact Nat.mod_eq_of_lt hcode
  have hframing : framing (BitVec.ofNat 8 (b.length + 1) :: BitVec.ofNat 8 code :: (b ++ extra)) = .request code b := by
    rw [framing_request (by omega) (by omega) (by simp [hn]) (by rw [hn, hc, hlength])]
    rw [hn, hc, Nat.add_sub_cancel, List.take_left]
  simp only [decodeFrame, List.cons_append, hframing, hrequest]

/-! ### Requests read from bytes -/

/-- What is written of the frame read from some bytes is those bytes. -/
structure ReadBack (code : Nat) (b : List Byte) : Prop where
  back : ∃ i, requestOf code b = some i ∧ i.wellFormed = true ∧ encodeRequest i = some (code, b)

theorem ReadBack.of_bytes {code n : Nat} {b l : List Byte} {i : Instr} (hlen : b.length = n)
    (hrequest : requestOf code b = some i) (hwell : i.wellFormed = true) (hencode : encodeRequest i = some (code, l))
    (hl : l = (List.range n).map fun j => b.getD j 0) : ReadBack code b :=
  ⟨i, hrequest, hwell, hencode.trans (by rw [hl, map_getD_range hlen])⟩

theorem stationFrameBytes_of (b : List Byte) :
    stationFrameBytes (stationFrameOf b) = (List.range 32).map fun j => b.getD j 0 := by
  simp only [stationFrameBytes, stationFrameOf, bytes2_word2At, bytes4_word4At]
  rfl

theorem detectorFrameBytes_of (b : List Byte) :
    detectorFrameBytes (detectorFrameOf b) = (List.range 15).map fun j => b.getD j 0 := by
  simp only [detectorFrameBytes, detectorFrameOf, bytes4_word4At]
  rfl

theorem valveFrameBytes_of (b : List Byte) :
    valveFrameBytes (valveFrameOf b) = (List.range 15).map fun j => b.getD j 0 := by
  simp only [valveFrameBytes, valveFrameOf, bytes2_word2At, bytes4_word4At]
  rfl

theorem meterFrameBytes_of (b : List Byte) :
    meterFrameBytes (meterFrameOf b) = (List.range 8).map fun j => b.getD j 0 := by
  simp only [meterFrameBytes, meterFrameOf, bytes2_word2At]
  rfl

theorem profileFrameBytes_of (b : List Byte) :
    profileFrameBytes (profileFrameOf b) = (List.range 12).map fun j => b.getD j 0 := by
  simp only [profileFrameBytes, profileFrameOf, bytes2_word2At, bytes4_word4At]
  rfl

theorem parametersFrameBytes_of (b : List Byte) :
    parametersFrameBytes (parametersFrameOf b) = (List.range 20).map fun j => b.getD j 0 := by
  simp only [parametersFrameBytes, parametersFrameOf, bytes2_word2At, bytes4_word4At]
  rfl

theorem launchFrameBytes_of (b : List Byte) :
    launchFrameBytes (launchFrameOf b) = (List.range 8).map fun j => b.getD j 0 := by
  simp only [launchFrameBytes, launchFrameOf, bytes2_word2At]
  rfl

theorem declareFrameBytes_of (b : List Byte) :
    declareFrameBytes (declareFrameOf b) = (List.range 11).map fun j => b.getD j 0 := by
  simp only [declareFrameBytes, declareFrameOf, bytes2_word2At, bytes4_word4At]
  rfl

theorem amendFrameBytes_of (b : List Byte) :
    amendFrameBytes (amendFrameOf b) = (List.range 8).map fun j => b.getD j 0 := by
  simp only [amendFrameBytes, amendFrameOf, bytes2_word2At]
  rfl

theorem fixFrameBytes_of (b : List Byte) :
    fixFrameBytes (fixFrameOf b) = (List.range 7).map fun j => b.getD j 0 := by
  simp only [fixFrameBytes, fixFrameOf, bytes2_word2At, bytes4_word4At]
  rfl

theorem ackFrameBytes_of (b : List Byte) :
    ackFrameBytes (ackFrameOf b) = (List.range 4).map fun j => b.getD j 0 := by
  simp only [ackFrameBytes, ackFrameOf, bytes2_word2At]
  rfl

theorem masksFrameBytes_of (b : List Byte) :
    masksFrameBytes (masksFrameOf b) = (List.range 5).map fun j => b.getD j 0 := by
  simp only [masksFrameBytes, masksFrameOf, bytes2_word2At]
  rfl

theorem tagBytes_of (b : List Byte) :
    bytes2 (word2At b 0) ++ [b.getD 2 0] = (List.range 3).map fun j => b.getD j 0 := by
  rw [bytes2_word2At]
  rfl

/-- Some bytes of a code's length are the fields of a well-formed request. -/
theorem readBack_of_length {code : Nat} {b : List Byte} (h : requestLength code = some (b.length + 1)) : ReadBack code b := by
  unfold requestLength at h
  split at h
  case h_1 =>
    have hlen := Nat.succ.inj (Option.some.inj h).symm
    by_cases hform : b.getD 0 0 = 1
    · exact .of_bytes (i := .defineStationTune _) hlen (congrArg some (if_pos hform)) (decide_eq_true hform) rfl (stationFrameBytes_of b)
    · exact .of_bytes (i := .defineStationDefine _) hlen (congrArg some (if_neg hform)) (decide_eq_true hform) rfl (stationFrameBytes_of b)
  case h_3 =>
    have hlen := Nat.succ.inj (Option.some.inj h).symm
    by_cases hform : b.getD 0 0 = 1
    · exact .of_bytes (i := .defineValveTune _) hlen (congrArg some (if_pos hform)) (decide_eq_true hform) rfl (valveFrameBytes_of b)
    · exact .of_bytes (i := .defineValveDefine _) hlen (congrArg some (if_neg hform)) (decide_eq_true hform) rfl (valveFrameBytes_of b)
  case h_4 =>
    have hlen := Nat.succ.inj (Option.some.inj h).symm
    by_cases hform : b.getD 0 0 = 1
    · exact .of_bytes (i := .defineMeterTune _) hlen (congrArg some (if_pos hform)) (decide_eq_true hform) rfl (meterFrameBytes_of b)
    · exact .of_bytes (i := .defineMeterDefine _) hlen (congrArg some (if_neg hform)) (decide_eq_true hform) rfl (meterFrameBytes_of b)
  case h_13 =>
    have hlen := Nat.succ.inj (Option.some.inj h).symm
    by_cases hform : b.getD 1 0 = 1
    · exact .of_bytes (i := .setDetectorServiceOut _ _ _) hlen (congrArg some (if_pos hform)) (decide_eq_true hform) rfl rfl
    · exact .of_bytes (i := .setDetectorServiceIn _ _ _) hlen (congrArg some (if_neg hform)) (decide_eq_true hform) rfl rfl
  case h_2 => exact .of_bytes (Nat.succ.inj (Option.some.inj h).symm) rfl rfl rfl (detectorFrameBytes_of b)
  case h_6 => exact .of_bytes (Nat.succ.inj (Option.some.inj h).symm) rfl rfl rfl (profileFrameBytes_of b)
  case h_7 => exact .of_bytes (Nat.succ.inj (Option.some.inj h).symm) rfl rfl rfl (parametersFrameBytes_of b)
  case h_16 => exact .of_bytes (Nat.succ.inj (Option.some.inj h).symm) rfl rfl rfl (launchFrameBytes_of b)
  case h_17 => exact .of_bytes (Nat.succ.inj (Option.some.inj h).symm) rfl rfl rfl (declareFrameBytes_of b)
  case h_18 => exact .of_bytes (Nat.succ.inj (Option.some.inj h).symm) rfl rfl rfl (amendFrameBytes_of b)
  case h_19 => exact .of_bytes (Nat.succ.inj (Option.some.inj h).symm) rfl rfl rfl (fixFrameBytes_of b)
  case h_37 => exact .of_bytes (Nat.succ.inj (Option.some.inj h).symm) rfl rfl rfl (ackFrameBytes_of b)
  case h_38 => exact .of_bytes (Nat.succ.inj (Option.some.inj h).symm) rfl rfl rfl (masksFrameBytes_of b)
  case h_20 | h_21 | h_22 | h_25 => exact .of_bytes (Nat.succ.inj (Option.some.inj h).symm) rfl rfl rfl (tagBytes_of b)
  case h_41 => cases h
  all_goals exact .of_bytes (Nat.succ.inj (Option.some.inj h).symm) rfl rfl rfl rfl

/-- Settles O3. -/
theorem framingFollowsTheFirstBytes : Obligations.FramingFollowsTheFirstBytes := by
  unfold Obligations.FramingFollowsTheFirstBytes
  refine ⟨rfl, fun n rest => ⟨fun hn => ?_, fun hn => ?_, fun hpos hle hlen => ?_, fun code more hrest hpos hle hlen => ?_⟩⟩
  · simp only [decodeFrame, framing_zero hn, List.length_cons]
  · simp only [decodeFrame, framing_above hn]
  · simp only [decodeFrame, framing_short hpos hle hlen]
  · subst hrest
    refine ⟨fun hnone => ?_, fun k hk hne => ?_, fun hk => ?_⟩
    · simp only [decodeFrame, framing_unknown hpos hle hlen hnone]
    · simp only [decodeFrame, framing_wrongLength hpos hle hlen hk hne.symm]
    · have hfields : (more.take (n.toNat - 1)).length + 1 = n.toNat := by
        rw [List.length_cons] at hlen
        rw [List.length_take]
        omega
      obtain ⟨i, hrequest, hwell, hencode⟩ := (readBack_of_length (hk.trans (congrArg some hfields.symm))).back
      refine ⟨i, ?_, hwell, ?_⟩
      · simp only [decodeFrame, framing_request hpos hle hlen hk, hrequest]
      · simp only [encodeFrame, hencode, Option.map_some, hfields, BitVec.ofNat_toNat, BitVec.setWidth_eq,
          take_frame hpos]

end Sys2Proof.Machine
end

section
/-! SUPPORT. What every command but a few leaves: the Line Clock, the port, and the alert causes that are set. -/

namespace Sys2Proof.Machine

/-- Every alert cause set in s is set in t. -/
structure AlertsStand (s t : State) : Prop where
  stands : ∀ a, s.alertSet a = true → t.alertSet a = true

namespace AlertsStand

theorem refl (s : State) : AlertsStand s s := ⟨fun _ h => h⟩

theorem trans {s t u : State} (h : AlertsStand s t) (g : AlertsStand t u) : AlertsStand s u :=
  ⟨fun a ha => g.stands a (h.stands a ha)⟩

theorem of_eq {s t : State} (h : t.attention.alerts = s.attention.alerts) : AlertsStand s t :=
  ⟨fun a ha => by rwa [State.alertSet, h]⟩

/-- What stands through what follows stands from any state with the same alert causes set. -/
theorem after {s t u : State} (h : AlertsStand t u) (hsame : t.attention.alerts = s.attention.alerts) : AlertsStand s u :=
  (of_eq hsame).trans h

theorem foldl {α : Type} (f : State → α → State) (h : ∀ s a, AlertsStand s (f s a)) (l : List α) (s : State) :
    AlertsStand s (l.foldl f s) := by
  induction l generalizing s with
  | nil => exact refl s
  | cons a l ih => exact (h s a).trans (ih _)

theorem raise (s : State) (c : AlertCause) : AlertsStand s (s.raise c) := by
  refine ⟨fun a ha => ?_⟩
  simp only [State.alertSet, State.raise, BitVec.getLsbD_or] at ha ⊢
  rw [ha]
  rfl

theorem touchIf (s : State) (b : Bool) (k : Nat) : AlertsStand s (s.touchIf b k) := by
  rw [State.touchIf_eq]
  exact of_eq rfl

theorem updSlot (s : State) (k : Nat) (f : Slot → Slot) : AlertsStand s (s.updSlot k f) := by
  unfold State.updSlot
  split
  · exact refl s
  · exact (touchIf ..).after rfl

theorem updValve (s : State) (v : Nat) (f : Valve → Valve) : AlertsStand s (s.updValve v f) := by
  unfold State.updValve
  split
  · exact refl s
  · exact (touchIf ..).after rfl

theorem strikeRecords (s : State) (l : List Nat) : AlertsStand s (s.strikeRecords l) := by
  refine foldl _ (fun _ _ => ?_) l s
  exact of_eq rfl

theorem applyHold (s : State) (v : Valve) (l : List Nat) : AlertsStand s (s.applyHold v l) := by
  obtain heq | ⟨tags, heq⟩ := s.applyHold_cases v l
  · rw [heq]
    exact updValve ..
  · rw [heq]
    exact ((updValve ..).trans (strikeRecords ..)).trans (raise ..)

theorem reevalValve (s : State) (n : Nat) : AlertsStand s (s.reevalValve n) := by
  unfold State.reevalValve
  split
  · exact refl s
  · split
    · exact applyHold ..
    · exact refl s

theorem strikeTest (s : State) (n : Nat) : AlertsStand s (s.strikeTest n) := by
  unfold State.strikeTest
  split
  · exact refl s
  · split
    · exact applyHold ..
    · exact refl s

theorem reevalAll (s : State) : AlertsStand s s.reevalAll := foldl _ reevalValve _ s

theorem change {s t : State} (h : Change s t) : AlertsStand s t := by
  cases h with
  | reevalValve n => exact reevalValve ..
  | reseat k f hblank => exact (updSlot ..).trans (foldl _ reevalValve _ _)
  | moved u f => exact (reevalAll _).after rfl
  | joined u x f => exact (reevalAll _).after rfl
  | left u f =>
    refine AlertsStand.trans (of_eq ?_) (reevalAll _)
    rw [s.leaveTrain_eq]
    rfl
  | raise c => exact raise ..
  | station | serve | link | detector | valve | enqueue | endCommand | accept | meter | record | note | due | choices =>
    exact of_eq rfl

theorem runs {s t : State} (h : Runs s t) : AlertsStand s t := by
  induction h with
  | refl s => exact refl s
  | change h => exact change h
  | trans _ _ ih ih' => exact ih.trans ih'
  | @debounce s t n v c hv h ih => exact ((updValve ..).trans ih).trans (strikeTest ..)

/-- A command that is not loud clears no alert cause. -/
theorem acts {s t : State} (h : Acts false s t) : AlertsStand s t := by
  induction h with
  | runs h => exact runs h
  | trans _ _ ih ih' => exact ih.trans ih'
  | aside s port attention lineTrip commitFault pending hquiet =>
    exact of_eq (hquiet.resolve_left Bool.false_ne_true).2
  | tick s hloud => cases hloud
  | reset s link port lineTrip choices pending hloud => cases hloud
  | rezone => exact (reevalValve ..).after rfl
  | regauge s profiles params h => exact ((runs h).trans (reevalAll _)).after rfl
  | declare => exact (reevalAll _).after rfl
  | retire s u hout h => exact ((runs h).trans (reevalAll _)).after rfl
  | tuneStation | tuneValve | tuneMeter | addStation | addDetector | addValve | addMeter | clear | commit | opened | gauge |
    stage => exact of_eq rfl
  | linkReset => exact of_eq rfl

end AlertsStand

/-! ### The clock and the port -/

/-- The Line Clock and the port stand. -/
def ClockAndPortStand (s t : State) : Prop := t.clock = s.clock ∧ t.port = s.port

namespace ClockAndPortStand

theorem refl (s : State) : ClockAndPortStand s s := ⟨rfl, rfl⟩

theorem trans {s t u : State} (h : ClockAndPortStand s t) (g : ClockAndPortStand t u) : ClockAndPortStand s u :=
  ⟨g.1.trans h.1, g.2.trans h.2⟩

theorem after {s t u : State} (h : ClockAndPortStand t u) (hsame : ClockAndPortStand s t) : ClockAndPortStand s u :=
  hsame.trans h

theorem runs {s t : State} (h : Runs s t) : ClockAndPortStand s t := by
  rw [(SameLine.of_runs h).rest]
  exact ⟨rfl, rfl⟩

theorem reaches {s t : State} (h : Reaches s t) : ClockAndPortStand s t := by
  unfold Reaches at h
  rw [h]
  exact ⟨rfl, rfl⟩

theorem spreads {s t : State} (h : Spreads s t) : ClockAndPortStand s t := by
  unfold Spreads at h
  rw [h]
  exact ⟨rfl, rfl⟩

/-- A command that is not loud leaves the clock and the port as they are. -/
theorem acts {s t : State} (h : Acts false s t) : ClockAndPortStand s t := by
  induction h with
  | runs h => exact runs h
  | trans _ _ ih ih' => exact ih.trans ih'
  | aside s port attention lineTrip commitFault pending hquiet =>
    exact ⟨rfl, (hquiet.resolve_left Bool.false_ne_true).1⟩
  | tick s hloud => cases hloud
  | reset s link port lineTrip choices pending hloud => cases hloud
  | rezone => exact (reaches (.reevalValve ..)).after ⟨rfl, rfl⟩
  | regauge s profiles params h => exact ((runs h).trans (reaches (.reevalAll _))).after ⟨rfl, rfl⟩
  | declare => exact (reaches (.reevalAll _)).after ⟨rfl, rfl⟩
  | retire s u hout h => exact ((runs h).trans (reaches (.reevalAll _))).after ⟨rfl, rfl⟩
  | tuneStation | tuneValve | tuneMeter | addStation | addDetector | addValve | addMeter | clear | commit | opened | gauge |
    stage | linkReset => exact ⟨rfl, rfl⟩

end ClockAndPortStand

end Sys2Proof.Machine
end

section
/-! SUPPORT. What holds of every command: which commands the Line Clock and the alerts know, how a request is answered, what
a refused one leaves, and what a poll carries. -/

namespace Sys2Proof.Machine

/-! ### Taking a request -/

/-- A request is refused, or it acts, every check passed. -/
theorem State.ask_cases (s : State) (checks : List (Bool × Status)) (r : Taken) :
    (∃ st, s.ask checks r = .next (s.respond st [])) ∨
      (∀ c ∈ checks, c.1 = false) ∧ s.ask checks r = .next (r.state.respond r.status r.data) := by
  unfold State.ask
  cases hrefusal : firstRefusal checks with
  | none => exact .inr ⟨firstRefusal_eq_none hrefusal, rfl⟩
  | some st => exact .inl ⟨st, rfl⟩

theorem Asked.cases {loud : Bool} {s : State} {o : Host.Outcome State Fault Refusal} (h : Asked loud s o) :
    (∃ st, o = .next (s.respond st [])) ∨
      ∃ r, Accepted s r ∧ Acts loud s r.state ∧ o = .next (r.state.respond r.status r.data) := by
  obtain ⟨checks, r, rfl, haccepted, hacts⟩ := h
  obtain hrefused | ⟨hpass, htaken⟩ := s.ask_cases checks r
  · exact .inl hrefused
  · exact .inr ⟨r, haccepted, hacts hpass, htaken⟩

/-! ### Quiet commands -/

/-- The commands that may move the clock or clear an alert cause: the resets, a second and an acknowledgement. -/
inductive IsLoud : Instr → Prop
  | powerOn (rate : BitVec 2) : IsLoud (.powerOn rate)
  | restart (r : Byte) : IsLoud (.restart r)
  | second : IsLoud .lineClockSecond
  | ackAlert (f : AckFrame) : IsLoud (.ackAlert f)

/-- Any other command leaves the clock as it is and clears no alert cause. -/
theorem quiet_of_exec {c : Instr} {s t : State} (h : exec c s = .next t) (hquiet : ¬ IsLoud c) :
    t.clock = s.clock ∧ AlertsStand s t := by
  have hacts : ∀ {u : State}, Acts false s u → u.clock = s.clock ∧ AlertsStand s u := fun hu =>
    ⟨(ClockAndPortStand.acts hu).1, .acts hu⟩
  have hruns : ∀ {u : State}, Runs s u → u.clock = s.clock ∧ AlertsStand s u := fun hu => hacts (.runs hu)
  have hasked : Asked false s (.next t) → t.clock = s.clock ∧ AlertsStand s t := fun hasked => by
    obtain ⟨st, hrefused⟩ | ⟨r, -, hr, htaken⟩ := hasked.cases
    · cases hrefused
      exact ⟨rfl, .of_eq rfl⟩
    · cases htaken
      exact ⟨(hacts hr).1, (hacts hr).2.trans (.of_eq rfl)⟩
  cases c with
  | powerOn rate => exact absurd (.powerOn rate) hquiet
  | restart r => exact absurd (.restart r) hquiet
  | lineClockSecond => exact absurd .second hquiet
  | ackAlert f => exact absurd (.ackAlert f) hquiet
  | lineTripAsserted =>
    cases h
    split
    · exact ⟨rfl, .refl s⟩
    · exact hacts (.assertTrip s)
  | lineTripReleased =>
    cases h
    split
    · exact hacts (.releaseTrip s)
    · exact ⟨rfl, .refl s⟩
  | meterStale m => cases h; exact hruns (.expire ..)
  | strokeTimeout v => cases h; exact hruns (.expire ..)
  | deliveryLimitExpiry v => cases h; exact hruns (.expire ..)
  | confirmationLapse d => cases h; exact hruns (.expire ..)
  | holdLapsed k => cases h; exact hruns (.expire ..)
  | launchTimeout k => cases h; exact hruns (.expire ..)
  | arrivalTimeout k => cases h; exact hruns (.expire ..)
  | pauseLapsed k => cases h; exact hruns (.expire ..)
  | replyTimeout => cases h; exact hruns (.replyExpires s)
  | pollSlotStart => cases h; exact hruns (.pollSlot s)
  | report frame => cases h; exact hruns (.receive s frame)
  | autoReceiveStart k => cases h; exact hruns (.autoStart s k)
  | requestFrameOverrun => cases h; exact ⟨rfl, .of_eq rfl⟩
  | badLength frame => cases h; exact ⟨rfl, .of_eq rfl⟩
  | unknownRequest frame => cases h; exact ⟨rfl, .of_eq rfl⟩
  | readResponse n => cases h; exact ⟨rfl, .of_eq rfl⟩
  | _ => exact hasked (h ▸ Acts.of_request s rfl (fun r hr => by cases hr) (.inr fun f hf => by cases hf))

/-- The two outcomes of a RESTART. -/
theorem exec_restart_cases (r : Byte) (s : State) :
    r ≠ 0 ∧ exec (.restart r) s = .next (s.respond .badField []) ∨ r = 0 ∧ exec (.restart r) s = .next s.restarted := by
  by_cases hr : r = 0
  · exact .inr ⟨hr, if_neg fun h => (nonzero_iff r).1 h hr⟩
  · exact .inl ⟨hr, if_pos ((nonzero_iff r).2 hr)⟩

theorem State.clock_tripAtReset (s : State) : s.tripAtReset.clock = s.clock := (ClockAndPortStand.acts (Acts.tripAtReset s)).1

theorem State.clock_tick (s : State) : s.tick.clock = min (s.clock + 1) 4294967295 := by
  by_cases hready : s.ready = true
  · rw [State.tick_of_ready hready]
    rfl
  · rw [State.tick_of_not_ready hready]
    rfl

theorem exec_ackAlert_eq_ask (f : AckFrame) (s : State) :
    exec (.ackAlert f) s =
      s.ask [(badAck f, .badField)] (.withData (s.acknowledge f) (s.acknowledge f).causesData) := by
  rfl

/-- The two outcomes of an acknowledgement. -/
theorem exec_ackAlert_cases (f : AckFrame) (s : State) :
    (∃ st, exec (.ackAlert f) s = .next (s.respond st [])) ∨
      exec (.ackAlert f) s = .next ((s.acknowledge f).respond .ok (s.acknowledge f).causesData) := by
  rw [exec_ackAlert_eq_ask]
  obtain hrefused | ⟨-, htaken⟩ := s.ask_cases [(badAck f, .badField)]
    (.withData (s.acknowledge f) (s.acknowledge f).causesData)
  · exact .inl hrefused
  · exact .inr htaken

/-- Settles O17. -/
theorem clockMovesOnlyAtSeconds : Obligations.ClockMovesOnlyAtSeconds := by
  unfold Obligations.ClockMovesOnlyAtSeconds
  intro c s t h
  by_cases hloud : IsLoud c
  · cases hloud with
    | powerOn rate =>
      cases h
      exact .inr (.inl ⟨⟨rate, rfl⟩, State.clock_tripAtReset _⟩)
    | restart r =>
      refine .inr (.inr (.inl ⟨r, rfl, ?_⟩))
      obtain ⟨hr, hexec⟩ | ⟨hr, hexec⟩ := exec_restart_cases r s
      · cases hexec.symm.trans h
        rw [if_neg hr]
        rfl
      · cases hexec.symm.trans h
        rw [if_pos hr]
        exact State.clock_tripAtReset _
    | second =>
      cases h
      obtain ⟨u, hbefore, hafter⟩ := Acts.second_runs s
      refine .inl ⟨rfl, ?_⟩
      rw [(ClockAndPortStand.runs hafter).1, State.clock_tick, (ClockAndPortStand.runs hbefore).1]
    | ackAlert f =>
      refine .inr (.inr (.inr ⟨⟨(by intro hc; cases hc), (by intro _ hc; cases hc), (by intro _ hc; cases hc)⟩, ?_⟩))
      obtain ⟨st, hrefused⟩ | htaken := exec_ackAlert_cases f s
      · cases hrefused.symm.trans h
        rfl
      · cases htaken.symm.trans h
        rfl
  · refine .inr (.inr (.inr ⟨⟨fun hc => hloud (hc ▸ .second), fun r hc => hloud (hc ▸ .powerOn r),
      fun r hc => hloud (hc ▸ .restart r)⟩, (quiet_of_exec h hloud).1⟩))

/-- A cause that an acknowledgement does not name stands. -/
theorem State.alertSet_acknowledge {s : State} {f : AckFrame} {a : AlertCause} (hset : s.alertSet a = true)
    (hnamed : f.alerts.getLsbD a.ctorIdx = false) : (s.acknowledge f).alertSet a = true := by
  have hlt : a.ctorIdx < 9 := by cases a <;> decide
  simp only [State.alertSet, State.acknowledge, Attention.acknowledged, BitVec.getLsbD_and, BitVec.getLsbD_not,
    BitVec.getLsbD_setWidth, hnamed] at hset ⊢
  simp [hset, hlt]

/-- Settles O18. -/
theorem alertsStandUntilAcknowledged : Obligations.AlertsStandUntilAcknowledged := by
  unfold Obligations.AlertsStandUntilAcknowledged
  intro c s t a h hset
  by_cases hloud : IsLoud c
  · cases hloud with
    | powerOn rate => exact .inr (.inr (.inl ⟨rate, rfl⟩))
    | restart r => exact .inr (.inr (.inr ⟨r, rfl⟩))
    | second =>
      cases h
      obtain ⟨u, hbefore, hafter⟩ := Acts.second_runs s
      have htick : AlertsStand u u.tick := by
        by_cases hready : u.ready = true
        · rw [State.tick_of_ready hready]
          exact .of_eq rfl
        · rw [State.tick_of_not_ready hready]
          exact .of_eq rfl
      exact .inl ((((AlertsStand.runs hbefore).trans htick).trans (.runs hafter)).stands a hset)
    | ackAlert f =>
      obtain ⟨st, hrefused⟩ | htaken := exec_ackAlert_cases f s
      · cases hrefused.symm.trans h
        exact .inl hset
      · cases htaken.symm.trans h
        cases hnamed : f.alerts.getLsbD a.ctorIdx with
        | true => exact .inr (.inl ⟨f, rfl, hnamed⟩)
        | false => exact .inl (State.alertSet_acknowledge hset hnamed)
  · exact .inl ((quiet_of_exec h hloud).2.stands a hset)

/-! ### Answers -/

theorem Status.code_lt (st : Status) : st.code < 256 := by cases st <;> decide

theorem Status.code_injective {st st' : Status} (h : st.code = st'.code) : st = st' := by
  cases st <;> cases st' <;> simp_all [Status.code]

/-- A response tells its status and its data. -/
theorem responseFrame_injective {st st' : Status} {flags flags' : Byte} {data data' : List Byte}
    (h : responseFrame st flags data = responseFrame st' flags' data') : st = st' ∧ data = data' := by
  obtain ⟨-, htail⟩ := List.cons_eq_cons.1 h
  obtain ⟨hcode, hrest⟩ := List.cons_eq_cons.1 htail
  refine ⟨Status.code_injective ?_, (List.cons_eq_cons.1 hrest).2⟩
  have := congrArg BitVec.toNat hcode
  rwa [BitVec.toNat_ofNat, BitVec.toNat_ofNat, Nat.mod_eq_of_lt st.code_lt, Nat.mod_eq_of_lt st'.code_lt] at this

/-- The status and the data a response holds are those it was made of. -/
theorem Answered.of_holding {s t : State} {st st' : Status} {flags : Byte} {data data' : List Byte}
    (hport : t.port = .holding (responseFrame st flags data)) (h : Answered s t st' data') : st = st' ∧ data = data' := by
  have hheld := congrArg Port.held (hport.symm.trans h)
  exact responseFrame_injective (Option.some.inj hheld)

theorem answers_of_asked {c : Instr} {s : State} {u : State} {st : Status} {data : List Byte}
    (hexec : exec c s = .next (u.respond st data)) (hport : u.port = s.port) :
    Answers c s st data (fun _ => True) ∧ LeadsTo c s fun t => ∀ i, t.port.sdoByte i = 0 :=
  ⟨answers_of_respond _ _ _ _ _ _ hexec hport trivial, _, hexec, fun _ => rfl⟩

/-- Settles O4. -/
theorem everyRequestIsAnswered : Obligations.EveryRequestIsAnswered := by
  unfold Obligations.EveryRequestIsAnswered
  intro c s hrequest hrestart
  have hasked : (∃ st, exec c s = .next (s.respond st [])) ∨
      ∃ r, Accepted s r ∧ r.state.port = s.port ∧ exec c s = .next (r.state.respond r.status r.data) := by
    by_cases hack : ∃ f, c = .ackAlert f
    · obtain ⟨f, rfl⟩ := hack
      obtain hrefused | htaken := exec_ackAlert_cases f s
      · exact .inl hrefused
      · exact .inr ⟨.withData (s.acknowledge f) _, .withData .., rfl, htaken⟩
    · obtain hrefused | ⟨r, haccepted, hacts, htaken⟩ :=
        (Acts.of_request (loud := false) s hrequest hrestart (.inr fun f hf => hack ⟨f, hf⟩)).cases
      · exact .inl hrefused
      · exact .inr ⟨r, haccepted, (ClockAndPortStand.acts hacts).2, htaken⟩
  obtain ⟨st, hexec⟩ | ⟨r, haccepted, hport, hexec⟩ := hasked
  · obtain ⟨hanswers, hzero⟩ := answers_of_asked hexec rfl
    exact ⟨st, [], hanswers, fun _ => .inl rfl, hzero⟩
  · obtain ⟨hanswers, hzero⟩ := answers_of_asked hexec hport
    exact ⟨r.status, r.data, hanswers, fun hcode => .inr (haccepted.refused hcode).1, hzero⟩

/-- Settles O5: a request taken is accepted, but for a COMMIT_LINE that fails. -/
theorem refusedRequestsChangeNothing : Obligations.RefusedRequestsChangeNothing := by
  unfold Obligations.RefusedRequestsChangeNothing
  intro c s t st data hrequest hexec hanswered hcode
  have hasked : (∃ st', t = s.respond st' []) ∨ ∃ r, Accepted s r ∧ t = r.state.respond r.status r.data := by
    by_cases hrestart : ∃ r, c = .restart r
    · obtain ⟨r, rfl⟩ := hrestart
      obtain ⟨-, hrefused⟩ | ⟨-, hrestarted⟩ := exec_restart_cases r s
      · cases hrefused.symm.trans hexec
        exact .inl ⟨_, rfl⟩
      · cases hrestarted.symm.trans hexec
        obtain ⟨rfl, -⟩ := Answered.of_holding (ClockAndPortStand.acts (Acts.tripAtReset _)).2 hanswered
        exact absurd hcode (by decide)
    · obtain ⟨st', hrefused⟩ | ⟨r, haccepted, -, htaken⟩ :=
        (Acts.of_request (loud := true) s hrequest (fun r hr => hrestart ⟨r, hr⟩) (.inl rfl)).cases
      · cases hrefused.symm.trans hexec
        exact .inl ⟨_, rfl⟩
      · cases htaken.symm.trans hexec
        exact .inr ⟨r, haccepted, rfl⟩
  obtain ⟨st', rfl⟩ | ⟨r, haccepted, rfl⟩ := hasked
  · exact .inl rfl
  · obtain ⟨rfl, rfl⟩ := Answered.of_holding rfl hanswered
    obtain ⟨hstatus, f, hstate⟩ := haccepted.refused hcode
    refine .inr ⟨hstatus, ?_⟩
    rw [hstate]
    rfl

theorem Port.readable_of_held {p : Port} {f : List Byte} (hbusy : p.busy = false) (hheld : p.held = some f) :
    p.readable = some f := by
  simp only [Port.readable, hbusy, Bool.false_eq_true, if_false, hheld]

theorem Port.afterRead_of_unreadable {p : Port} (h : p.readable = none) (n : Nat) :
    p.afterRead n = { p with sdo := List.replicate n 0 } := by
  simp only [Port.afterRead, h]

/-- A frame read in part stays held. -/
theorem Port.afterRead_of_lt {p : Port} {f : List Byte} {n : Nat} (hread : p.readable = some f) (hheld : p.held = some f)
    (hlt : n < f.length) : p.afterRead n = { p with readPosition := 0, sdo := f.take n } := by
  simp only [Port.afterRead, hread, if_neg (Nat.not_le.2 hlt), Nat.sub_eq_zero_of_le hlt.le, List.replicate_zero,
    List.append_nil, hheld]

/-- A frame read whole is consumed. -/
theorem Port.afterRead_of_le {p : Port} {f : List Byte} {n : Nat} (hread : p.readable = some f) (hle : f.length ≤ n) :
    p.afterRead n = { p with held := none, readPosition := 0, sdo := f ++ List.replicate (n - f.length) 0 } := by
  simp only [Port.afterRead, hread, if_pos hle, List.take_of_length_le hle]

/-- Settles O6. -/
theorem portCommandsActOnThePortAlone : Obligations.PortCommandsActOnThePortAlone := by
  unfold Obligations.PortCommandsActOnThePortAlone
  intro s frame n
  have hread : ∀ p, s.port.afterRead n = p → exec (.readResponse n) s = .next { s with port := p } := fun p hp => hp ▸ rfl
  refine ⟨rfl, ⟨_, rfl, s.respond_answered s _ _ rfl, rfl⟩, ⟨_, rfl, s.respond_answered s _ _ rfl, rfl⟩, fun hnone => ?_,
    fun f hbusy hheld => ⟨fun hlt => ?_, fun hle => ?_⟩⟩
  · refine hread _ (Port.afterRead_of_unreadable ?_ n)
    unfold Port.readable
    obtain hbusy | hheld := hnone
    · rw [if_pos hbusy]
    · rw [hheld, ite_self]
  · exact hread _ (Port.afterRead_of_lt (Port.readable_of_held hbusy hheld) hheld hlt)
  · exact hread _ (Port.afterRead_of_le (Port.readable_of_held hbusy hheld) hle)

/-! ### What a poll carries -/

/-- A valve's command as a poll carries it: it has passed the send-time test, and is QUEUED. -/
def State.sends (s : State) (v : Nat) : Prop :=
  ∃ (y : Valve) (c : Command), s.valve v = some y ∧ y.command = some c.nowCarried ∧ c.phase = .queued ∧ s.sendTest y c.target = none

theorem State.valve_modValve_self {s : State} {v : Nat} {y : Valve} (h : s.valve v = some y) {f : Valve → Valve}
    (hf : ∀ x, (f x).num = x.num) : (s.modValve v f).valve v = some (f y) := by
  rw [s.valve_modValve v v f hf, h, Option.map_some, if_pos (State.valve_num h)]

/-- The head that the tests leave is carried by what the tests leave. -/
theorem State.testHeads_sends (n k : Nat) {s t : State} {v : Nat} (hrise : TablesRise s) (hqueues : QueuesHoldQueued s)
    (h : State.testHeads n k s = (t, some v)) : t.sends v := by
  induction n generalizing s with
  | zero => cases h
  | succ n ih =>
    unfold State.testHeads at h
    split at h
    · cases h
    · rename_i y hy
      split at h
      · cases h
      · rename_i c hc
        split at h
        · rename_i o ho
          have hrun : Runs s (s.finishCommand y.num o) := Runs.finishCommand ..
          exact ih ((SameLine.of_runs hrun).tablesRise hrise) (hqueues.runs hrun hrise) h
        · rename_i htest
          cases h
          obtain ⟨w, hw, hvalve⟩ := Option.bind_eq_some_iff.1 hy
          obtain ⟨x, hx, hhead⟩ := Option.bind_eq_some_iff.1 hw
          obtain ⟨z, hz, -, hphase⟩ :=
            State.queueEntryOk_iff.1 (hqueues x (State.station_mem hx) w (List.mem_of_head? hhead))
          obtain rfl : y = z := Option.some.inj (hvalve.symm.trans hz)
          rw [hc] at hphase
          have hself : s.valve y.num = some y := State.valve_num hvalve ▸ hvalve
          refine ⟨{ y with command := some c.nowCarried }, c, ?_, rfl, Option.some.inj hphase, ?_⟩
          · refine State.valve_modValve_self hself (f := fun y => { y with command := some c.nowCarried }) ?_
            exact fun _ => rfl
          · exact htest

theorem State.chooseItem_sends {k : Nat} {s : State} {v : Nat} (hrise : TablesRise s) (hqueues : QueuesHoldQueued s)
    (h : (s.chooseItem k).2 = .valve v) : (s.chooseItem k).1.sends v := by
  unfold State.chooseItem at h ⊢
  split at h
  · rename_i t w htest
    cases h
    exact State.testHeads_sends 32 k hrise hqueues htest
  · split at h <;> cases h

/-- Settles O16: the command a poll carries has passed the send-time test (R110), and a CLOSE has passed it with close
permission (R117). -/
theorem noCloseGoesOutUnpermitted : Obligations.NoCloseGoesOutUnpermitted := by
  unfold Obligations.NoCloseGoesOutUnpermitted
  intro s t sl v y c hrise hqueues hfree hexec hslot hitem hy hc htarget
  cases hexec
  unfold State.pollSlot at hslot hy ⊢
  split at hslot
  · rename_i hready
    rw [if_pos hready] at hy ⊢
    split at hslot
    · cases hfree.symm.trans hslot
    · rename_i k hk
      simp only [hk] at hy ⊢
      have hserved : Runs s (s.serve k) := .change (.serve s k)
      cases hslot
      obtain ⟨z, d, hz, hd, hphase, htest⟩ := State.chooseItem_sends ((SameLine.of_runs hserved).tablesRise hrise)
        (hqueues.runs hserved hrise) hitem
      obtain rfl : y = z := Option.some.inj (hy.symm.trans hz)
      cases hc.symm.trans hd
      obtain ⟨hthere, hpermitted⟩ := State.sendTest_none htest
      have hclose := hpermitted htarget
      simp only [State.closePermitted, State.closeInhibited, Bool.and_eq_true, Bool.not_eq_true', Bool.or_eq_false_iff,
        Bool.not_eq_false'] at hclose
      obtain ⟨hheld, hpermit, hremote⟩ := hclose
      refine ⟨hheld, hpermit, hremote, fun hclosed => ?_, hphase, rfl⟩
      have htarget' : d.target = .toClose := htarget
      rw [htarget', hclosed] at hthere
      cases hthere
  · cases hfree.symm.trans hslot

end Sys2Proof.Machine
end

section
/-! SUPPORT. The requests that tune the line: what tuning, profiles and parameters leave of the definitions and the records,
and the holds they give. -/

namespace Sys2Proof.Machine

/-! ### What the engine keeps, through the end of a command -/

namespace EngineKeeps

variable {R : State → State → Prop}

theorem engineStep (h : EngineKeeps R) {s t : State} (hstep : EngineStep s t) : R s t := by
  cases hstep with
  | reevalValve v => exact h.reevalValve ..
  | offerStep k p => exact h.offerStep ..
  | endCommand v o => exact h.endCommand ..
  | updSlot k f => exact h.updSlot ..
  | storeClosing k l => exact h.storeClosing ..
  | writeFault k f b => exact h.writeFault ..
  | giveUp k o u hgiven => exact h.trans (h.giveUp s k o u hgiven) (h.rearmAwaiting ..)
  | raise c => exact h.raise ..
  | note c => exact h.note ..

/-- What each elementary change of the engine keeps, a run of them keeps. -/
theorem engineRun (h : EngineKeeps R) {s t : State} (hrun : EngineRun s t) : R s t :=
  hrun.keeps h.refl h.trans h.engineStep

theorem finishCommand (h : EngineKeeps R) (s : State) (v : Nat) (o : ValveOutcome) : R s (s.finishCommand v o) :=
  h.engineRun (.finishCommand ..)

/-- The withdrawal of a command is its end, or the mark that it is carried with. -/
theorem withdrawQueued (h : EngineKeeps R)
    (hmark : ∀ s v (c : Command), R s (s.modValve v fun y => { y with command := some c })) (s : State) (m : LapseMark)
    (v : Nat) : R s (s.withdrawQueued m v) := by
  unfold State.withdrawQueued
  split
  · exact h.refl s
  · split
    · exact hmark ..
    · exact h.finishCommand ..

theorem retuned (h : EngineKeeps R)
    (hmark : ∀ s v (c : Command), R s (s.modValve v fun y => { y with command := some c })) (s : State) (x : Station) :
    R s (s.retuned x) := by
  unfold State.retuned
  simp only
  split
  · exact h.trans (h.examine ..) (h.foldl _ (fun s v => h.withdrawQueued hmark s .lapsed v) _ _)
  · exact h.examine ..

end EngineKeeps

theorem RecordsKeepPlace.after {s t u : State} (h : RecordsKeepPlace t u) (hpigs : t.pigs = s.pigs)
    (htrain : t.train = s.train) : RecordsKeepPlace s u := (of_same hpigs htrain).trans h

theorem RecordsKeepPlace.retuned (s : State) (x : Station) : RecordsKeepPlace s (s.retuned x) :=
  RecordsKeepPlace.engineKeeps.retuned (fun s v _ => .modValve s v _) s x

theorem engineKeeps_reaches : EngineKeeps Reaches where
  refl := Reaches.refl
  trans := Reaches.trans
  reevalValve := Reaches.reevalValve
  rearmTest := Reaches.rearmTest
  offerStep := Reaches.offerStep
  endCommand s v o := Reaches.endCommand s v o
  updSlot := Reaches.updSlot
  storeClosing s k _ := Reaches.modStation s k _
  writeFault s k _ _ := Reaches.modStation s k _
  giveUp s _ _ u _ := Reaches.modPig s u _
  raise := Reaches.raise
  note := Reaches.note

theorem Reaches.retuned (s : State) (x : Station) : Reaches s (s.retuned x) :=
  engineKeeps_reaches.retuned (fun s v _ => Reaches.modValve s v _) s x

/-- A response changes nothing but the port. -/
theorem SameBesidesRecords.respond {s t : State} (h : SameBesidesRecords s t) (st : Status) (data : List Byte) :
    SameBesidesRecords s (t.respond st data) := congrArg (fun u => State.respond u st data) h

/-! ### Stations -/

theorem State.tuneStationChecks_eq (s : State) (f : StationFrame) :
    (s.tuneStationChecks f).map (fun x => (x.1 = true, x.2)) =
      [(f.station.toNat < 1 ∨ 24 < f.station.toNat ∨ 7 < f.replyCode.toNat ∨ f.reserved ≠ 0 ∨ 32 ≤ f.flags.toNat,
          .badField),
       (s.station f.station.toNat = none, .noSuch),
       (f.flags.getLsbD 3 = true ∧ (s.station f.station.toNat).any Station.hasReceiver = false, .badField)] := by
  simp only [State.tuneStationChecks, List.map_cons, List.map_nil, Bool.or_eq_true, Bool.and_eq_true, nonzero_iff,
    badStation_iff, above_iff, badStationFlags, decide_eq_true_eq, or_assoc, Option.isNone_iff_eq_none, not_getD_map_false]

/-- What a run leaves of the stations' definitions, read by whatever reads a definition alone. -/
theorem SameLine.definitions {s t : State} (h : SameLine s t) {α : Type} {g : Station → α}
    (hg : ∀ x, g x.definition = g x) : t.stations.map g = s.stations.map g := by
  have hmap := congrArg (List.map g) h.stations
  simpa only [List.map_map, Function.comp_def, hg] using hmap

/-- Settles O22. -/
theorem stationIsTuned : Obligations.StationIsTuned := by
  unfold Obligations.StationIsTuned
  intro s f _ approach lead clamped tuned after definition
  refine .of_ask (t := .clamped _ _) rfl (s.tuneStationChecks_eq f) fun hpass hexec => ?_
  refine answers_of_clamped hexec (decide_eq_true_iff.trans (StationTuning.given f).inRange_ne_iff) ?_ fun st => ?_
  all_goals
    obtain ⟨x, hx⟩ : ∃ x, s.station f.station.toNat = some x :=
      Option.ne_none_iff_exists'.1 (hpass (s.station f.station.toNat = none, .noSuch) (by simp))
    simp only [hx]
  · split
    · exact (ClockAndPortStand.reaches (Reaches.retuned ..)).2
    · rfl
  · split
    · rename_i hready
      have hplaces := RecordsKeepPlace.retuned (s.modStation f.station.toNat fun x => { x with tuning := tuned }) x
      refine ⟨fun hline => ?_, ?_, ?_, hplaces.train, hplaces.pigPos⟩
      · cases hline.symm.trans (State.lineState_of_ready hready)
      · exact (SameLine.of_runs (Runs.retuned _ x)).definitions (g := definition) fun _ => rfl
      · exact SameBesidesRecords.respond ((Reaches.modStation ..).trans (Reaches.retuned ..)).spreads.besides _ _
    · exact ⟨fun _ => rfl, rfl, rfl, rfl, fun _ => rfl⟩

/-! ### Valves and meters -/

theorem State.tuneValveChecks_eq (s : State) (f : ValveFrame) :
    (s.tuneValveChecks f).map (fun x => (x.1 = true, x.2)) =
      [(47 < f.valve.toNat ∨ f.reserved ≠ 0, .badField), (s.valve f.valve.toNat = none, .noSuch),
       ((s.valve f.valve.toNat).any (fun v => decide (v.role ≠ .mainline)) = true ∧ f.guardVol ≠ 0, .badField)] := by
  have hrole : decide (((s.valve f.valve.toNat).map Valve.role).getD .mainline ≠ .mainline) =
      (s.valve f.valve.toNat).any fun v => decide (v.role ≠ .mainline) := by
    cases s.valve f.valve.toNat <;> rfl
  simp only [State.tuneValveChecks, hrole, List.map_cons, List.map_nil, Bool.or_eq_true, Bool.and_eq_true, above_iff,
    nonzero_iff, decide_eq_true_eq, Option.isNone_iff_eq_none]

theorem State.tuneMeterChecks_eq (s : State) (g : MeterFrame) :
    (s.tuneMeterChecks g).map (fun x => (x.1 = true, x.2)) =
      [(15 < g.meter.toNat ∨ g.reserved ≠ 0, .badField), (s.meter g.meter.toNat = none, .noSuch)] := by
  simp only [State.tuneMeterChecks, List.map_cons, List.map_nil, Bool.or_eq_true, above_iff, nonzero_iff,
    Option.isNone_iff_eq_none]

/-- A valve but for what the engine changes of it: its command, its last outcome, its hold and its strike. -/
def Valve.site (v : Valve) : Valve := { v with command := none, lastOutcome := none, holders := [], struck := false }

/-- Every valve keeps its site. -/
structure ValvesStand (s t : State) : Prop where
  sites : t.valves.map Valve.site = s.valves.map Valve.site

namespace ValvesStand

theorem of_same {s t : State} (h : t.valves = s.valves) : ValvesStand s t := ⟨by rw [h]⟩

theorem trans {s t u : State} (h : ValvesStand s t) (g : ValvesStand t u) : ValvesStand s u := ⟨g.sites.trans h.sites⟩

theorem modValve {s : State} {v : Nat} {f : Valve → Valve} (hf : ∀ y, (f y).site = y.site) :
    ValvesStand s (s.modValve v f) := ⟨map_mod_of_same Valve.num v f Valve.site (fun y _ => hf y) s.valves⟩

theorem touchIf (s : State) (b : Bool) (k : Nat) : ValvesStand s (s.touchIf b k) := by
  rw [State.touchIf_eq]
  exact of_same rfl

theorem updSlot (s : State) (k : Nat) (f : Slot → Slot) : ValvesStand s (s.updSlot k f) := by
  unfold State.updSlot
  split
  · exact of_same rfl
  · exact ⟨(touchIf ..).sites⟩

theorem updDetector (s : State) (d : Nat) (f : Detector → Detector) : ValvesStand s (s.updDetector d f) := by
  unfold State.updDetector
  split
  · exact of_same rfl
  · exact ⟨(touchIf ..).sites⟩

theorem updValve {s : State} {v : Nat} {f : Valve → Valve} (hf : ∀ y, (f y).site = y.site) :
    ValvesStand s (s.updValve v f) := by
  unfold State.updValve
  split
  · exact of_same rfl
  · exact (modValve hf).trans (touchIf ..)

theorem strikeRecords (s : State) (l : List Nat) : ValvesStand s (s.strikeRecords l) := by
  unfold State.strikeRecords
  induction l generalizing s with
  | nil => exact of_same rfl
  | cons u l ih => exact ⟨(ih _).sites⟩

theorem reevalValve (s : State) (v : Nat) : ValvesStand s (s.reevalValve v) := by
  unfold State.reevalValve
  split
  · exact of_same rfl
  · rename_i y _
    split
    · have hhold : ValvesStand s (s.updValve y.num (y.holding (s.holdersNow y))) := by
        refine updValve ?_
        exact fun _ => rfl
      obtain heq | ⟨tags, heq⟩ := s.applyHold_cases y (s.holdersNow y)
      · rw [heq]
        exact hhold
      · rw [heq]
        exact ⟨(hhold.trans (strikeRecords ..)).sites⟩
    · exact of_same rfl

theorem rearmTest (s : State) (d : Nat) : ValvesStand s (s.rearmTest d) := by
  unfold State.rearmTest
  split
  · exact of_same rfl
  · split
    · exact updDetector ..
    · exact of_same rfl

theorem endCommand (s : State) (v : Valve) (o : ValveOutcome) : ValvesStand s (s.endCommand v o) := by
  refine ⟨(modValve (s := s) (v := v.num) (f := fun y => { y with command := none, lastOutcome := some o }) ?_).sites⟩
  exact fun _ => rfl

theorem offerStep (s : State) (k : Nat) (p : SeqStep) : ValvesStand s (s.offerStep k p).1 := by
  unfold State.offerStep
  split
  · exact of_same rfl
  · split
    · exact of_same rfl
    · rename_i a _ _ v _
      obtain ⟨o, -, heq⟩ | ⟨-, heq⟩ := s.offer_cases v a.2 <;> rw [heq]
      · exact endCommand ..
      · refine ⟨(modValve (s := s) (v := v.num)
          (f := fun y => { y with command := some (Command.fresh a.2 .sequence s.clock) }) ?_).sites⟩
        exact fun _ => rfl

theorem engineKeeps : EngineKeeps ValvesStand where
  refl _ := of_same rfl
  trans := trans
  reevalValve := reevalValve
  rearmTest := rearmTest
  offerStep := offerStep
  endCommand := endCommand
  updSlot := updSlot
  storeClosing _ _ _ := of_same rfl
  writeFault _ _ _ _ := of_same rfl
  giveUp _ _ _ _ _ := of_same rfl
  raise _ _ := of_same rfl
  note _ _ := of_same rfl

theorem holdGate (s : State) (k : Nat) : ValvesStand s (s.holdGate k) := engineKeeps.holdGate s k

/-- What reads the site of a valve alone reads the same of every valve. -/
theorem sites_of {s t : State} (h : ValvesStand s t) {α : Type} {g : Valve → α} (hg : ∀ y, g y.site = g y) :
    t.valves.map g = s.valves.map g := by
  have hmap := congrArg (List.map g) h.sites
  simpa only [List.map_map, Function.comp_def, hg] using hmap

end ValvesStand

/-- The tuning of a valve found acts, whatever is answered (R8). -/
theorem State.tuneValve_acts {s : State} {v : Nat} {x : Valve} (g c : Nat) :
    Acts true s (if s.ready then ((s.modValve v (Valve.tuned g c)).reevalValve v).holdGate x.station
      else s.modValve v (Valve.tuned g c)) := by
  split
  · exact (Acts.rezone s v g c).trans (.runs (Runs.holdGate ..))
  · rename_i hready
    exact .tuneValve s v g c (State.unconfigured_of_not_ready (Bool.eq_false_iff.2 hready))

/-- Settles O23. -/
theorem valvesAndMetersAreTuned : Obligations.ValvesAndMetersAreTuned := by
  unfold Obligations.ValvesAndMetersAreTuned
  intro s f g _ _
  constructor
  · refine .of_ask (t := .clamped _ _) rfl (s.tuneValveChecks_eq f) fun hpass hexec => ?_
    obtain ⟨x, hx⟩ : ∃ x, s.valve f.valve.toNat = some x :=
      Option.ne_none_iff_exists'.1 (hpass (s.valve f.valve.toNat = none, .noSuch) (by simp))
    have hacts := State.tuneValve_acts (s := s) (v := f.valve.toNat) (x := x) (guardInRange f.guardVol.toNat)
      (strokeInRange f.strokeTimeout.toNat)
    refine answers_of_clamped hexec (valveClamped_iff f) ?_ fun st => ?_
    all_goals simp only [hx]
    · split
      · exact (ClockAndPortStand.reaches ((Reaches.reevalValve ..).trans (Reaches.holdGate ..))).2
      · rfl
    · refine ⟨fun hline => ?_, ?_, ?_, ?_, fun hrise horder h => h.acts (hacts.trans (.respond ..)) hrise horder⟩
      · rw [if_neg fun hready => by cases hline.symm.trans (State.lineState_of_ready hready)]
        rfl
      · split
        · exact ((ValvesStand.reevalValve ..).trans (ValvesStand.holdGate ..)).sites_of fun _ => rfl
        · rfl
      · split
        · exact SameBesidesRecords.respond
            (((Reaches.modValve ..).trans (Reaches.reevalValve ..)).trans (Reaches.holdGate ..)).spreads.besides _ _
        · rfl
      · split
        · exact ((RecordsKeepPlace.reevalValve ..).trans (RecordsKeepPlace.engineKeeps.holdGate ..)).train
        · rfl
  · refine .of_ask (t := .clamped _ _) rfl (s.tuneMeterChecks_eq g) fun _ hexec => ?_
    exact answers_of_clamped hexec (meterClamped_iff g) rfl fun _ => rfl

/-! ### Profiles and parameters -/

theorem Profile.inRange_ne_iff (p : Profile) :
    p.inRange ≠ p ↔ 65535 < p.base ∨ 200 < p.growth ∨ max (min p.base 65535) (min p.cap 1000000) ≠ p.cap := by
  obtain ⟨⟩ := p
  simp only [Profile.inRange, ne_eq, Profile.mk.injEq, not_and_or]
  omega

theorem Parameters.inRange_ne_iff (p : Parameters) :
    p.inRange ≠ p ↔ 100000 < p.spacing ∨ 1000000 < p.lostHalfWidth ∨ p.deliveryLimit < 5 ∨ 600 < p.deliveryLimit ∨
      p.silenceLimit < 1 ∨ 15 < p.silenceLimit ∨ p.fairness < 2 ∨ 24 < p.fairness ∨ 3600 < p.holdWaitLimit ∨
      p.learningSpan < 1000 ∨ 10000000 < p.learningSpan := by
  obtain ⟨⟩ := p
  simp only [Parameters.inRange, clampTo, ne_eq, Parameters.mk.injEq, true_and, not_and_or]
  omega

theorem Spreads.profileChanged (s : State) (i : Nat) : Spreads s (s.profileChanged i) := by
  unfold State.profileChanged
  simp only
  split
  · exact (Spreads.foldl _ Spreads.settle _ _).trans ((Reaches.reevalAll _).trans (Reaches.examineAll _)).spreads
  · exact Spreads.foldl _ Spreads.settle _ _

theorem RecordsKeepPlace.holdsChanged (s : State) : RecordsKeepPlace s s.holdsChanged :=
  (RecordsKeepPlace.engineKeeps.reevalAll s).trans (RecordsKeepPlace.engineKeeps.examineAll _)

theorem RecordsKeepPlace.profileChanged (s : State) (i : Nat) : RecordsKeepPlace s (s.profileChanged i) := by
  have hsettled : ∀ l : List Nat, RecordsKeepPlace s (l.foldl State.settle s) := fun l =>
    RecordsKeepPlace.engineKeeps.foldl _ RecordsKeepPlace.settle l s
  unfold State.profileChanged
  simp only
  split
  · exact (hsettled _).trans (.holdsChanged _)
  · exact hsettled _

theorem Reaches.holdsChanged (s : State) : Reaches s s.holdsChanged := (Reaches.reevalAll s).trans (Reaches.examineAll _)

/-- A request that moves no record leaves the train as it is, and each hold exact (O10). -/
theorem quiet_of_places {c : Instr} {s u : State} {st : Status} {data : List Byte}
    (hexec : exec c s = .next (u.respond st data)) (hplaces : RecordsKeepPlace s u) (st' : Status) (data' : List Byte) :
    (u.respond st' data').train = s.train ∧ (∀ v, (u.respond st' data').pigPos v = s.pigPos v) ∧
      (TablesRise s → TrainInOrder s → HoldsExact s → HoldsExact (u.respond st' data')) :=
  ⟨hplaces.train, hplaces.pigPos, fun hrise horder h =>
    (h.acts (Acts.of_exec c hexec) hrise horder).congr ⟨rfl, rfl, rfl⟩ rfl⟩

/-- What SET_PROFILE makes of the state (R10). -/
def State.profileStored (s : State) (i : Nat) (p : Profile) : State :=
  if s.ready then ({ s with profiles := s.profiles.set i p } : State).profileChanged i
  else { s with profiles := s.profiles.set i p }

/-- What SET_LINE_PARAMETERS makes of the state (R11). -/
def State.parametersStored (s : State) (q : Parameters) : State :=
  if s.ready && (decide (q.holdProfile ≠ s.params.holdProfile) || decide (q.lostHalfWidth ≠ s.params.lostHalfWidth)) then
    ({ s with params := q } : State).holdsChanged
  else { s with params := q }

theorem State.profileStored_cases (s : State) (i : Nat) (p : Profile) :
    s.ready = true ∧ s.profileStored i p = ({ s with profiles := s.profiles.set i p } : State).profileChanged i ∨
      s.profileStored i p = { s with profiles := s.profiles.set i p } := by
  unfold State.profileStored
  by_cases hready : s.ready = true
  · exact .inl ⟨hready, if_pos hready⟩
  · exact .inr (if_neg hready)

theorem State.parametersStored_cases (s : State) (q : Parameters) :
    s.ready = true ∧ s.parametersStored q = ({ s with params := q } : State).holdsChanged ∨
      s.parametersStored q = { s with params := q } := by
  unfold State.parametersStored
  split
  · rename_i hacts
    exact .inl ⟨(Bool.and_eq_true_iff.1 hacts).1, rfl⟩
  · exact .inr rfl

theorem exec_setProfile_eq_ask (f : ProfileFrame) (s : State) :
    exec (.setProfile f) s = s.ask [(above f.profile 3 || nonzero f.reserved, .badField)]
      (.clamped (decide ((ProfileValues.given f).inRange ≠ ProfileValues.given f))
        (s.profileStored f.profile.toNat (ProfileValues.given f).inRange)) := by
  rfl

theorem exec_setLineParameters_eq_ask (g : ParametersFrame) (s : State) :
    exec (.setLineParameters g) s = s.ask [(above g.holdProfile 3 || nonzero g.reserved, .badField)]
      (.clamped (decide ((ParameterValues.given g).inRange ≠ ParameterValues.given g))
        (s.parametersStored (ParameterValues.given g).inRange)) := by
  rfl

/-- Settles O25: what a new profile or new parameters move of the holds is re-evaluated at once, and no record moves. -/
theorem profilesAndParametersAreStored : Obligations.ProfilesAndParametersAreStored := by
  unfold Obligations.ProfilesAndParametersAreStored
  intro s f g base cap profiles params quiet
  constructor
  · refine .of_ask (exec_setProfile_eq_ask f s) ?_ fun _ hexec => ?_
    · simp only [List.map_cons, List.map_nil, Bool.or_eq_true, above_iff, nonzero_iff]
    have hquiet := fun hplaces => quiet_of_places hexec hplaces
    obtain ⟨hready, heq⟩ | heq := s.profileStored_cases f.profile.toNat (ProfileValues.given f).inRange
    all_goals
      rw [heq] at hexec hquiet
      refine answers_of_clamped hexec (decide_eq_true_iff.trans (ProfileValues.given f).inRange_ne_iff) ?_ fun st => ?_
    · exact (ClockAndPortStand.spreads (Spreads.profileChanged ..)).2
    · refine ⟨fun hline => ?_, SameBesidesRecords.respond (Spreads.profileChanged ..).besides _ _, ?_⟩
      · cases hline.symm.trans (State.lineState_of_ready hready)
      · exact hquiet ((RecordsKeepPlace.profileChanged ..).after rfl rfl) st []
    · rfl
    · exact ⟨fun _ => rfl, rfl, hquiet (.of_same rfl rfl) st []⟩
  · refine .of_ask (exec_setLineParameters_eq_ask g s) ?_ fun _ hexec => ?_
    · simp only [List.map_cons, List.map_nil, Bool.or_eq_true, above_iff, nonzero_iff]
    have hquiet := fun hplaces => quiet_of_places hexec hplaces
    obtain ⟨hready, heq⟩ | heq := s.parametersStored_cases (ParameterValues.given g).inRange
    all_goals
      rw [heq] at hexec hquiet
      refine answers_of_clamped hexec (decide_eq_true_iff.trans (ParameterValues.given g).inRange_ne_iff) ?_ fun st => ?_
    · exact (ClockAndPortStand.reaches (Reaches.holdsChanged _)).2
    · refine ⟨fun hline => ?_, SameBesidesRecords.respond (Reaches.holdsChanged _).spreads.besides _ _, ?_⟩
      · cases hline.symm.trans (State.lineState_of_ready hready)
      · exact hquiet ((RecordsKeepPlace.holdsChanged _).after rfl rfl) st []
    · rfl
    · exact ⟨fun _ => rfl, rfl, hquiet (.of_same rfl rfl) st []⟩

end Sys2Proof.Machine
end

section
/-! SUPPORT. A station taken out of service: what the engine leaves of a station that takes no offer, and its emptied queue
(R109, R115, R161, R162). -/

namespace Sys2Proof.Machine

/-! ### A station under the engine -/

/-- The command queue of a station; none where the station is not defined. -/
def State.queueOf (s : State) (k : Nat) : List Nat := ((s.station k).map Station.queue).getD []

theorem State.queueOf_of_some {s : State} {k : Nat} {x : Station} (h : s.station k = some x) : s.queueOf k = x.queue := by
  rw [State.queueOf, h]
  rfl

theorem State.queueOf_of_none {s : State} {k : Nat} (h : s.station k = none) : s.queueOf k = [] := by
  rw [State.queueOf, h]
  rfl

/-- The station k keeps its site, and while it takes no offer nothing enters its queue. -/
structure StationKept (k : Nat) (s t : State) : Prop where
  site : (t.station k).map Station.site = (s.station k).map Station.site
  queue : s.takesNoOffer k = true → ∀ v ∈ t.queueOf k, v ∈ s.queueOf k

theorem State.takesNoOffer_congr {s t : State} {k : Nat} (h : (t.station k).map Station.site = (s.station k).map Station.site) :
    t.takesNoOffer k = s.takesNoOffer k := by
  unfold State.takesNoOffer
  generalize t.station k = a, s.station k = b at h
  cases a with
  | none =>
    cases b with
    | none => rfl
    | some y => cases h
  | some x =>
    cases b with
    | none => cases h
    | some y =>
      have hsite : x.site = y.site := Option.some.inj h
      have htuning : x.tuning = y.tuning := (congrArg Station.tuning hsite : x.site.tuning = y.site.tuning)
      simp only [Station.link_of_site hsite, htuning]

namespace StationKept

variable {k : Nat}

theorem refl (s : State) : StationKept k s s := ⟨rfl, fun _ _ h => h⟩

theorem trans {s t u : State} (h : StationKept k s t) (g : StationKept k t u) : StationKept k s u :=
  ⟨g.site.trans h.site, fun hno v hv => h.queue hno v (g.queue ((State.takesNoOffer_congr h.site).trans hno) v hv)⟩

/-- A change that keeps what a station is and its queue. -/
theorem of_same {s t : State}
    (h : (t.station k).map (fun x => (x.site, x.queue)) = (s.station k).map fun x => (x.site, x.queue)) :
    StationKept k s t := by
  have hsite := congrArg (Option.map Prod.fst) h
  have hqueue := congrArg (Option.map Prod.snd) h
  simp only [Option.map_map] at hsite hqueue
  refine ⟨hsite, fun _ v hv => ?_⟩
  have heq : t.queueOf k = s.queueOf k := congrArg (Option.getD · []) hqueue
  rwa [heq] at hv

theorem of_stations {s t : State} (h : t.stations = s.stations) : StationKept k s t :=
  of_same (by simp only [State.station, h])

theorem modStation {s : State} {j : Nat} {f : Station → Station} (hsite : ∀ x, (f x).site = x.site)
    (hqueue : ∀ x, (f x).queue = x.queue) : StationKept k s (s.modStation j f) := by
  refine of_same ?_
  rw [State.station_modStation s j k f fun x => Station.num_of_site (hsite x), Option.map_map]
  refine Option.map_congr fun x _ => ?_
  simp only [Function.comp_apply]
  split
  · rw [hsite, hqueue]
  · rfl

theorem touchIf (s : State) (b : Bool) (j : Nat) : StationKept k s (s.touchIf b j) := by
  rw [State.touchIf_eq]
  exact modStation (fun _ => rfl) fun _ => rfl

theorem updSlot (s : State) (j : Nat) (f : Slot → Slot) : StationKept k s (s.updSlot j f) := by
  unfold State.updSlot
  split
  · exact refl s
  · refine trans ?_ (touchIf ..)
    exact modStation (fun _ => rfl) fun _ => rfl

theorem updValve (s : State) (v : Nat) (f : Valve → Valve) : StationKept k s (s.updValve v f) := by
  unfold State.updValve
  split
  · exact refl s
  · exact trans (of_stations rfl : StationKept k s (s.modValve v f)) (touchIf ..)

theorem updDetector (s : State) (d : Nat) (f : Detector → Detector) : StationKept k s (s.updDetector d f) := by
  unfold State.updDetector
  split
  · exact refl s
  · exact trans (of_stations rfl : StationKept k s (s.modDetector d f)) (touchIf ..)

theorem updMeter (s : State) (m : Nat) (f : Meter → Meter) : StationKept k s (s.updMeter m f) := by
  unfold State.updMeter
  split
  · exact refl s
  · exact trans (of_stations rfl : StationKept k s (s.modMeter m f)) (touchIf ..)

theorem strikeRecords (s : State) (l : List Nat) : StationKept k s (s.strikeRecords l) := by
  unfold State.strikeRecords
  induction l generalizing s with
  | nil => exact refl s
  | cons u l ih =>
    refine trans ?_ (ih _)
    exact of_stations rfl

theorem reevalValve (s : State) (v : Nat) : StationKept k s (s.reevalValve v) := by
  unfold State.reevalValve
  split
  · exact refl s
  · rename_i y _
    split
    · obtain heq | ⟨tags, heq⟩ := s.applyHold_cases y (s.holdersNow y)
      · rw [heq]
        exact updValve ..
      · rw [heq]
        exact ((updValve ..).trans (strikeRecords ..)).trans (of_stations rfl)
    · exact refl s

theorem rearmTest (s : State) (d : Nat) : StationKept k s (s.rearmTest d) := by
  unfold State.rearmTest
  split
  · exact refl s
  · split
    · exact updDetector ..
    · exact refl s

/-- The end of a command takes a valve from a queue. -/
theorem endCommand (s : State) (v : Valve) (o : ValveOutcome) : StationKept k s (s.endCommand v o) := by
  have hstation := s.station_endCommand v o k
  cases hx : s.station k with
  | none =>
    rw [hx] at hstation
    refine ⟨by rw [hstation, hx]; rfl, fun _ w hw => ?_⟩
    rw [State.queueOf_of_none hstation] at hw
    cases hw
  | some x =>
    rw [hx, Option.map_some] at hstation
    refine ⟨?_, fun _ w hw => ?_⟩
    · rw [hstation, hx, Option.map_some, Option.map_some]
      split <;> rfl
    · rw [State.queueOf_of_some hstation] at hw
      rw [State.queueOf_of_some hx]
      split at hw
      · exact (List.mem_filter.1 hw).1
      · exact hw

/-- An offer that is queued is one that its station takes. -/
theorem enqueue {s : State} {v : Valve} {t : Target} (hoffer : s.offerEnds v t = none) (o : Origin) :
    StationKept k s (s.enqueue v t o) := by
  have htakes : s.takesNoOffer v.station = false := by
    unfold State.offerEnds at hoffer
    split at hoffer
    · cases hoffer
    · split at hoffer
      · cases hoffer
      · rename_i hno
        exact Bool.eq_false_iff.2 hno
  have hstation := s.station_enqueue v t o k
  cases hx : s.station k with
  | none =>
    rw [hx] at hstation
    refine ⟨by rw [hstation, hx]; rfl, fun _ w hw => ?_⟩
    rw [State.queueOf_of_none hstation] at hw
    cases hw
  | some x =>
    rw [hx, Option.map_some] at hstation
    refine ⟨?_, fun hno w hw => ?_⟩
    · rw [hstation, hx, Option.map_some, Option.map_some]
      split <;> rfl
    · rw [State.queueOf_of_some hstation] at hw
      rw [State.queueOf_of_some hx]
      rw [if_neg fun hnum => ?_] at hw
      · exact hw
      · rw [← hnum, State.station_num hx, hno] at htakes
        cases htakes

theorem offerStep (s : State) (j : Nat) (p : SeqStep) : StationKept k s (s.offerStep j p).1 := by
  unfold State.offerStep
  split
  · exact refl s
  · split
    · exact refl s
    · rename_i a _ _ v _
      obtain ⟨o, -, heq⟩ | ⟨hends, heq⟩ := s.offer_cases v a.2 <;> rw [heq]
      · exact endCommand ..
      · exact enqueue hends .sequence

theorem engineKeeps : EngineKeeps (StationKept k) where
  refl := refl
  trans := trans
  reevalValve := reevalValve
  rearmTest := rearmTest
  offerStep := offerStep
  endCommand := endCommand
  updSlot := updSlot
  storeClosing _ _ _ := modStation (fun _ => rfl) fun _ => rfl
  writeFault _ _ _ _ := modStation (fun _ => rfl) fun _ => rfl
  giveUp _ _ _ _ _ := of_stations rfl
  raise _ _ := of_stations rfl
  note _ _ := of_stations rfl

theorem stationOutage (s : State) (j : Nat) : StationKept k s (s.stationOutage j) := by
  unfold State.stationOutage
  split
  · exact refl s
  · exact updMeter ..

end StationKept

/-! ### Settling records, for whatever the engine keeps -/

namespace EngineKeeps

variable {R : State → State → Prop}

theorem settleFor (h : EngineKeeps R) (hoverdue : ∀ s u, R s (s.modPig u fun q => { q with overdue := true }))
    (hexcuse : ∀ s u, R s (s.excuse u)) (n u : Nat) (s : State) : R s (State.settleFor n u s) := by
  have htest : ∀ (s : State) (d : Detector) (p : Pig), R s (s.overdueTest d p) := fun s d p => by
    unfold State.overdueTest
    split
    · exact h.trans (hoverdue ..) (h.handOn ..)
    · exact h.refl s
  induction n generalizing s with
  | zero => exact h.refl s
  | succ n ih =>
    unfold State.settleFor
    split
    · exact h.refl s
    · split
      · exact h.refl s
      · split
        · simp only
          split
          · exact h.trans (h.trans (htest ..) (hexcuse ..)) (ih _)
          · exact htest ..
        · exact h.refl s

theorem settle (h : EngineKeeps R) (hoverdue : ∀ s u, R s (s.modPig u fun q => { q with overdue := true }))
    (hexcuse : ∀ s u, R s (s.excuse u)) (s : State) (u : Nat) : R s (s.settle u) := h.settleFor hoverdue hexcuse ..

theorem excuseAt (h : EngineKeeps R) (hsettle : ∀ s u, R s (s.settle u)) (s : State) (k : Nat) : R s (s.excuseAt k) := by
  unfold State.excuseAt
  refine h.foldl _ (fun s u => ?_) _ s
  split
  · exact h.refl s
  · split
    · exact hsettle ..
    · exact h.refl s

theorem endQueued (h : EngineKeeps R) (s : State) (k : Nat) (o : ValveOutcome) : R s (s.endQueued k o) :=
  h.foldl _ (fun s v => h.finishCommand s v o) _ s

end EngineKeeps

/-! ### Settled records and emptied queues under the relations used here -/

theorem StationKept.settle (k : Nat) (s : State) (u : Nat) : StationKept k s (s.settle u) :=
  StationKept.engineKeeps.settle (fun _ _ => StationKept.of_stations rfl) (fun _ _ => StationKept.of_stations rfl) s u

theorem StationKept.excuseAt (k : Nat) (s : State) (j : Nat) : StationKept k s (s.excuseAt j) :=
  StationKept.engineKeeps.excuseAt (StationKept.settle k) s j

theorem StationKept.endQueued (k : Nat) (s : State) (j : Nat) (o : ValveOutcome) : StationKept k s (s.endQueued j o) :=
  StationKept.engineKeeps.endQueued s j o

theorem RecordsKeepPlace.excuseAt (s : State) (k : Nat) : RecordsKeepPlace s (s.excuseAt k) :=
  RecordsKeepPlace.engineKeeps.excuseAt RecordsKeepPlace.settle s k

theorem RecordsKeepPlace.endQueued (s : State) (k : Nat) (o : ValveOutcome) : RecordsKeepPlace s (s.endQueued k o) :=
  RecordsKeepPlace.engineKeeps.endQueued s k o

theorem RecordsKeepPlace.updMeter (s : State) (m : Nat) (f : Meter → Meter) : RecordsKeepPlace s (s.updMeter m f) := by
  unfold State.updMeter
  split
  · exact RecordsKeepPlace.refl s
  · refine RecordsKeepPlace.trans ?_ (RecordsKeepPlace.touchIf ..)
    exact RecordsKeepPlace.of_same rfl rfl

theorem RecordsKeepPlace.stationOutage (s : State) (k : Nat) : RecordsKeepPlace s (s.stationOutage k) := by
  unfold State.stationOutage
  split
  · exact RecordsKeepPlace.refl s
  · exact RecordsKeepPlace.updMeter ..

/-! ### The queue of a station that takes no offer, emptied (R115) -/

/-- The end of a valve's command takes it from the queue of a station that takes no offer. -/
theorem State.not_mem_queueOf_finishCommand {s : State} {k v : Nat} (o : ValveOutcome)
    (hqueues : QueuesHoldQueued s) (hno : s.takesNoOffer k = true) : v ∉ (s.finishCommand v o).queueOf k := by
  intro hmem
  have hbefore := (StationKept.engineKeeps.finishCommand s v o).queue hno v hmem
  obtain ⟨x, hx, hv⟩ : ∃ x, s.station k = some x ∧ v ∈ x.queue := by
    cases hx : s.station k with
    | none =>
      rw [State.queueOf_of_none hx] at hbefore
      cases hbefore
    | some x => exact ⟨x, rfl, State.queueOf_of_some hx ▸ hbefore⟩
  obtain ⟨y, hy, hstation, hphase⟩ := State.queueEntryOk_iff.1 (hqueues x (State.station_mem hx) v hv)
  have hend : v ∉ (s.endCommand y o).queueOf k := by
    have hstation' := s.station_endCommand y o k
    rw [hx, Option.map_some, if_pos hstation.symm] at hstation'
    rw [State.queueOf_of_some hstation', State.valve_num hy]
    simp only [List.mem_filter, decide_eq_true_eq]
    exact fun h => h.2 rfl
  obtain ⟨hnone, -⟩ | ⟨y', c, hy', -, ⟨-, heq⟩ | ⟨-, heq⟩⟩ := s.finishCommand_cases v o
  · simp only [hy, Option.bind_some] at hnone
    rw [hnone] at hphase
    cases hphase
  · cases hy.symm.trans hy'
    exact hend (heq ▸ hmem)
  · cases hy.symm.trans hy'
    rw [heq] at hmem
    refine hend ((StationKept.engineKeeps.engineRun (.slotOutcome _ y.station o)).queue ?_ v hmem)
    rwa [State.takesNoOffer_congr (StationKept.endCommand s y o).site]

theorem State.queueOf_foldl_finishCommand (k : Nat) (o : ValveOutcome) (l : List Nat) (s : State) (hrise : TablesRise s)
    (hqueues : QueuesHoldQueued s) (hno : s.takesNoOffer k = true) (hl : ∀ v ∈ s.queueOf k, v ∈ l) :
    (l.foldl (fun s v => s.finishCommand v o) s).queueOf k = [] := by
  induction l generalizing s with
  | nil => exact List.eq_nil_iff_forall_not_mem.2 fun v hv => List.not_mem_nil (hl v hv)
  | cons v l ih =>
    have hruns := Runs.finishCommand s v o
    have hkept : StationKept k s (s.finishCommand v o) := StationKept.engineKeeps.finishCommand s v o
    refine ih _ ((SameLine.of_runs hruns).tablesRise hrise) (hqueues.runs hruns hrise)
      ((State.takesNoOffer_congr hkept.site).trans hno) fun w hw => ?_
    refine (List.mem_cons.1 (hl w (hkept.queue hno w hw))).resolve_left fun heq => ?_
    rw [heq] at hw
    exact State.not_mem_queueOf_finishCommand o hqueues hno hw

/-- A station that takes no offer is left with an empty queue when its QUEUED commands end. -/
theorem State.queueOf_endQueued {s : State} {k : Nat} (o : ValveOutcome) (hrise : TablesRise s)
    (hqueues : QueuesHoldQueued s) (hno : s.takesNoOffer k = true) : (s.endQueued k o).queueOf k = [] :=
  State.queueOf_foldl_finishCommand k o _ s hrise hqueues hno fun _ hv => hv

/-! ### A link record written -/

theorem State.updLink_stations (s : State) (k : Nat) (f : LinkRecord → LinkRecord) :
    s.updLink k f = { s with stations := (s.updLink k f).stations } := by
  unfold State.updLink
  split
  · rfl
  · rw [State.touchIf_eq]
    rfl

theorem State.station_updLink_self {s : State} {k : Nat} {x : Station} (hx : s.station k = some x)
    (f : LinkRecord → LinkRecord) :
    ((s.updLink k f).station k).map (fun y => (y.link, y.service)) = some (f x.link, x.service) := by
  simp only [State.updLink, hx, State.touchIf_eq]
  have hwritten := State.station_modStation_self (fun y => { y with link := f y.link }) (fun _ => rfl) hx
  refine (congrArg (Option.map _) (State.station_modStation_self _ ?_ hwritten)).trans rfl
  exact fun _ => rfl

theorem RecordsKeepPlace.updLink (s : State) (k : Nat) (f : LinkRecord → LinkRecord) :
    RecordsKeepPlace s (s.updLink k f) := by
  rw [State.updLink_stations]
  exact RecordsKeepPlace.of_same rfl rfl

/-! ### SET_STATION_SERVICE -/

theorem State.discardFrameOf_cases (s : State) (k : Nat) :
    s.discardFrameOf k = { s with link := (s.discardFrameOf k).link } := by
  unfold State.discardFrameOf
  split <;> rfl

/-- A station entering OUT for the host: its link record and service field, its queue where it was not OUT, and the
records. -/
structure EnteredOut (s : State) (k : Nat) (x : Station) (t : State) : Prop where
  link : (t.station k).map (fun y => (y.link, y.service)) =
    some ({ x.link with state := .out, outCause := some .host }, x.service)
  queue : TablesRise s → QueuesHoldQueued s → x.link.state ≠ .out → t.queueOf k = []
  places : RecordsKeepPlace s t

theorem State.enterOut_entered {s : State} {k : Nat} {x : Station} (hx : s.station k = some x) :
    EnteredOut s k x (s.enterOut k .host) := by
  have hlink := State.station_updLink_self hx fun y => { y with state := .out, outCause := some .host }
  have hruns := Runs.updLink s k fun y => { y with state := .out, outCause := some .host }
  have hplaces := RecordsKeepPlace.updLink s k fun y => { y with state := .out, outCause := some .host }
  unfold State.enterOut
  simp only
  generalize s.updLink k (fun y => { y with state := .out, outCause := some .host }) = s1 at *
  obtain ⟨y, hy, hpair⟩ := Option.map_eq_some_iff.1 hlink
  have hout : y.link.state = .out := congrArg (fun p => LinkRecord.state p.1) hpair
  have hno : s1.takesNoOffer k = true := by simp [State.takesNoOffer, hy, hout]
  have hsettled : StationKept k s1 ((s1.stationOutage k).excuseAt k) :=
    (StationKept.stationOutage s1 k).trans (StationKept.excuseAt k _ k)
  have hsettling := (Runs.stationOutage s1 k).trans (Runs.excuseAt _ k)
  have hmoved := (RecordsKeepPlace.stationOutage s1 k).trans (RecordsKeepPlace.excuseAt _ k)
  refine ⟨?_, fun hrise hqueues _ => ?_, (hplaces.trans hmoved).trans (.endQueued ..)⟩
  · have hsite := (hsettled.trans (.endQueued k _ k .undelivered)).site
    rw [hy, Option.map_some] at hsite
    obtain ⟨z, hz, hzy⟩ := Option.map_eq_some_iff.1 hsite
    have hservice : z.service = y.service := (congrArg Station.service hzy : z.site.service = y.site.service)
    rw [hz, Option.map_some, Station.link_of_site hzy, hservice, hpair]
  · have hto := hruns.trans hsettling
    exact State.queueOf_endQueued _ ((SameLine.of_runs hto).tablesRise hrise) (hqueues.runs hto hrise)
      ((State.takesNoOffer_congr hsettled.site).trans hno)

theorem State.takeOut_entered {s : State} {k : Nat} {x : Station} (hx : s.station k = some x) :
    EnteredOut s k x (s.takeOut k) := by
  have hstate : s.linkStateOf k = x.link.state := by simp [State.linkStateOf, hx]
  unfold State.takeOut
  rw [hstate, State.discardFrameOf_cases]
  split
  · rename_i hout
    refine ⟨?_, fun _ _ hno => absurd hout hno, .updLink ..⟩
    rw [State.station_updLink_self hx, ← hout]
  · obtain ⟨hlink, hqueue, hplaces⟩ := State.enterOut_entered (s := { s with link := (s.discardFrameOf k).link }) hx
    exact ⟨hlink, fun hrise hqueues => hqueue ⟨hrise.stations, hrise.detectors, hrise.valves, hrise.meters, hrise.pigs⟩
      (hqueues.congr rfl rfl), hplaces.after rfl rfl⟩

/-- A station with its service request written. -/
def State.serviceWritten (s : State) (k : Nat) (asked : Service) : State :=
  s.modStation k fun x => { x with service := asked }

theorem State.station_serviceWritten {s : State} {k : Nat} {x : Station} (hx : s.station k = some x) (asked : Service) :
    (s.serviceWritten k asked).station k = some { x with service := asked } :=
  State.station_modStation_self _ (fun _ => rfl) hx

theorem State.serviceWritten_acts (s : State) (k : Nat) (asked : Service) : Acts true s (s.serviceWritten k asked) :=
  .tuneStation s k _ ⟨fun _ => rfl, fun _ => rfl, fun _ => rfl, fun _ => rfl⟩

theorem State.takeIn_of_out {s : State} {k : Nat} {x : Station} (hx : s.station k = some x) (hout : x.link.state = .out) :
    s.takeIn k = s.enterProving k := if_pos (by simp [State.linkStateOf, hx, hout])

theorem State.takeIn_of_not_out {s : State} {k : Nat} {x : Station} (hx : s.station k = some x)
    (hout : x.link.state ≠ .out) : s.takeIn k = s := if_neg (by simpa [State.linkStateOf, hx] using hout)

theorem State.stationServiceChecks_eq (s : State) (k value r : Byte) :
    (s.stationServiceChecks k value r).map (fun x => (x.1 = true, x.2)) =
      [(k.toNat < 1 ∨ 24 < k.toNat ∨ 1 < value.toNat ∨ r ≠ 0, .badField),
       (s.station k.toNat = none, .noSuch),
       (s.lineState = .ready ∧ (s.slotOf k.toNat).state ≠ .idle, .seqActive)] := by
  simp only [State.stationServiceChecks, List.map_cons, List.map_nil, Bool.or_eq_true, Bool.and_eq_true, badStation_iff,
    above_iff, nonzero_iff, Option.isNone_iff_eq_none, State.ready_iff, State.seqActive, decide_eq_true_eq, or_assoc]

/-- Settles O30: OUT ends the station's queue, which takes no offer meanwhile; IN starts the record of an OUT station
afresh. -/
theorem stationServiceMovesTheStation : Obligations.StationServiceMovesTheStation := by
  unfold Obligations.StationServiceMovesTheStation
  intro s k value r asked written
  refine .of_ask (t := .ok _) rfl (s.stationServiceChecks_eq k value r) fun hpass hexec x hx => ?_
  have hstation := State.station_serviceWritten hx asked
  have htaken : exec (.setStationService k value r) s = .next ((if s.ready then
      if value = 1 then (s.serviceWritten k.toNat asked).takeOut k.toNat
      else (s.serviceWritten k.toNat asked).takeIn k.toNat
      else s.serviceWritten k.toNat asked : State).respond .ok []) := by
    rw [hexec]
    simp only [yes_eq, decide_eq_true_eq]
    rfl
  by_cases hready : s.ready = true
  · have hline := State.lineState_of_ready hready
    rw [if_pos hready] at htaken
    by_cases hvalue : value = 1
    · rw [if_pos hvalue] at htaken
      obtain ⟨hlink, hqueue, hplaces⟩ := State.takeOut_entered hstation
      refine answers_of_respond _ s _ _ _ _ htaken (ClockAndPortStand.runs (.takeOut ..)).2 ⟨?_, ?_, ?_, ?_, hplaces.train⟩
      · exact fun h => by cases hline.symm.trans h
      · exact fun _ h => by rw [h] at hvalue; cases hvalue
      · exact fun _ h => by rw [h] at hvalue; cases hvalue
      · refine fun _ _ => ⟨?_, fun hrise hqueues hno => ?_, hplaces.pigPos⟩
        · refine hlink.trans ?_
          rw [show asked = .outOfService from if_pos hvalue]
        · have hacts := s.serviceWritten_acts k.toNat asked
          have hempty := hqueue (hrise.acts hacts) (hqueues.acts hacts hrise) hno
          obtain ⟨y, hy, -⟩ := Option.map_eq_some_iff.1 hlink
          exact (congrArg (Option.map Station.queue) hy).trans (congrArg some ((State.queueOf_of_some hy).symm.trans hempty))
    · rw [if_neg hvalue] at htaken
      by_cases hout : x.link.state = .out
      · rw [State.takeIn_of_out hstation hout, State.enterProving, State.updLink_stations] at htaken
        refine answers_of_respond _ s _ _ _ _ htaken rfl
          ⟨?_, fun _ _ h => absurd hout h, fun _ _ _ => ⟨?_, rfl⟩, fun _ h => absurd h hvalue, rfl⟩
        · exact fun h => by cases hline.symm.trans h
        · have hlink := congrArg (Option.map Prod.fst) (State.station_updLink_self hstation fun _ => LinkRecord.proving)
          rwa [Option.map_map] at hlink
      · rw [State.takeIn_of_not_out hstation hout] at htaken
        exact answers_of_respond _ s _ _ _ _ htaken rfl
          ⟨fun _ => rfl, fun _ _ _ => rfl, fun _ _ h => absurd h hout, fun _ h => absurd h hvalue, rfl⟩
  · rw [if_neg hready] at htaken
    have hline := State.unconfigured_of_not_ready (Bool.eq_false_iff.2 hready)
    refine answers_of_respond _ s _ _ _ _ htaken rfl ⟨fun _ => rfl, ?_, ?_, ?_, rfl⟩
    all_goals exact fun h => by cases hline.symm.trans h

end Sys2Proof.Machine
end

section
/-! SUPPORT. What handing a change on leaves of the records (R29, R46, R68, R69): their strikes and CHANGED flags only rise,
and a record that stands before its detector's window is settled already. -/

namespace Sys2Proof.Machine

/-! ### Records related one by one -/

theorem State.updDetector_pigs (s : State) (d : Nat) (f : Detector → Detector) : (s.updDetector d f).pigs = s.pigs := by
  unfold State.updDetector
  split
  · rfl
  · rw [State.touchIf_eq]
    rfl

theorem State.updSlot_pigs (s : State) (k : Nat) (f : Slot → Slot) : (s.updSlot k f).pigs = s.pigs := by
  unfold State.updSlot
  split
  · rfl
  · rw [State.touchIf_eq]
    rfl

/-- Each tag names two records so related, or none in both states. -/
def RecordsRelate (P : Pig → Pig → Prop) (s t : State) : Prop := ∀ u, Option.Rel P (s.pig u) (t.pig u)

/-- A relation of records that lets a record be struck (R46), or given up while it is STAGED (R35). -/
structure Pig.LetsStrike (P : Pig → Pig → Prop) : Prop where
  refl : ∀ p, P p p
  trans : ∀ {p q r}, P p q → P q r → P p r
  strike : ∀ p, P p (p.withFlags { p.flags with valveStrike := true })
  giveUp : ∀ p, p.state = .staged → P p { p.markChanged with state := .launchFailed }

namespace RecordsRelate

variable {P : Pig → Pig → Prop}

theorem of_pigs (hP : Pig.LetsStrike P) {s t : State} (h : t.pigs = s.pigs) : RecordsRelate P s t := fun u => by
  have hu : t.pig u = s.pig u := by simp only [State.pig, h]
  rw [hu]
  cases s.pig u with
  | none => exact .none
  | some p => exact .some (hP.refl p)

theorem trans (hP : Pig.LetsStrike P) {s t u : State} (h : RecordsRelate P s t)
    (g : RecordsRelate P t u) : RecordsRelate P s u := fun v => by
  have hv := h v
  have gv := g v
  generalize s.pig v = a, t.pig v = b, u.pig v = c at hv gv
  cases hv with
  | none => exact gv
  | some hab =>
    cases gv with
    | some hbc => exact .some (hP.trans hab hbc)

theorem modPig (hP : Pig.LetsStrike P) {s : State} {t : Nat} {f : Pig → Pig} (htag : ∀ p, (f p).tag = p.tag)
    (hf : ∀ p, s.pig t = some p → P p (f p)) : RecordsRelate P s (s.modPig t f) := fun u => by
  rw [State.pig_modPig s t u f htag]
  cases hu : s.pig u with
  | none => exact .none
  | some p =>
    refine .some ?_
    dsimp only
    split
    · rename_i ht
      rw [← State.pig_tag hu, ht] at hu
      exact hf p hu
    · exact hP.refl p

theorem of_some {s t : State} (h : RecordsRelate P s t) {u : Nat} {p : Pig} (hp : s.pig u = some p) :
    ∃ q, t.pig u = some q ∧ P p q := by
  have hu := h u
  rw [hp] at hu
  generalize t.pig u = o at hu
  cases hu with
  | some hpq => exact ⟨_, rfl, hpq⟩

theorem strikeRecords (hP : Pig.LetsStrike P) (s : State) (l : List Nat) : RecordsRelate P s (s.strikeRecords l) := by
  unfold State.strikeRecords
  induction l generalizing s with
  | nil => exact of_pigs hP rfl
  | cons u l ih =>
    refine trans hP ?_ (ih _)
    exact modPig hP (fun _ => rfl) fun p _ => hP.strike p

theorem reevalValve (hP : Pig.LetsStrike P) (s : State) (v : Nat) : RecordsRelate P s (s.reevalValve v) := by
  have hkept : ∀ {s t : State}, t.pigs = s.pigs → RecordsRelate P s t := of_pigs hP
  unfold State.reevalValve
  split
  · exact hkept rfl
  · rename_i y _
    split
    · obtain heq | ⟨tags, heq⟩ := s.applyHold_cases y (s.holdersNow y)
      · rw [heq]
        exact hkept (State.updValve_pigs ..)
      · rw [heq]
        exact trans hP (trans hP (hkept (State.updValve_pigs ..)) (strikeRecords hP _ tags)) (hkept rfl)
    · exact hkept rfl

theorem engineKeeps (hP : Pig.LetsStrike P) : EngineKeeps (RecordsRelate P) where
  refl _ := of_pigs hP rfl
  trans := trans hP
  reevalValve := reevalValve hP
  rearmTest s d := by
    unfold State.rearmTest
    split
    · exact of_pigs hP rfl
    · split
      · exact of_pigs hP (s.updDetector_pigs ..)
      · exact of_pigs hP rfl
  offerStep s k p := by
    unfold State.offerStep
    split
    · exact of_pigs hP rfl
    · split
      · exact of_pigs hP rfl
      · rename_i a _ _ v _
        obtain ⟨o, -, heq⟩ | ⟨-, heq⟩ := s.offer_cases v a.2 <;> rw [heq]
        · exact of_pigs hP rfl
        · exact of_pigs hP rfl
  endCommand _ _ _ := of_pigs hP rfl
  updSlot s k f := of_pigs hP (State.updSlot_pigs ..)
  storeClosing _ _ _ := of_pigs hP rfl
  writeFault _ _ _ _ := of_pigs hP rfl
  giveUp s k o t h := by
    obtain ⟨p, hp, hstaged⟩ := State.staged_of_givenUp h
    refine modPig hP (fun _ => rfl) fun q hq => ?_
    rw [hp] at hq
    cases hq
    exact hP.giveUp p hstaged
  raise _ _ := of_pigs hP rfl
  note _ _ := of_pigs hP rfl

end RecordsRelate

/-! ### Struck, and settled -/

/-- q keeps p's place, and loses neither VALVE_STRIKE nor CHANGED. -/
def Pig.Settled (p q : Pig) : Prop :=
  p.KeepsPlace q ∧ (p.flags.valveStrike = true → q.flags.valveStrike = true) ∧
    (p.flags.changed = true → q.flags.changed = true)

/-- And its pointer and overdue-pending are p's. -/
def Pig.Struck (p q : Pig) : Prop := p.Settled q ∧ q.pointer = p.pointer ∧ q.overdue = p.overdue

theorem Pig.settled_letsStrike : Pig.LetsStrike Pig.Settled where
  refl p := ⟨.refl p, id, id⟩
  trans h g := ⟨h.1.trans g.1, g.2.1 ∘ h.2.1, g.2.2 ∘ h.2.2⟩
  strike p := ⟨⟨rfl, .inl rfl⟩, fun _ => rfl, fun h => by simp only [Pig.withFlags, h, Bool.true_or]⟩
  giveUp p hstaged := ⟨⟨rfl, .inr ⟨hstaged, rfl⟩⟩, id, fun _ => rfl⟩

theorem Pig.struck_letsStrike : Pig.LetsStrike Pig.Struck where
  refl p := ⟨Pig.settled_letsStrike.refl p, rfl, rfl⟩
  trans h g := ⟨Pig.settled_letsStrike.trans h.1 g.1, g.2.1.trans h.2.1, g.2.2.trans h.2.2⟩
  strike p := ⟨Pig.settled_letsStrike.strike p, rfl, rfl⟩
  giveUp p hstaged := ⟨Pig.settled_letsStrike.giveUp p hstaged, rfl, rfl⟩

/-- A record that is not STAGED, struck: the one it was, but for its strike and its CHANGED flag. -/
theorem Pig.Struck.eq {p q : Pig} (h : p.Struck q) (hstate : p.state ≠ .staged) (hchanged : p.flags.changed = true) :
    ∃ struck, q = { p with flags := { p.flags with changed := true, valveStrike := p.flags.valveStrike || struck } } := by
  obtain ⟨⟨⟨heq, hstays⟩, hstrike, hmark⟩, hpointer, hoverdue⟩ := h
  have hsame : q.state = p.state := hstays.resolve_right fun hno => hstate hno.1
  refine ⟨q.flags.valveStrike, ?_⟩
  have hor : (p.flags.valveStrike || q.flags.valveStrike) = q.flags.valveStrike :=
    Bool.or_eq_right_iff_imp.2 hstrike
  rw [heq, hpointer, hoverdue, hsame, hmark hchanged]
  simp only [hor]

theorem State.handOn_struck (s : State) (u : Nat) : RecordsRelate Pig.Struck s (s.handOn u) :=
  (RecordsRelate.engineKeeps Pig.struck_letsStrike).handOn s u

theorem State.settle_settled (s : State) (u : Nat) : RecordsRelate Pig.Settled s (s.settle u) :=
  (RecordsRelate.engineKeeps Pig.settled_letsStrike).settle
    (fun _ _ => .modPig Pig.settled_letsStrike (fun _ => rfl) fun _ _ => ⟨⟨rfl, .inl rfl⟩, id, id⟩)
    (fun _ _ => .modPig Pig.settled_letsStrike (fun _ => rfl) fun _ _ => ⟨⟨rfl, .inl rfl⟩, id, fun _ => rfl⟩) s u

theorem Reaches.settle (s : State) (u : Nat) : Reaches s (s.settle u) :=
  engineKeeps_reaches.settle (fun _ _ => .modPig ..) (fun _ _ => .excuse ..) s u

theorem Reaches.handOn (s : State) (u : Nat) : Reaches s (s.handOn u) := engineKeeps_reaches.handOn s u

theorem Reaches.revision {s t : State} (h : Reaches s t) : t.revision = s.revision := by rw [h]

/-! ### A record that stands before its detector's window -/

/-- A record that is not overdue-pending, and not beyond the window of its pointed detector, is settled already. -/
theorem State.settle_of_before {s : State} {u : Nat} {p : Pig} (hp : s.pig u = some p) (hoverdue : p.overdue = false)
    (hbefore : ∀ d, p.pointer.bind s.indexed = some d → s.beyondWindow d p = false) : s.settle u = s := by
  unfold State.settle State.settleFor
  simp only [hp]
  split
  · rfl
  · rename_i d hd
    have hout := hbefore d hd
    simp only [State.overdueTest, hout, hoverdue, Bool.or_self, Bool.false_eq_true, and_false, false_and, if_false, ite_self]

/-- The first detector beyond a position is beyond it. -/
theorem State.lt_position_of_firstBeyond {s : State} {x : Nat} {d : Detector}
    (h : (s.firstBeyond x).bind s.indexed = some d) : x < d.position := by
  obtain ⟨i, hi, hd⟩ := Option.bind_eq_some_iff.1 h
  obtain ⟨hlt, hfound, -⟩ := List.findIdx?_eq_some_iff_getElem.1 hi
  have hd : s.detector s.index[i] = some d := by
    rwa [State.indexed, List.getElem?_eq_getElem hlt] at hd
  rw [hd] at hfound
  exact of_decide_eq_true hfound

/-- A detector found by its index stands, after a run, where it stood. -/
theorem SameLine.indexed_position {s t : State} (h : SameLine s t) {o : Option Nat} {d : Detector}
    (hd : o.bind t.indexed = some d) : ∃ e, o.bind s.indexed = some e ∧ e.position = d.position := by
  obtain ⟨i, rfl, hi⟩ := Option.bind_eq_some_iff.1 hd
  have hindex : t.index = s.index := by rw [h.rest]
  rw [State.indexed, hindex] at hi
  obtain ⟨n, hn, hn'⟩ := Option.bind_eq_some_iff.1 hi
  have hdet := h.detector n
  rw [hn'] at hdet
  obtain ⟨e, he, heq⟩ := Option.map_eq_some_iff.1 hdet.symm
  exact ⟨e, by simp [State.indexed, hn, he], (congrArg Detector.position heq : e.committed.position = d.committed.position)⟩

/-! ### Fixes -/

/-- A record that joins the train at X is clamped at X, or at line end where that is nearer (R24, R82). -/
theorem TrainInOrder.clampFix_joined {s : State} (h : TrainInOrder s) {t : Nat} (x : Nat) (ht : t ∉ s.train) :
    (s.joinTrain t x).clampFix t x = min x s.lineEnd := by
  have hbehind : (((s.membersBehind x).head?).map s.pigPos).getD 0 ≤ min x s.lineEnd := by
    cases hb : (s.membersBehind x).head? with
    | none => exact Nat.zero_le _
    | some b =>
      exact Nat.le_min.2 ⟨Nat.le_of_lt (State.membersBehind_lt hb),
        h.onLine b (State.mem_train_of_behind (List.mem_of_mem_head? hb))⟩
  have hahead : min x (((s.membersAhead x).getLast?.map s.pigPos).getD s.lineEnd) = min x s.lineEnd := by
    cases ha : (s.membersAhead x).getLast? with
    | none => rfl
    | some a =>
      have hmem := List.mem_of_getLast? ha
      have hle : x ≤ s.pigPos a := State.membersAhead_le hmem
      have hend := h.onLine a (State.mem_train_of_ahead hmem)
      simp only [Option.map_some, Option.getD_some]
      omega
  rw [State.clampFix, State.aheadOf_joinTrain x ht, State.behindOf_joinTrain x ht]
  change max (((s.membersBehind x).head?.map s.pigPos).getD 0)
    (min x (((s.membersAhead x).getLast?.map s.pigPos).getD s.lineEnd)) = _
  rw [hahead, max_eq_right hbehind]

/-- The state a fix hands on: the record in its place (R82, R83). -/
def State.placed (s : State) (t x : Nat) (e : Evidence) : State := s.modPig t fun p => s.fixed p e x (s.clampFix t x)

theorem State.applyFix_eq (s : State) (t x : Nat) (e : Evidence) :
    s.applyFix t x e = ((s.placed t x e).handOn t).settle t := rfl

theorem State.fixed_tag (s : State) (p : Pig) (e : Evidence) (x y : Nat) : (s.fixed p e x y).tag = p.tag := rfl

theorem State.pig_placed {s : State} {t : Nat} {p : Pig} (hp : s.pig t = some p) (x : Nat) (e : Evidence) :
    (s.placed t x e).pig t = some (s.fixed p e x (s.clampFix t x)) := by
  rw [State.placed, State.pig_modPig s t t _ fun p => s.fixed_tag p e x _, hp, Option.map_some, if_pos (State.pig_tag hp)]

/-- A fix moves no record but its own (R88). -/
theorem State.othersStand_applyFix (s : State) (t x : Nat) (e : Evidence) : OthersStand s (s.applyFix t x e) t :=
  fun u hu => by
    rw [State.applyFix_eq, (RecordsKeepPlace.settle ..).pigPos, (RecordsKeepPlace.handOn ..).pigPos]
    rw [State.pigPos, State.placed, State.pig_modPig_ne (fun p ht => (s.fixed_tag p e x _).trans ht) hu]
    rfl

theorem State.train_applyFix (s : State) (t x : Nat) (e : Evidence) : (s.applyFix t x e).train = s.train := by
  rw [State.applyFix_eq, (RecordsKeepPlace.settle ..).train, (RecordsKeepPlace.handOn ..).train]
  rfl

theorem Reaches.applyFix (s : State) (t x : Nat) (e : Evidence) : Reaches s (s.applyFix t x e) :=
  ((Reaches.modPig ..).trans (.handOn ..)).trans (.settle ..)

/-- A fix that points at the first detector beyond its place leaves the fixed record, perhaps struck: it stands before the
window there, so nothing is left to settle. -/
theorem State.pig_applyFix_of_firstBeyond {s : State} {t : Nat} {p : Pig} (hp : s.pig t = some p) (x : Nat)
    (e : Evidence) (hpointer : e.pointer = s.firstBeyond (s.clampFix t x)) :
    ∃ struck, (s.applyFix t x e).pig t = some { s.fixed p e x (s.clampFix t x) with
      flags := { s.fixFlags p e.early (decide (s.clampFix t x ≠ x)) (s.clampFix t x) with
        valveStrike := p.flags.valveStrike || struck } } := by
  obtain ⟨q, hq, hstruck⟩ := (State.handOn_struck (s.placed t x e) t).of_some (State.pig_placed hp x e)
  obtain ⟨struck, rfl⟩ := hstruck.eq (by exact fun h => by cases h) rfl
  refine ⟨struck, ?_⟩
  have hline : SameLine s ((s.placed t x e).handOn t) :=
    (SameLine.modPig s t _ fun p ht => (s.fixed_tag p e x _).trans ht).trans (SameLine.of_runs (.handOn ..))
  rw [State.applyFix_eq, State.settle_of_before hq rfl fun d hd => ?_, hq]
  · rfl
  · obtain ⟨d', hd', hpos⟩ := hline.indexed_position hd
    have hbeyond : s.clampFix t x < d'.position :=
      State.lt_position_of_firstBeyond (s := s) ((congrArg (Option.bind · s.indexed) hpointer).symm.trans hd')
    rw [State.beyondWindow, decide_eq_false_iff_not]
    exact Nat.not_lt.2 (Nat.le_trans (Nat.le_of_lt (hpos ▸ hbeyond)) (Nat.le_add_right ..))

end Sys2Proof.Machine
end

section
/-! SUPPORT. DECLARE_PIG, FIX_PIG and DECLARE_LOST (R36, R37, R41, R86, R87). -/

namespace Sys2Proof.Machine

/-! ### The checks they share -/

theorem State.pigIs_iff {s : State} {t : Nat} {l : List PigState} :
    s.pigIs t l = true ↔ (s.pig t).any (fun p => decide (p.state ∈ l)) = true := by
  unfold State.pigIs
  split
  · rename_i h
    simp [h]
  · rename_i p h
    simp [h]

theorem State.offLine_iff (s : State) (x : Nat) : s.offLine x = true ↔ x < s.lineStart ∨ s.lineEnd < x := by
  simp only [State.offLine, Bool.or_eq_true, decide_eq_true_eq]

theorem State.noReceiver_iff (s : State) (k : Nat) :
    s.noReceiver k = true ↔ (s.station k).any Station.hasReceiver = false := not_getD_map_false ..

theorem slipInRange_ne_iff (n : Nat) : decide (slipInRange n ≠ n) = true ↔ 250 < n := by
  rw [decide_eq_true_iff, slipInRange]
  exact min_ne_iff ..

@[simp] theorem State.respond_pig (s : State) (st : Status) (data : List Byte) (u : Nat) :
    (s.respond st data).pig u = s.pig u := rfl

@[simp] theorem State.respond_pigPos (s : State) (st : Status) (data : List Byte) (u : Nat) :
    (s.respond st data).pigPos u = s.pigPos u := rfl

/-! ### DECLARE_PIG -/

theorem State.declareChecks_eq (s : State) (f : DeclareFrame) :
    (s.declareChecks f).map (fun x => (x.1 = true, x.2)) =
      [(s.lineState = .unconfigured, .notConfigured),
       (f.tag = 0 ∨ f.position.toNat < s.lineStart ∨ s.lineEnd < f.position.toNat ∨ f.destination.toNat < 1 ∨
          24 < f.destination.toNat ∨ 1 < f.learning.toNat ∨ f.reserved ≠ 0, .badField),
       (s.station f.destination.toNat = none, .noSuch),
       ((s.station f.destination.toNat).any Station.hasReceiver = false ∨
          s.stationPos f.destination.toNat ≤ f.position.toNat, .badField),
       (s.pig f.tag.toNat ≠ none, .existing),
       (32 ≤ s.pigs.length, .full)] := by
  simp only [State.declareChecks, List.map_cons, List.map_nil, s.not_ready_iff, Bool.or_eq_true, badTag_iff,
    State.offLine_iff, badStation_iff, above_iff, nonzero_iff, Option.isNone_iff_eq_none, State.noReceiver_iff,
    decide_eq_true_eq, Option.isSome_iff_ne_none, State.tableFull, or_assoc]

/-- A record put into the Pig Table under a tag that none has is found by it. -/
theorem find?_insertByKey_self {α : Type} (key : α → Nat) (a : α) (l : List α)
    (hfresh : l.find? (fun x => key x == key a) = none) :
    (insertByKey key a l).find? (fun x => key x == key a) = some a := by
  induction l with
  | nil => simp [insertByKey]
  | cons b l ih =>
    rw [List.find?_eq_none] at hfresh
    obtain ⟨hb, hl⟩ := List.forall_mem_cons.1 hfresh
    unfold insertByKey
    split
    · rw [List.find?_cons_of_pos (by simp)]
    · rw [List.find?_cons_of_neg (p := fun x => key x == key a) hb]
      exact ih (List.find?_eq_none.2 hl)

/-- The state DECLARE_PIG hands on: the train with the record, and the Pig Table (R37). -/
def State.declared (s : State) (f : DeclareFrame) : State :=
  { s.joinTrain f.tag.toNat f.position.toNat with pigs := insertByKey Pig.tag (s.declaredPig f) s.pigs }

theorem State.declare_eq (s : State) (f : DeclareFrame) : s.declare f = (s.declared f).handOn f.tag.toNat := rfl

theorem State.pig_declared {s : State} {f : DeclareFrame} (hfresh : s.pig f.tag.toNat = none) :
    (s.declared f).pig f.tag.toNat = some (s.declaredPig f) :=
  find?_insertByKey_self Pig.tag (s.declaredPig f) s.pigs hfresh

theorem State.pigPos_declared_ne (s : State) (f : DeclareFrame) {u : Nat} (hu : u ≠ f.tag.toNat) :
    (s.declared f).pigPos u = s.pigPos u :=
  congrArg (fun o => (Option.map Pig.position o).getD 0)
    (find?_insertByKey_ne Pig.tag (s.declaredPig f) (Ne.symm hu) s.pigs)

/-- Settles O35: the record joins the train where the list of its members parts, and the engine can only strike it. -/
theorem declaredPigJoinsTheTrain : Obligations.DeclaredPigJoinsTheTrain := by
  unfold Obligations.DeclaredPigJoinsTheTrain
  intro s f tag x e
  refine .of_ask (t := .clamped _ _) rfl (s.declareChecks_eq f) fun hpass hexec => ?_
  have hfresh : s.pig tag = none := not_not.1 (hpass (s.pig tag ≠ none, .existing) (by simp [tag]))
  have hreaches : Reaches (s.declared f) (s.declare f) := .handOn ..
  have hspreads : Spreads s (s.declare f) := Spreads.trans (by exact rfl) hreaches.spreads
  have hplaces : RecordsKeepPlace (s.declared f) (s.declare f) := .handOn ..
  obtain ⟨q, hq, hstruck⟩ := (State.handOn_struck (s.declared f) tag).of_some (State.pig_declared hfresh)
  obtain ⟨struck, rfl⟩ := hstruck.eq (by exact fun h => by cases h) rfl
  refine answers_of_clamped hexec (slipInRange_ne_iff _) (ClockAndPortStand.spreads hspreads).2 fun st =>
    ⟨⟨struck, hq.trans ?_⟩, hplaces.train, hreaches.revision, fun u hu => ?_, .respond hspreads.besides st []⟩
  · rw [← yes_eq]
    rfl
  · exact (hplaces.pigPos u).trans (s.pigPos_declared_ne f hu)

/-! ### FIX_PIG -/

theorem State.fixChecks_eq (s : State) (f : FixFrame) :
    (s.fixChecks f).map (fun x => (x.1 = true, x.2)) =
      [(s.lineState = .unconfigured, .notConfigured),
       (f.tag = 0 ∨ f.position.toNat < s.lineStart ∨ s.lineEnd < f.position.toNat ∨ f.reserved ≠ 0, .badField),
       (s.pig f.tag.toNat = none, .noSuch),
       ((s.pig f.tag.toNat).any (fun p => decide (p.state = .staged ∨ p.state = .trapped ∨ p.state = .launchFailed)) = true,
          .wrongState)] := by
  simp only [State.fixChecks, List.map_cons, List.map_nil, s.not_ready_iff, Bool.or_eq_true, badTag_iff, State.offLine_iff,
    nonzero_iff, Option.isNone_iff_eq_none, State.pigIs_iff, List.mem_cons, List.not_mem_nil, or_false, or_assoc]

/-- Four bytes of a number, the most significant first. -/
theorem beBytes_four (n : Nat) : beBytes 4 n =
    [BitVec.ofNat 8 (n / 16777216), BitVec.ofNat 8 (n / 65536), BitVec.ofNat 8 (n / 256), BitVec.ofNat 8 n] := by
  simp [beBytes, List.range_succ]

theorem State.pigIs_of_some {s : State} {t : Nat} {p : Pig} (hp : s.pig t = some p) (l : List PigState) :
    s.pigIs t l = decide (p.state ∈ l) := by
  simp only [State.pigIs, hp]

theorem State.fixJoined_of_some {s : State} {t : Nat} {p : Pig} (hp : s.pig t = some p) (x : Nat) :
    s.fixJoined t x = if p.state = .lost then s.joinTrain t x else s := by
  simp only [State.fixJoined, State.pigIs_of_some hp, List.mem_singleton, decide_eq_true_eq]

/-- What a manual fix leaves in the train it acts in (R87), whose place, line and pointers are those given. -/
theorem State.manualFix_places {s : State} {t x : Nat} {p : Pig} (hp : s.pig t = some p) :
    let j := s.fixJoined t x
    let place := j.clampFix t x
    ∃ struck, (s.manualFix t x).pig t = some
        { p with
          state := .inLine, position := place, residue := 0, fixPosition := some place, fixKind := some .manual,
          fixDetector := none, fixTime := some s.clock, pointer := s.firstBeyond place, overdue := false, misses := 0
          flags := { clamped := false, early := false, valveStrike := p.flags.valveStrike || struck,
                     destinationPassed := decide (s.stationPos p.destination < place),
                     endOfLine := decide (place = s.lineEnd), fixClamped := decide (place ≠ x), changed := true } } ∧
      (s.manualFix t x).train = j.train ∧ (s.manualFix t x).revision = j.revision ∧
      OthersStand s (s.manualFix t x) t ∧ Spreads s (s.manualFix t x) := by
  intro j place
  have hcase : j = s ∨ j = s.joinTrain t x := by
    by_cases hlost : s.pigIs t [.lost] = true
    · exact .inr (if_pos hlost)
    · exact .inl (if_neg hlost)
  have hj : j = { s with train := j.train, revision := j.revision } := by
    obtain heq | heq := hcase <;> rw [heq]
    rfl
  have hjp : j.pig t = some p := by rwa [hj]
  have hbeyond : s.firstBeyond = j.firstBeyond := by rw [hj]; rfl
  obtain ⟨struck, hpig⟩ := State.pig_applyFix_of_firstBeyond hjp x
    { kind := .manual, place := place, detector := none, pointer := s.firstBeyond place, early := false }
    (congrFun hbeyond place)
  have hfixed : ∀ e y, j.fixed p e x y = s.fixed p e x y := fun e y => by rw [hj]; rfl
  have hflags : ∀ b c y, j.fixFlags p b c y = s.fixFlags p b c y := fun b c y => by rw [hj]; rfl
  rw [hfixed, hflags] at hpig
  refine ⟨struck, hpig, State.train_applyFix .., (Reaches.applyFix ..).revision, ?_, ?_⟩
  · intro u hu
    refine (State.othersStand_applyFix j t x _ u hu).trans ?_
    rw [hj]
    rfl
  · refine Spreads.trans ?_ (Spreads.applyFix j t x _)
    rw [hj]
    rfl

/-- Settles O37: the record points at the first detector beyond its place, so nothing is left to settle there. -/
theorem manualFixPlacesTheRecord : Obligations.ManualFixPlacesTheRecord := by
  unfold Obligations.ManualFixPlacesTheRecord
  intro s f hrise horder tag x
  refine .of_ask (t := s.fixTaken f) rfl (s.fixChecks_eq f) fun hpass hexec p hp => ?_
  intro lost train place
  have hon : x ≤ s.lineEnd := by
    have := hpass (_, .badField) (List.mem_cons_of_mem _ List.mem_cons_self)
    simp only [not_or] at this
    exact Nat.not_lt.1 this.2.2.1
  obtain ⟨struck, hpig, htrain, hrevision, hothers, hspreads⟩ := State.manualFix_places (x := x) hp
  have hplace : s.fixPlace tag x = place ∧ (s.fixJoined tag x).train = train ∧
      (s.fixJoined tag x).revision = if lost then (s.revision + 1) % 256 else s.revision := by
    unfold State.fixPlace
    rw [State.fixJoined_of_some hp]
    by_cases hlost : p.state = .lost
    · have hout : tag ∉ s.train := horder.not_mem hp (by simp [Pig.tracked, hlost])
      have hyes : lost = true := decide_eq_true hlost
      simp only [train, place, if_pos hlost, if_pos hyes]
      refine ⟨(horder.clampFix_joined x hout).trans (min_eq_left hon), ?_, ?_⟩
      · trivial
      · trivial
    · have hno : ¬ lost = true := by simpa [lost] using hlost
      simp only [train, place, if_neg hlost, if_neg hno]
      refine ⟨rfl, ?_, ?_⟩
      · trivial
      · trivial
  obtain ⟨hplace, hmembers, hrev⟩ := hplace
  have hstatus : (s.fixTaken f).status = if place = x then .ok else .okClamped := by
    simp only [State.fixTaken, okOrClamped, decide_eq_true_eq, ne_eq, ite_not]
    rw [← hplace]
  have hdata : (s.fixTaken f).data = beBytes 4 place := by rw [← hplace]; rfl
  have hstate : (s.fixTaken f).state = s.manualFix tag x := rfl
  rw [hstatus, hdata, hstate, beBytes_four] at hexec
  refine answers_of_respond _ s _ _ _ _ hexec (ClockAndPortStand.spreads hspreads).2 ⟨⟨struck, ?_⟩, ?_, ?_, ?_, ?_⟩
  · rw [State.respond_pig, hpig, ← hplace]
    rfl
  · rw [State.respond_train, htrain, hmembers]
  · rw [State.respond_revision, hrevision, hrev]
  · intro u hu
    rw [State.respond_pigPos, hothers u hu]
  · exact .respond hspreads.besides _ _

/-! ### DECLARE_LOST -/

theorem State.lostChecks_eq (s : State) (tag : BitVec 16) (r : Byte) :
    (s.lostChecks tag r).map (fun x => (x.1 = true, x.2)) =
      [(s.lineState = .unconfigured, .notConfigured),
       (tag = 0 ∨ r ≠ 0, .badField),
       (s.pig tag.toNat = none, .noSuch),
       ((s.pig tag.toNat).any (fun p => decide (p.state = .staged ∨ p.state = .trapped ∨ p.state = .launchFailed)) = true,
          .wrongState)] := by
  simp only [State.lostChecks, List.map_cons, List.map_nil, s.not_ready_iff, Bool.or_eq_true, badTag_iff,
    nonzero_iff, Option.isNone_iff_eq_none, State.pigIs_iff, List.mem_cons, List.not_mem_nil, or_false]

/-- The state a loss hands on: the record frozen outside the train, and its alert (R27). -/
def State.lostBefore (s : State) (t : Nat) : State :=
  ((s.leaveTrain t).modPig t fun p =>
    { p.markChanged with state := .lost, residue := 0, pointer := none, overdue := false }).raise .pigLost

theorem State.lose_eq (s : State) (t : Nat) : s.lose t = (s.lostBefore t).handOn t := rfl

theorem State.leaveTrain_revision_eq (s : State) (t : Nat) :
    (s.leaveTrain t).revision = if t ∈ s.train then (s.revision + 1) % 256 else s.revision := by
  unfold State.leaveTrain
  split <;> rfl

theorem AlertCause.getLsbD_bit (c : AlertCause) : (BitVec.ofNat 9 (2 ^ c.ctorIdx)).getLsbD c.ctorIdx = true := by
  cases c <;> rfl

theorem State.alertSet_raise (s : State) (c : AlertCause) : (s.raise c).alertSet c = true := by
  simp only [State.alertSet, State.raise, BitVec.getLsbD_or, c.getLsbD_bit, Bool.or_true]

theorem Pig.frozen_tag (p : Pig) :
    ({ p.markChanged with state := .lost, residue := 0, pointer := none, overdue := false } : Pig).tag = p.tag := rfl

theorem State.leaveTrain_pig (s : State) (t u : Nat) : (s.leaveTrain t).pig u = s.pig u := by
  rw [State.pig, State.leaveTrain_pigs]
  rfl

/-- What a loss does (R27): the record, the train, its revision, the alert, and that no other record moves. -/
theorem State.lose_loses {s : State} {u : Nat} {p : Pig} (hp : s.pig u = some p) :
    (∃ struck, (s.lose u).pig u = some
      { p with state := .lost, residue := 0, pointer := none, overdue := false
               flags := { p.flags with changed := true, valveStrike := p.flags.valveStrike || struck } }) ∧
    (s.lose u).train = s.train.filter (· ≠ u) ∧
    ((s.lose u).revision = if u ∈ s.train then (s.revision + 1) % 256 else s.revision) ∧
    (s.lose u).alertSet .pigLost = true ∧ OthersStand s (s.lose u) u := by
  have hplaces : RecordsKeepPlace (s.lostBefore u) (s.lose u) := .handOn ..
  have hreaches : Reaches (s.lostBefore u) (s.lose u) := .handOn ..
  have hbefore : (s.lostBefore u).pig u =
      some { p.markChanged with state := .lost, residue := 0, pointer := none, overdue := false } :=
    State.pig_modPig_self (fun q hq => q.frozen_tag.trans hq) ((s.leaveTrain_pig u u).trans hp)
  obtain ⟨q, hq, hstruck⟩ := (State.handOn_struck (s.lostBefore u) u).of_some hbefore
  obtain ⟨struck, rfl⟩ := hstruck.eq (by exact fun h => by cases h) rfl
  refine ⟨⟨struck, hq⟩, hplaces.train.trans ?_, hreaches.revision.trans ?_, ?_, fun w hw => (hplaces.pigPos w).trans ?_⟩
  · exact State.leaveTrain_train ..
  · exact State.leaveTrain_revision_eq ..
  · exact (AlertsStand.runs (.handOn (s.lostBefore u) u)).stands _ (State.alertSet_raise ..)
  · have hmoved := State.pig_modPig_ne (s := s.leaveTrain u) (fun q hq => q.frozen_tag.trans hq) hw
    exact congrArg (fun o => (Option.map Pig.position o).getD 0) (hmoved.trans (s.leaveTrain_pig u w))

/-- Settles O38. -/
theorem declaredLostLeavesTheTrain : Obligations.DeclaredLostLeavesTheTrain := by
  unfold Obligations.DeclaredLostLeavesTheTrain
  intro s tag r u lost
  have hlostIs : s.pigIs u [.lost] = lost := Bool.eq_iff_iff.2 <| by
    simp only [State.pigIs_iff, List.mem_singleton, lost]
  refine .of_ask (t := .ok _) rfl (s.lostChecks_eq tag r) fun hpass hexec => ⟨fun hlost => ?_, fun hlost p hp => ?_⟩
  · rw [if_pos (hlostIs.trans hlost)] at hexec
    exact answers_of_respond _ s _ _ _ _ hexec rfl rfl
  · rw [if_neg (by rw [hlostIs, hlost]; exact Bool.false_ne_true)] at hexec
    obtain ⟨⟨struck, hpig⟩, htrain, hrevision, halert, hothers⟩ := State.lose_loses hp
    have hspreads := Spreads.lose s u
    refine answers_of_respond _ s (s.lose u) _ _ _ hexec (ClockAndPortStand.spreads hspreads).2
      ⟨⟨struck, hpig⟩, htrain, hrevision, halert, fun w hw => ?_, .respond hspreads.besides _ _⟩
    rw [State.respond_pigPos, hothers w hw]

end Sys2Proof.Machine
end

section
/-! SUPPORT. AMEND_PIG (R39, R40): the parts replaced, and the tag unbarred (R129). -/

namespace Sys2Proof.Machine

/-! ### A tag barred no more -/

/-- A station's slot bars a tag no more (R129). -/
def Station.unbarred (t : Nat) (x : Station) : Station :=
  if x.slot.barred = some t then { x with slot := { x.slot with barred := none }, changed := true } else x

@[simp] theorem Station.unbarred_num (t : Nat) (x : Station) : (x.unbarred t).num = x.num := by
  unfold Station.unbarred
  split <;> rfl

theorem Station.unbarred_unbarred (t : Nat) (x : Station) : (x.unbarred t).unbarred t = x.unbarred t := by
  unfold Station.unbarred
  by_cases h : x.slot.barred = some t
  · rw [if_pos h]
    rfl
  · rw [if_neg h, if_neg h]

/-- One station after another, where a number stands once: writing its slot is writing its record. -/
theorem State.updSlot_unbar {s : State} (hrise : Rising (s.stations.map Station.num)) (k t : Nat) :
    (s.updSlot k fun x => { x with barred := if x.barred = some t then none else x.barred }) =
      s.modStation k (Station.unbarred t) := by
  unfold State.updSlot
  split
  · rename_i hnone
    have hout : ∀ x ∈ s.stations, x.num ≠ k := find?_key_eq_none hnone
    refine congrArg (fun l => { s with stations := l }) ?_
    refine ((List.map_congr_left fun x hx => ?_).trans (List.map_id _)).symm
    exact if_neg (hout x hx)
  · rename_i x hx
    rw [State.touchIf_eq]
    refine congrArg (fun l => { s with stations := l }) ?_
    refine List.map_map.trans (List.map_congr_left fun y hy => ?_)
    simp only [Function.comp_apply]
    by_cases hk : y.num = k
    · have hyx : y = x := Option.some.inj ((find?_of_rising Station.num _ hrise y hy).symm.trans (hk ▸ hx))
      subst hyx
      simp only [if_pos hk, Station.unbarred]
      by_cases hbarred : y.slot.barred = some t
      · simp [hbarred]
      · simp [hbarred]
    · simp only [if_neg hk]

/-- A pass over all numbers of a table, each time changing the items of that number, changes every item. -/
theorem foldl_mod_eq_map {α : Type} (key : α → Nat) (f : α → α) (hkey : ∀ x, key (f x) = key x)
    (hidem : ∀ x, f (f x) = f x) (ks : List Nat) (l : List α) :
    ks.foldl (fun m k => m.map fun x => if key x = k then f x else x) l = l.map fun x => if key x ∈ ks then f x else x := by
  induction ks generalizing l with
  | nil => simp
  | cons k ks ih =>
    rw [List.foldl_cons, ih, List.map_map]
    refine List.map_congr_left fun x _ => ?_
    simp only [Function.comp_apply, List.mem_cons]
    by_cases hk : key x = k
    · rw [if_pos hk, hkey, hidem, ite_self, if_pos (.inl hk)]
    · rw [if_neg hk]
      exact if_congr (or_iff_right hk).symm rfl rfl

theorem State.unbar_eq {s : State} (hrise : Rising (s.stations.map Station.num)) (t : Nat) :
    s.unbar t = { s with stations := s.stations.map (Station.unbarred t) } := by
  have hpass : ∀ (ks : List Nat) (u : State), Rising (u.stations.map Station.num) →
      ks.foldl (fun s k => s.updSlot k fun x => { x with barred := if x.barred = some t then none else x.barred }) u =
        { u with stations := ks.foldl (fun m k => m.map fun x => if x.num = k then x.unbarred t else x) u.stations } := by
    intro ks
    induction ks with
    | nil => exact fun _ _ => rfl
    | cons k ks ih =>
      intro u hu
      have hnums : (u.modStation k (Station.unbarred t)).stations.map Station.num = u.stations.map Station.num :=
        map_mod_of_same Station.num k _ Station.num (fun y _ => y.unbarred_num t) _
      rw [List.foldl_cons, State.updSlot_unbar hu, ih _ (hnums ▸ hu)]
      rfl
  refine (hpass s.stationNums s hrise).trans (congrArg (fun l => { s with stations := l }) ?_)
  rw [foldl_mod_eq_map Station.num (Station.unbarred t) (fun x => x.unbarred_num t) fun x => x.unbarred_unbarred t]
  exact List.map_congr_left fun x hx => if_pos (List.mem_map_of_mem hx)

/-! ### AMEND_PIG -/

theorem State.amendFrom_eq (s : State) (p : Pig) :
    s.amendFrom p = if p.state = .staged ∨ p.state = .launchFailed then s.stationPos (p.launchStation.getD 0)
      else p.position := by
  unfold State.amendFrom
  cases p.state <;> simp

theorem State.beingReceived_iff (s : State) (t : Nat) : s.beingReceived t = true ↔
    (s.boundStation t).any (fun k => decide ((s.slotOf k).kind = some .receive)) = true := by
  unfold State.beingReceived
  split
  · rename_i h
    simp [h]
  · rename_i k h
    simp [h]

theorem badAmendment_iff (f : AmendFrame) : badAmendment f = true ↔
    f.parts = 0 ∨ 8 ≤ f.parts.toNat ∨ (f.parts.getLsbD 0 = false ∧ f.slip ≠ 0) ∨
      (f.parts.getLsbD 1 = false ∧ f.learning ≠ 0) ∨ (f.parts.getLsbD 2 = false ∧ f.destination ≠ 0) ∨
      1 < f.learning.toNat ∨ (f.parts.getLsbD 2 = true ∧ (f.destination.toNat < 1 ∨ 24 < f.destination.toNat)) := by
  have hparts : f.parts.toNat = 0 ↔ f.parts = 0 := (BitVec.toNat_eq (x := f.parts) (y := 0)).symm
  simp only [badAmendment, hasSlipPart, hasLearningPart, hasDestinationPart, Bool.or_eq_true, Bool.and_eq_true,
    decide_eq_true_eq, Bool.not_eq_true', hparts, nonzero_iff, above_iff, badStation_iff, or_assoc]

/-- The checks of AMEND_PIG with its position read of a record that is found; where none is, check 3 has failed. -/
def State.amendChecksAny (s : State) (f : AmendFrame) : List (Bool × Status) :=
  [(!s.ready, .notConfigured),
   (badTag f.tag || badAmendment f || nonzero f.reserved, .badField),
   ((s.pig f.tag.toNat).isNone || hasDestinationPart f && (s.station f.destination.toNat).isNone, .noSuch),
   (hasDestinationPart f && s.pigIs f.tag.toNat [.trapped], .wrongState),
   (hasDestinationPart f && s.beingReceived f.tag.toNat, .seqActive),
   (hasDestinationPart f && (s.noReceiver f.destination.toNat ||
      ((s.pig f.tag.toNat).map s.amendFrom).any fun x => decide (s.stationPos f.destination.toNat ≤ x)), .badField),
   (hasDestinationPart f && s.receivesOther f.destination.toNat f.tag.toNat, .seqActive)]

theorem State.firstRefusal_amendChecksAny (s : State) (f : AmendFrame) :
    firstRefusal (s.amendChecks f) = firstRefusal (s.amendChecksAny f) := by
  cases hp : s.pig f.tag.toNat with
  | some p => simp only [State.amendChecks, State.amendChecksAny, hp, Option.map_some, Option.getD_some, Option.any_some]
  | none =>
    simp only [State.amendChecks, State.amendChecksAny, hp, Option.isNone_none, Bool.true_or]
    exact firstRefusal_append_of_fail [_, _] _ _ _

theorem exec_amendPig_eq_ask (f : AmendFrame) (s : State) :
    exec (.amendPig f) s = s.ask (s.amendChecksAny f)
      (.clamped (hasSlipPart f && decide (slipInRange f.slip.toNat ≠ f.slip.toNat)) (s.amend f)) :=
  s.ask_congr _ (s.firstRefusal_amendChecksAny f)

theorem State.amendChecks_eq (s : State) (f : AmendFrame) :
    (s.amendChecksAny f).map (fun x => (x.1 = true, x.2)) =
      [(s.lineState = .unconfigured, .notConfigured),
       (f.tag = 0 ∨ f.parts = 0 ∨ 8 ≤ f.parts.toNat ∨ (f.parts.getLsbD 0 = false ∧ f.slip ≠ 0) ∨
          (f.parts.getLsbD 1 = false ∧ f.learning ≠ 0) ∨ (f.parts.getLsbD 2 = false ∧ f.destination ≠ 0) ∨
          1 < f.learning.toNat ∨ (f.parts.getLsbD 2 = true ∧ (f.destination.toNat < 1 ∨ 24 < f.destination.toNat)) ∨
          f.reserved ≠ 0, .badField),
       (s.pig f.tag.toNat = none ∨ (f.parts.getLsbD 2 = true ∧ s.station f.destination.toNat = none), .noSuch),
       (f.parts.getLsbD 2 = true ∧ (s.pig f.tag.toNat).any (fun p => decide (p.state = .trapped)) = true, .wrongState),
       (f.parts.getLsbD 2 = true ∧
          (s.boundStation f.tag.toNat).any (fun k => decide ((s.slotOf k).kind = some .receive)) = true, .seqActive),
       (f.parts.getLsbD 2 = true ∧ ((s.station f.destination.toNat).any Station.hasReceiver = false ∨
          (((s.pig f.tag.toNat).map fun p => if p.state = .staged ∨ p.state = .launchFailed then
            s.stationPos (p.launchStation.getD 0) else p.position).any
              fun x => decide (s.stationPos f.destination.toNat ≤ x)) = true), .badField),
       (f.parts.getLsbD 2 = true ∧ (s.slotOf f.destination.toNat).state ≠ .idle ∧
          (s.slotOf f.destination.toNat).kind = some .receive ∧
          (s.slotOf f.destination.toNat).bound ≠ some f.tag.toNat, .seqActive)] := by
  have hfrom : s.amendFrom = fun p => if p.state = .staged ∨ p.state = .launchFailed then
      s.stationPos (p.launchStation.getD 0) else p.position := funext s.amendFrom_eq
  simp only [State.amendChecksAny, List.map_cons, List.map_nil, s.not_ready_iff, Bool.or_eq_true, Bool.and_eq_true,
    badTag_iff, badAmendment_iff, nonzero_iff, Option.isNone_iff_eq_none, State.pigIs_iff, List.mem_singleton,
    State.beingReceived_iff, State.noReceiver_iff, State.receivesOther, State.seqActive, decide_eq_true_eq,
    hasDestinationPart, or_assoc, and_assoc, hfrom]

theorem amendedPig_eq (f : AmendFrame) (p : Pig) : amendedPig f p =
    { p with slip := if f.parts.getLsbD 0 then min f.slip.toNat 250 else p.slip
             learning := if f.parts.getLsbD 1 then decide (f.learning = 1) else p.learning
             destination := if f.parts.getLsbD 2 then f.destination.toNat else p.destination
             flags := { p.flags with changed := true,
                                     destinationPassed := p.flags.destinationPassed && !f.parts.getLsbD 2 } } := by
  rw [← yes_eq]
  rfl

/-- Settles O36. -/
theorem amendReplacesThePresentParts : Obligations.AmendReplacesThePresentParts := by
  unfold Obligations.AmendReplacesThePresentParts
  intro s f hrise tag e slip learning destination from_
  refine .of_ask (exec_amendPig_eq_ask f s) (s.amendChecks_eq f) fun _ hexec => ?_
  have hclamp : (hasSlipPart f && decide (slipInRange f.slip.toNat ≠ f.slip.toNat)) = true ↔
      slip = true ∧ 250 < f.slip.toNat := by
    rw [Bool.and_eq_true, slipInRange_ne_iff]
    rfl
  have hamended : s.amend f = { s with
      pigs := s.pigs.map fun p => if p.tag = tag then amendedPig f p else p
      stations := s.stations.map fun y => if destination = true ∧ y.slot.barred = some tag then
            { y with slot := { y.slot with barred := none }, changed := true } else y } := by
    unfold State.amend
    by_cases hdest : destination = true
    · have hunbar := State.unbar_eq (s := s.modPig tag (amendedPig f)) hrise.stations tag
      simp only [show hasDestinationPart f = true from hdest, if_true, hdest, true_and]
      exact hunbar
    · refine (if_neg hdest).trans ?_
      refine congrArg (fun l => { s.modPig tag (amendedPig f) with stations := l }) ?_
      exact ((List.map_congr_left fun y _ => if_neg fun h => hdest h.1).trans (List.map_id _)).symm
  simp only [hamended, amendedPig_eq] at hexec
  exact answers_of_clamped hexec hclamp rfl fun st => rfl

end Sys2Proof.Machine
end

section
/-! SUPPORT. RETIRE_PIG (R42, R43): no detector refers to the record, and those it sets free are in their re-arm sets. -/

namespace Sys2Proof.Machine

/-! ### Detectors joining their re-arm sets -/

/-- A detector that joins its re-arm set, or not. -/
def Detector.joinIf (b : Bool) (x : Detector) : Detector := { x with inRearmSet := x.inRearmSet || b }

theorem Detector.joinIf_false (x : Detector) : x.joinIf false = x := by
  simp only [Detector.joinIf, Bool.or_false]

theorem Detector.joinIf_joinIf (b c : Bool) (x : Detector) : (x.joinIf b).joinIf c = x.joinIf (b || c) := by
  simp only [Detector.joinIf, Bool.or_assoc]

theorem Detector.joinIf_num (b : Bool) (x : Detector) : (x.joinIf b).num = x.num := rfl

/-- The detectors have done nothing but join their re-arm sets. -/
def OnlyJoin (s t : State) : Prop :=
  ∃ joined : Nat → Bool, t.detectors = s.detectors.map fun x => x.joinIf (joined x.num)

theorem State.updDetector_detectors (s : State) (n : Nat) (f : Detector → Detector) :
    (s.updDetector n f).detectors = s.detectors.map fun x => if x.num = n then f x else x := by
  unfold State.updDetector
  split
  · rename_i hnone
    refine ((List.map_congr_left fun x hx => ?_).trans (List.map_id _)).symm
    exact if_neg (find?_key_eq_none hnone x hx)
  · rw [State.touchIf_eq]
    rfl

theorem State.detectors_of_join (s : State) (n : Nat) : (s.updDetector n fun y => { y with inRearmSet := true }).detectors =
    s.detectors.map fun x => x.joinIf (decide (x.num = n)) := by
  rw [State.updDetector_detectors]
  refine List.map_congr_left fun x _ => ?_
  by_cases hx : x.num = n
  · simp only [hx, Detector.joinIf, if_true, decide_true, Bool.or_true]
  · simp only [hx, Detector.joinIf_false, if_false, decide_false]

namespace OnlyJoin

theorem of_detectors {s t : State} (h : t.detectors = s.detectors) : OnlyJoin s t :=
  ⟨fun _ => false, by simp only [h, Detector.joinIf_false, List.map_id']⟩

theorem trans {s t u : State} (h : OnlyJoin s t) (g : OnlyJoin t u) : OnlyJoin s u := by
  obtain ⟨b, ht⟩ := h
  obtain ⟨c, hu⟩ := g
  refine ⟨fun n => b n || c n, ?_⟩
  rw [hu, ht, List.map_map]
  exact List.map_congr_left fun x _ => x.joinIf_joinIf ..

theorem updDetector_join (s : State) (n : Nat) : OnlyJoin s (s.updDetector n fun y => { y with inRearmSet := true }) :=
  ⟨fun i => decide (i = n), s.detectors_of_join n⟩

theorem rearmTest (s : State) (d : Nat) : OnlyJoin s (s.rearmTest d) := by
  unfold State.rearmTest
  split
  · exact of_detectors rfl
  · split
    · exact updDetector_join ..
    · exact of_detectors rfl

theorem engineKeeps : EngineKeeps OnlyJoin where
  refl _ := of_detectors rfl
  trans := trans
  reevalValve s v := of_detectors (SitesStand.reevalValve s v).detectors
  rearmTest := rearmTest
  offerStep s k p := of_detectors (SitesStand.offerStep s k p).detectors
  endCommand s v o := of_detectors (SitesStand.endCommand s v o).detectors
  updSlot s k f := of_detectors (SitesStand.updSlot s k f).detectors
  storeClosing _ _ _ := of_detectors rfl
  writeFault _ _ _ _ := of_detectors rfl
  giveUp _ _ _ _ _ := of_detectors rfl
  raise _ _ := of_detectors rfl
  note _ _ := of_detectors rfl

end OnlyJoin

/-! ### Detectors forgetting a record -/

theorem Detector.forget_forget (tag : Nat) (x : Detector) : (x.forget tag).forget tag = x.forget tag := by
  by_cases hawaited : x.awaited = some tag <;> by_cases hmatched : x.lastMatched = some tag <;>
    simp [Detector.forget, hawaited, hmatched]

/-- What a detector of the numbers given has forgotten, and whether it has joined its re-arm set. -/
def Detector.forgotten (tag : Nat) (ns : List Nat) (joined : Nat → Bool) (x : Detector) : Detector :=
  (if x.num ∈ ns then x.forget tag else x).joinIf (joined x.num)

theorem Detector.forget_num (tag : Nat) (x : Detector) : (x.forget tag).num = x.num := rfl

theorem Detector.forgotten_num (tag : Nat) (ns : List Nat) (joined : Nat → Bool) (x : Detector) :
    (x.forgotten tag ns joined).num = x.num := by
  unfold Detector.forgotten
  split <;> rfl

theorem Detector.forgotten_forgotten (tag : Nat) (ns ms : List Nat) (b c : Nat → Bool) (x : Detector) :
    (x.forgotten tag ns b).forgotten tag ms c = x.forgotten tag (ns ++ ms) fun n => b n || c n := by
  have hcommute : ∀ (e : Bool) (y : Detector), (y.joinIf e).forget tag = (y.forget tag).joinIf e := fun _ _ => rfl
  rw [Detector.forgotten, Detector.forgotten_num]
  by_cases hns : x.num ∈ ns <;> by_cases hms : x.num ∈ ms <;>
    simp only [Detector.forgotten, List.mem_append, hns, hms, or_self, or_true, true_or, if_true, if_false, hcommute,
      Detector.forget_forget, Detector.joinIf_joinIf]

theorem Detector.forgotten_inRearmSet (tag : Nat) (ns : List Nat) (joined : Nat → Bool) (x : Detector) :
    (x.forgotten tag ns joined).inRearmSet = (x.inRearmSet || joined x.num) := by
  unfold Detector.forgotten
  split <;> rfl

theorem Detector.forgotten_latching (tag : Nat) (ns : List Nat) (joined : Nat → Bool) (x : Detector) :
    (x.forgotten tag ns joined).latching = x.latching ∧ (x.forgotten tag ns joined).state = x.state := by
  unfold Detector.forgotten
  split <;> exact ⟨rfl, rfl⟩

theorem Detector.forget_forgotten_awaited (tag : Nat) (ns : List Nat) (joined : Nat → Bool) (x : Detector) :
    ((x.forgotten tag ns joined).forget tag).awaited = (x.forget tag).awaited := by
  unfold Detector.forgotten
  split
  · exact (congrArg Detector.awaited (x.forget_forget tag) : ((x.forget tag).forget tag).awaited = _)
  · rfl

/-- A latching detector that stands TRIPPED and then awaits no record is in its re-arm set. -/
def Detector.FreedJoins (tag : Nat) (ns : List Nat) (joined : Nat → Bool) (x : Detector) : Prop :=
  x.num ∈ ns → x.latching = true → x.state = .tripped → (x.forget tag).awaited = none →
    (x.forgotten tag ns joined).inRearmSet = true

/-- One detector forgets the record, and joins its re-arm set where it is then free (R97). -/
theorem State.forgetAt_detectors {s : State} (hrise : Rising (s.detectors.map Detector.num)) (tag : Nat) (d : Detector) :
    ∃ joined : Nat → Bool, (State.forgetAt tag s d).detectors = s.detectors.map (Detector.forgotten tag [d.num] joined) ∧
      ∀ x ∈ s.detectors, x.FreedJoins tag [d.num] joined := by
  have hforgot := s.updDetector_detectors d.num (Detector.forget tag)
  unfold State.forgetAt
  generalize s.updDetector d.num (Detector.forget tag) = u at hforgot
  have hnums : u.detectors.map Detector.num = s.detectors.map Detector.num := by
    rw [hforgot]
    exact map_mod_of_same Detector.num d.num _ Detector.num (fun x _ => x.forget_num tag) _
  have hfound : ∀ x ∈ s.detectors, x.num = d.num → u.detector d.num = some (x.forget tag) := fun x hx hnum => by
    have hmem : x.forget tag ∈ u.detectors := by
      rw [hforgot]
      exact List.mem_map.2 ⟨x, hx, if_pos hnum⟩
    exact hnum ▸ find?_of_rising Detector.num _ (hnums ▸ hrise) _ hmem
  have hone : ∀ (joined : Nat → Bool) (x : Detector),
      x.forgotten tag [d.num] joined = (if x.num = d.num then x.forget tag else x).joinIf (joined x.num) := fun joined x => by
    simp only [Detector.forgotten, List.mem_singleton]
  by_cases hjoins : ∃ y, u.detector d.num = some y ∧ y.latching = true ∧ y.state = .tripped ∧ y.inRearmSet = false ∧
      u.rearmDue y = true
  · obtain ⟨y, hy, hdue⟩ := hjoins
    refine ⟨fun i => decide (i = d.num), ?_, fun x _ hx _ _ _ => ?_⟩
    · simp only [State.rearmTest, hy, if_pos hdue, State.updDetector_detectors, hforgot, List.map_map]
      refine List.map_congr_left fun x _ => ?_
      rw [hone, Function.comp_apply]
      by_cases hnum : x.num = d.num
      · simp only [if_pos hnum, Detector.forget_num, Detector.joinIf, decide_eq_true hnum, Bool.or_true]
      · simp only [if_neg hnum, decide_eq_false hnum, Detector.joinIf_false]
    · rw [hone]
      simp [Detector.joinIf, List.mem_singleton.1 hx]
  · refine ⟨fun _ => false, ?_, fun x hmem hx hlatching htripped hfree => ?_⟩
    · have hsame : u.rearmTest d.num = u := by
        unfold State.rearmTest
        split
        · rfl
        · rename_i y hy
          exact if_neg fun hdue => hjoins ⟨y, hy, hdue⟩
      rw [hsame, hforgot]
      exact List.map_congr_left fun x _ => by rw [hone, Detector.joinIf_false]
    · have hnum := List.mem_singleton.1 hx
      rw [hone, if_pos hnum, Detector.joinIf_false]
      by_contra hout
      exact hjoins ⟨_, hfound x hmem hnum, hlatching, htripped, Bool.eq_false_iff.2 hout, State.rearmDue_of_free hfree⟩

/-- One detector after another forgets the record. -/
theorem State.foldl_forgetAt_detectors (tag : Nat) (l : List Detector) {s : State}
    (hrise : Rising (s.detectors.map Detector.num)) :
    ∃ joined : Nat → Bool, (l.foldl (State.forgetAt tag) s).detectors =
        s.detectors.map (Detector.forgotten tag (l.map Detector.num) joined) ∧
      ∀ x ∈ s.detectors, x.FreedJoins tag (l.map Detector.num) joined := by
  induction l generalizing s with
  | nil =>
    refine ⟨fun _ => false, ?_, fun x _ hx => (List.not_mem_nil hx).elim⟩
    exact ((List.map_congr_left fun x _ => x.joinIf_false).trans (List.map_id _)).symm
  | cons d l ih =>
    obtain ⟨first, hfirst, hfreed⟩ := State.forgetAt_detectors hrise tag d
    have hnums : (State.forgetAt tag s d).detectors.map Detector.num = s.detectors.map Detector.num := by
      rw [hfirst, List.map_map]
      exact List.map_congr_left fun x _ => x.forgotten_num ..
    obtain ⟨later, hlater, hfreed'⟩ := ih (hnums ▸ hrise)
    refine ⟨fun n => first n || later n, ?_, fun x hx hin hlatching htripped hfree => ?_⟩
    · rw [List.foldl_cons, hlater, hfirst, List.map_map]
      exact List.map_congr_left fun x _ => x.forgotten_forgotten ..
    · have hboth := x.forgotten_forgotten tag [d.num] (l.map Detector.num) first later
      rw [List.map_cons, ← List.singleton_append, ← hboth]
      obtain hnum | hlater' := List.mem_cons.1 hin
      · rw [Detector.forgotten_inRearmSet, hfreed x hx (List.mem_singleton.2 hnum) hlatching htripped hfree, Bool.true_or]
      · have hmem : x.forgotten tag [d.num] first ∈ (State.forgetAt tag s d).detectors := hfirst ▸ List.mem_map_of_mem hx
        obtain ⟨hl, hs⟩ := x.forgotten_latching tag [d.num] first
        exact hfreed' _ hmem (by rwa [Detector.forgotten_num]) (hl.trans hlatching) (hs.trans htripped)
          ((x.forget_forgotten_awaited ..).trans hfree)

/-! ### RETIRE_PIG -/

/-- The state in which every detector has forgotten the record (R43). -/
def State.forgottenBy (s : State) (tag : Nat) : State := s.detectors.foldl (State.forgetAt tag) (s.dropPig tag)

/-- The receiver of a trapped record emptied (R43). -/
def State.receiverEmptied (s : State) (tag : Nat) : State :=
  if s.pigIs tag [.trapped] then (s.forgottenBy tag).emptyReceiver (((s.pig tag).map Pig.destination).getD 0)
  else s.forgottenBy tag

theorem State.retire_eq (s : State) (tag : Nat) :
    s.retire tag = (((s.receiverEmptied tag).unbar tag).reevalAll).examineAll := by
  unfold State.retire State.receiverEmptied State.pigIs
  cases s.pig tag with
  | none => rfl
  | some p => simp [State.forgottenBy]

theorem EngineKeeps.unbar {R : State → State → Prop} (h : EngineKeeps R) (s : State) (tag : Nat) : R s (s.unbar tag) :=
  h.foldl _ (fun _ _ => h.updSlot ..) _ s

/-- What follows the emptying of the receiver. -/
theorem EngineKeeps.unbarred {R : State → State → Prop} (h : EngineKeeps R) (s : State) (tag : Nat) :
    R (s.receiverEmptied tag) (s.retire tag) := by
  rw [State.retire_eq]
  exact h.trans (h.trans (h.unbar ..) (h.reevalAll _)) (h.examineAll _)

/-- And what precedes it, for a relation that lets a detector's record be written. -/
theorem EngineKeeps.retired {R : State → State → Prop} (h : EngineKeeps R)
    (hdetector : ∀ s n f, R s (s.updDetector n f)) (s : State) (tag : Nat) : R (s.dropPig tag) (s.retire tag) := by
  refine h.trans ?_ (h.unbarred s tag)
  have hforgot : R (s.dropPig tag) (s.forgottenBy tag) :=
    h.foldl _ (fun s d => h.trans (hdetector ..) (h.rearmTest ..)) _ _
  unfold State.receiverEmptied
  split
  · refine h.trans hforgot ?_
    unfold State.emptyReceiver
    split
    · exact h.refl _
    · split
      · exact hdetector ..
      · exact h.refl _
  · exact hforgot

theorem Detector.forgotten_kind (tag : Nat) (ns : List Nat) (joined : Nat → Bool) (x : Detector) :
    (x.forgotten tag ns joined).station = x.station ∧ (x.forgotten tag ns joined).kind = x.kind := by
  unfold Detector.forgotten
  split <;> exact ⟨rfl, rfl⟩

/-- What the emptied receiver does to the detectors (R43). -/
theorem State.receiverEmptied_joins {s : State} {tag : Nat} {first : Nat → Bool} {ns : List Nat}
    (hfirst : (s.forgottenBy tag).detectors = s.detectors.map (Detector.forgotten tag ns first)) :
    ∃ joined : Nat → Bool,
      (s.receiverEmptied tag).detectors = (s.forgottenBy tag).detectors.map (fun x => x.joinIf (joined x.num)) ∧
      (s.pigIs tag [.trapped] = true → ∀ d,
        s.kindDetector (((s.pig tag).map Pig.destination).getD 0) .trapArrival = some d → d.latching = true →
        d.state = .tripped → joined d.num = true) := by
  have hnone : (s.forgottenBy tag).detectors = (s.forgottenBy tag).detectors.map fun x => x.joinIf false :=
    ((List.map_congr_left fun x _ => x.joinIf_false).trans (List.map_id _)).symm
  unfold State.receiverEmptied
  split
  · have hkind : (s.forgottenBy tag).kindDetector (((s.pig tag).map Pig.destination).getD 0) .trapArrival =
        (s.kindDetector (((s.pig tag).map Pig.destination).getD 0) .trapArrival).map (Detector.forgotten tag ns first) := by
      unfold State.kindDetector
      rw [hfirst, List.find?_map]
      congr 1
      refine congrArg (fun q => List.find? q s.detectors) (funext fun x => ?_)
      obtain ⟨hstation, hkind⟩ := x.forgotten_kind tag ns first
      simp only [Function.comp_apply, hstation, hkind]
    unfold State.emptyReceiver
    rw [hkind]
    cases s.kindDetector (((s.pig tag).map Pig.destination).getD 0) .trapArrival with
    | none => exact ⟨fun _ => false, hnone, fun _ d hd => by cases hd⟩
    | some d =>
      obtain ⟨hlatching, hstate⟩ := d.forgotten_latching tag ns first
      simp only [Option.map_some, hlatching, hstate, Detector.forgotten_num]
      split
      · exact ⟨fun i => decide (i = d.num), State.detectors_of_join .., fun _ e he _ _ => by cases he; exact decide_eq_true rfl⟩
      · rename_i hno
        exact ⟨fun _ => false, hnone, fun _ e he hl ht => by cases he; exact absurd ⟨hl, ht⟩ hno⟩
  · rename_i hno
    exact ⟨fun _ => false, hnone, fun h => absurd h hno⟩

/-- After the retirement each detector has forgotten the record, and those it sets free have joined. -/
theorem State.retire_detectors {s : State} (hrise : TablesRise s) (tag : Nat) :
    ∃ joined : Nat → Bool,
      (s.retire tag).detectors = s.detectors.map (Detector.forgotten tag (s.detectors.map Detector.num) joined) ∧
      (∀ x ∈ s.detectors, x.FreedJoins tag (s.detectors.map Detector.num) joined) ∧
      (s.pigIs tag [.trapped] = true → ∀ d,
        s.kindDetector (((s.pig tag).map Pig.destination).getD 0) .trapArrival = some d → d.latching = true →
        d.state = .tripped → (d.forgotten tag (s.detectors.map Detector.num) joined).inRearmSet = true) := by
  obtain ⟨first, hfirst, hfreed⟩ := State.foldl_forgetAt_detectors tag s.detectors (s := s.dropPig tag) hrise.detectors
  change (s.forgottenBy tag).detectors = s.detectors.map _ at hfirst
  obtain ⟨middle, hmiddle, harrival⟩ := State.receiverEmptied_joins hfirst
  obtain ⟨last, hlast⟩ := OnlyJoin.engineKeeps.unbarred s tag
  refine ⟨fun n => first n || middle n || last n, ?_, fun x hx hin hlatching htripped hfree => ?_,
    fun htrapped d hd hlatching htripped => ?_⟩
  · rw [hlast, hmiddle, hfirst, List.map_map, List.map_map]
    refine List.map_congr_left fun x _ => ?_
    simp only [Function.comp_apply, Detector.joinIf_num, Detector.forgotten_num]
    simp only [Detector.forgotten, Detector.joinIf_joinIf, Bool.or_assoc]
  · have := hfreed x hx hin hlatching htripped hfree
    rw [Detector.forgotten_inRearmSet] at this ⊢
    rw [Bool.or_assoc, ← Bool.or_assoc, this, Bool.true_or]
  · rw [Detector.forgotten_inRearmSet, harrival htrapped d hd hlatching htripped]
    simp only [Bool.or_true, Bool.true_or]

theorem State.retireChecks_eq (s : State) (tag : BitVec 16) (r : Byte) :
    (s.retireChecks tag r).map (fun x => (x.1 = true, x.2)) =
      [(s.lineState = .unconfigured, .notConfigured),
       (tag = 0 ∨ r ≠ 0, .badField),
       (s.pig tag.toNat = none, .noSuch),
       ((s.pig tag.toNat).any (fun p => decide (p.state ∈ [.staged])) = true, .seqActive),
       ((s.pig tag.toNat).any (fun p => decide (p.state ∈ [.inLine, .unconfirmed])) = true, .wrongState),
       ((s.pig tag.toNat).any (fun p => decide (p.state ∈ [.trapped, .lost])) = true ∧ s.boundStation tag.toNat ≠ none,
          .seqActive)] := by
  simp only [State.retireChecks, List.map_cons, List.map_nil, s.not_ready_iff, Bool.or_eq_true, Bool.and_eq_true, badTag_iff,
    nonzero_iff, Option.isNone_iff_eq_none, State.pigIs_iff, Option.isSome_iff_ne_none]

theorem Runs.retired (s : State) (tag : Nat) : Runs (s.dropPig tag) (s.retire tag) := by
  have hforgot : Runs (s.dropPig tag) (s.forgottenBy tag) := Runs.foldl _ (Acts.forgetAt tag) _ _
  rw [State.retire_eq]
  refine .trans (.trans (.trans ?_ (.unbar ..)) (.reevalAll _)) (.examineAll _)
  unfold State.receiverEmptied
  split
  · exact hforgot.trans (Acts.emptyReceiver ..)
  · exact hforgot

theorem State.pig_dropPig_self (s : State) (t : Nat) : (s.dropPig t).pig t = none := by
  refine List.find?_eq_none.2 fun p hp => ?_
  simpa using (List.mem_filter.1 hp).2

/-- Settles O39. -/
theorem retiredPigIsForgotten : Obligations.RetiredPigIsForgotten := by
  unfold Obligations.RetiredPigIsForgotten
  intro s tag r hrise u stateIn
  refine .of_ask (t := .ok _) rfl (s.retireChecks_eq tag r) fun hpass hexec p hp => ?_
  have hreaches : Reaches (s.dropPig u) (s.retire u) := engineKeeps_reaches.retired Reaches.updDetector s u
  have hplaces : RecordsKeepPlace (s.dropPig u) (s.retire u) :=
    RecordsKeepPlace.engineKeeps.retired RecordsKeepPlace.updDetector s u
  have hspreads : Spreads s (s.retire u) := Spreads.trans (by exact rfl) hreaches.spreads
  obtain ⟨joined, hdetectors, hfreed, harrival⟩ := State.retire_detectors hrise u
  have hfind : ∀ d ∈ s.detectors, (s.retire u).detector d.num =
      some (d.forgotten u (s.detectors.map Detector.num) joined) := fun d hd => by
    have hmem : d.forgotten u (s.detectors.map Detector.num) joined ∈ (s.retire u).detectors :=
      hdetectors ▸ List.mem_map_of_mem hd
    have hnums : (s.retire u).detectors.map Detector.num = s.detectors.map Detector.num := by
      rw [hdetectors, List.map_map]
      exact List.map_congr_left fun x _ => x.forgotten_num ..
    exact Detector.forgotten_num u _ joined d ▸ find?_of_rising Detector.num _ (hnums ▸ hrise.detectors) _ hmem
  refine answers_of_respond _ s (s.retire u) _ _ _ hexec (ClockAndPortStand.spreads hspreads).2
    ⟨?_, ?_, fun d hd => ?_, fun d hd hlatching htripped hawaited => ?_, fun htrapped d hd hlatching htripped => ?_,
      fun horder h => h.acts (Acts.of_exec _ hexec) hrise horder, hplaces.train, hreaches.revision, fun w hw => ?_,
      .respond hspreads.besides _ _⟩
  · have hnone := hplaces.records u
    rw [s.pig_dropPig_self] at hnone
    rw [State.respond_pig]
    generalize (s.retire u).pig u = o at hnone
    cases hnone
    rfl
  · refine ((SameLine.of_runs (Runs.retired s u)).tags).trans ?_
    rw [State.dropPig, List.filter_map]
    rfl
  · rw [State.respond_detectors, hdetectors] at hd
    obtain ⟨x, hx, rfl⟩ := List.mem_map.1 hd
    rw [Detector.forgotten, if_pos (List.mem_map_of_mem hx)]
    constructor <;> simp only [Detector.joinIf, Detector.forget] <;> split <;> simp [*]
  · refine (congrArg (Option.any Detector.inRearmSet) (hfind d hd)).trans ?_
    exact hfreed d hd (List.mem_map_of_mem hd) hlatching htripped (if_pos hawaited)
  · have harrived := harrival (by simp [State.pigIs_of_some hp, htrapped]) d (by simpa [hp] using hd) hlatching htripped
    exact (congrArg (Option.any Detector.inRearmSet) (hfind d (List.mem_of_find?_eq_some hd))).trans harrived
  · rw [State.respond_pigPos, hplaces.pigPos, State.pigPos, s.pig_dropPig_ne hw]
    rfl

end Sys2Proof.Machine
end

section
/-! SUPPORT. COMMIT_LINE (R14 to R16): the first failing item of the seven checks, and the mainline detector index. -/

namespace Sys2Proof.Machine

/-! ### The least item a check fails on -/

/-- An answer that is the least number of a kind, or none where there is none. -/
def LeastOf (o : Option Nat) (P : Nat → Prop) : Prop :=
  (∀ i, o = some i → P i ∧ ∀ j, P j → i ≤ j) ∧ (o = none → ∀ j, ¬ P j)

theorem LeastOf.congr {o : Option Nat} {P Q : Nat → Prop} (h : LeastOf o P) (hPQ : ∀ i, P i ↔ Q i) : LeastOf o Q := by
  obtain rfl : P = Q := funext fun i => propext (hPQ i)
  exact h

/-- In a table of rising numbers the first item of a kind has the least number. -/
theorem leastOf_find? {α : Type} (key : α → Nat) {l : List α} (hrise : Rising (l.map key)) (q : α → Bool) :
    LeastOf ((l.find? q).map key) fun i => ∃ x ∈ l, q x = true ∧ i = key x := by
  refine ⟨fun i hi => ?_, fun hnone j => ?_⟩
  · obtain ⟨x, hx, rfl⟩ := Option.map_eq_some_iff.1 hi
    refine ⟨⟨x, List.mem_of_find?_eq_some hx, List.find?_some hx, rfl⟩, ?_⟩
    rintro j ⟨y, hy, hq, rfl⟩
    obtain ⟨-, before, after, rfl, hbefore⟩ := List.find?_eq_some_iff_append.1 hx
    obtain hy | hy := List.mem_append.1 hy
    · exact absurd hq (by simpa using hbefore y hy)
    · obtain rfl | hy := List.mem_cons.1 hy
      · exact Nat.le_refl _
      · rw [List.map_append, List.map_cons] at hrise
        exact Nat.le_of_lt ((List.pairwise_cons.1 (List.pairwise_append.1 hrise).2.1).1 _ (List.mem_map_of_mem hy))
  · rintro ⟨x, hx, hq, -⟩
    exact List.find?_eq_none.1 (Option.map_eq_none_iff.1 hnone) x hx hq

/-- The first station that does not stand beyond the one before it has the least number of those. -/
theorem leastOf_firstNotRising {l : List Station} (hrise : Rising (l.map Station.num)) :
    LeastOf (firstNotRising l) fun i => ∃ p ∈ l.zip l.tail, p.2.position ≤ p.1.position ∧ i = p.2.num := by
  induction l with
  | nil => exact ⟨fun i hi => (by cases hi), fun _ j ⟨p, hp, _⟩ => (by cases hp)⟩
  | cons a l ih =>
    cases l with
    | nil => exact ⟨fun i hi => (by cases hi), fun _ j ⟨p, hp, _⟩ => (by cases hp)⟩
    | cons b l =>
      obtain ⟨hfound, hnone⟩ := ih (List.pairwise_cons.1 hrise).2
      have hbeyond : ∀ p ∈ (b :: l).zip l, b.num ≤ p.2.num := fun p hp => by
        have hmem : p.2 ∈ l := (List.of_mem_zip hp).2
        exact Nat.le_of_lt ((List.pairwise_cons.1 (List.pairwise_cons.1 hrise).2).1 _ (List.mem_map_of_mem hmem))
      simp only [firstNotRising, List.tail_cons, List.zip_cons_cons, List.mem_cons]
      split
      · rename_i hle
        refine ⟨fun i hi => ?_, fun h => by cases h⟩
        cases hi
        refine ⟨⟨(a, b), .inl rfl, hle, rfl⟩, ?_⟩
        rintro j ⟨p, rfl | hp, -, rfl⟩
        · exact Nat.le_refl _
        · exact hbeyond p hp
      · rename_i hgt
        refine ⟨fun i hi => ?_, fun hno j => ?_⟩
        · obtain ⟨⟨p, hp, hle, rfl⟩, hleast⟩ := hfound i hi
          refine ⟨⟨p, .inr hp, hle, rfl⟩, ?_⟩
          rintro j ⟨q, rfl | hq, hqle, rfl⟩
          · exact absurd hqle hgt
          · exact hleast _ ⟨q, hq, hqle, rfl⟩
        · rintro ⟨q, rfl | hq, hqle, rfl⟩
          · exact hgt hqle
          · exact hnone hno _ ⟨q, hq, hqle, rfl⟩

/-- The first of several checks in rising number that fails, with its least item: no other check fails on an item before. -/
theorem findSome?_least {items : List (Nat × Option Nat)} {fails : Nat → Nat → Prop} (hrise : Rising (items.map Prod.fst))
    (hleast : ∀ x ∈ items, LeastOf x.2 (fails x.1)) :
    (∀ c i, (items.findSome? fun x => x.2.map fun i => (x.1, i)) = some (c, i) → fails c i ∧
      ∀ c' i', c' ∈ items.map Prod.fst → fails c' i' → c < c' ∨ (c = c' ∧ i ≤ i')) ∧
    ((items.findSome? fun x => x.2.map fun i => (x.1, i)) = none → ∀ c' i', c' ∈ items.map Prod.fst → ¬ fails c' i') := by
  induction items with
  | nil => exact ⟨fun _ _ h => (by cases h), fun _ _ _ h => (by cases h)⟩
  | cons x items ih =>
    obtain ⟨hx, hitems⟩ := List.forall_mem_cons.1 hleast
    obtain ⟨hfirst, hrise'⟩ := List.pairwise_cons.1 hrise
    obtain ⟨hfound, hnone⟩ := ih hrise' hitems
    rw [List.findSome?_cons]
    cases ho : x.2 with
    | some j =>
      obtain ⟨hj, hjleast⟩ := hx.1 j ho
      refine ⟨fun c i h => ?_, fun h => by cases h⟩
      cases h
      refine ⟨hj, fun c' i' hc' hf => ?_⟩
      obtain rfl | hc' := List.mem_cons.1 hc'
      · exact .inr ⟨rfl, hjleast i' hf⟩
      · exact .inl (hfirst c' hc')
    | none =>
      have hout := hx.2 ho
      refine ⟨fun c i h => ?_, fun h c' i' hc' hf => ?_⟩
      · obtain ⟨hc, hbefore⟩ := hfound c i h
        refine ⟨hc, fun c' i' hc' hf => ?_⟩
        obtain rfl | hc' := List.mem_cons.1 hc'
        · exact absurd hf (hout i')
        · exact hbefore c' i' hc' hf
      · obtain rfl | hc' := List.mem_cons.1 hc'
        · exact hout i' hf
        · exact hnone h c' i' hc' hf

/-! ### The mainline detector index -/

theorem perm_insertByKey {α : Type} (key : α → Nat) (a : α) (l : List α) : (insertByKey key a l).Perm (a :: l) := by
  induction l with
  | nil => exact .refl _
  | cons b l ih =>
    unfold insertByKey
    split
    · exact .refl _
    · exact (ih.cons b).trans (.swap a b l)

theorem sorted_insertByKey {α : Type} (key : α → Nat) (a : α) {l : List α}
    (h : l.Pairwise fun x y => key x ≤ key y) : (insertByKey key a l).Pairwise fun x y => key x ≤ key y := by
  induction l with
  | nil => exact List.pairwise_singleton _ _
  | cons b l ih =>
    obtain ⟨hb, hl⟩ := List.pairwise_cons.1 h
    unfold insertByKey
    split
    · rename_i hab
      refine List.pairwise_cons.2 ⟨fun y hy => ?_, h⟩
      obtain rfl | hy := List.mem_cons.1 hy
      · exact hab
      · exact Nat.le_trans hab (hb y hy)
    · rename_i hab
      refine List.pairwise_cons.2 ⟨fun y hy => ?_, ih hl⟩
      obtain rfl | hy := List.mem_cons.1 ((perm_insertByKey key a l).mem_iff.1 hy)
      · exact Nat.le_of_lt (Nat.not_le.1 hab)
      · exact hb y hy

/-- Items put in one after another stand in rising key, each once. -/
theorem foldl_insertByKey {α : Type} (key : α → Nat) (l : List α) {m : List α} (hm : m.Pairwise fun x y => key x ≤ key y) :
    (l.foldl (fun m a => insertByKey key a m) m).Perm (l ++ m) ∧
      (l.foldl (fun m a => insertByKey key a m) m).Pairwise fun x y => key x ≤ key y := by
  induction l generalizing m with
  | nil => exact ⟨.refl _, hm⟩
  | cons a l ih =>
    obtain ⟨hperm, hsorted⟩ := ih (sorted_insertByKey key a hm)
    exact ⟨hperm.trans (((perm_insertByKey key a m).append_left l).trans List.perm_middle), hsorted⟩

/-! ### COMMIT_LINE -/

/-- No valve of a station has a role. -/
def State.noValve (s : State) (x : Station) (r : Role) : Prop := ∀ v ∈ s.valves, v.station = x.num → v.role ≠ r

/-- No detector of a station is of a kind. -/
def State.noDetector (s : State) (x : Station) (c : DetectorKind) : Prop :=
  ∀ d ∈ s.detectors, d.station = x.num → d.kind ≠ c

/-- An item fails one of the seven checks of R14's table. -/
def State.CommitFails (s : State) (check item : Nat) : Prop :=
  (check = 1 ∧ s.stations.length < 2 ∧ item = s.stations.length) ∨
  (check = 2 ∧ ∃ p ∈ s.stations.zip s.stations.tail, p.2.position ≤ p.1.position ∧ item = p.2.num) ∨
  (check = 3 ∧ ∃ d ∈ s.detectors, d.kind = .mainline ∧ item = d.num ∧
    (d.position < s.lineStart ∨ s.lineEnd < d.position ∨
      ∃ e ∈ s.detectors, e.kind = .mainline ∧ e.num < d.num ∧ e.position = d.position)) ∨
  (check = 4 ∧ ∃ x ∈ s.stations.dropLast, x.segmentMeter = none ∧ item = x.num) ∨
  (check = 5 ∧ ∃ x ∈ s.stations, x.hasLauncher = true ∧ item = x.num ∧
    (s.noValve x .launchOutlet ∨ s.noValve x .launchKicker ∨ s.noValve x .mainline ∨ s.noDetector x .launchExit)) ∨
  (check = 6 ∧ ∃ x ∈ s.stations, x.hasReceiver = true ∧ item = x.num ∧
    (s.noValve x .receiveInlet ∨ s.noValve x .mainline ∨ s.noDetector x .trapArrival)) ∨
  (check = 7 ∧ ∃ v ∈ s.valves, v.role = .mainline ∧ item = v.num ∧
    (v.position < s.lineStart ∨ s.lineEnd < v.position))

theorem State.roleValve_isNone_iff (s : State) (x : Station) (r : Role) :
    (s.roleValve x.num r).isNone = true ↔ s.noValve x r := by
  simp only [State.roleValve, Option.isNone_iff_eq_none, List.find?_eq_none, State.noValve, Bool.and_eq_true, beq_iff_eq,
    not_and, ne_eq]

theorem State.kindDetector_isNone_iff (s : State) (x : Station) (c : DetectorKind) :
    (s.kindDetector x.num c).isNone = true ↔ s.noDetector x c := by
  simp only [State.kindDetector, Option.isNone_iff_eq_none, List.find?_eq_none, State.noDetector, Bool.and_eq_true,
    beq_iff_eq, not_and, ne_eq]

theorem State.lacksLauncher_iff (s : State) (x : Station) : s.lacksLauncher x = true ↔ x.hasLauncher = true ∧
    (s.noValve x .launchOutlet ∨ s.noValve x .launchKicker ∨ s.noValve x .mainline ∨ s.noDetector x .launchExit) := by
  simp only [State.lacksLauncher, Bool.and_eq_true, Bool.or_eq_true, State.roleValve_isNone_iff,
    State.kindDetector_isNone_iff, or_assoc]

theorem State.lacksReceiver_iff (s : State) (x : Station) : s.lacksReceiver x = true ↔ x.hasReceiver = true ∧
    (s.noValve x .receiveInlet ∨ s.noValve x .mainline ∨ s.noDetector x .trapArrival) := by
  simp only [State.lacksReceiver, Bool.and_eq_true, Bool.or_eq_true, State.roleValve_isNone_iff,
    State.kindDetector_isNone_iff, or_assoc]

theorem State.mem_mainlineDetectors {s : State} {d : Detector} :
    d ∈ s.mainlineDetectors ↔ d ∈ s.detectors ∧ d.kind = .mainline := by
  simp only [State.mainlineDetectors, List.mem_filter, beq_iff_eq]

theorem State.misplaced_iff (s : State) (d : Detector) : s.misplaced d = true ↔
    d.position < s.lineStart ∨ s.lineEnd < d.position ∨
      ∃ e ∈ s.detectors, e.kind = .mainline ∧ e.num < d.num ∧ e.position = d.position := by
  simp only [State.misplaced, Bool.or_eq_true, decide_eq_true_eq, List.any_eq_true, Bool.and_eq_true,
    State.mem_mainlineDetectors, or_assoc, and_assoc]

theorem State.valveOutside_iff (s : State) (v : Valve) : s.valveOutside v = true ↔
    v.role = .mainline ∧ (v.position < s.lineStart ∨ s.lineEnd < v.position) := by
  simp only [State.valveOutside, Bool.and_eq_true, Bool.or_eq_true, decide_eq_true_eq]

/-- Each of the seven checks is asked of the least item it fails on. -/
theorem State.commitItems_least {s : State} (hrise : TablesRise s) :
    ∀ x ∈ s.commitItems, LeastOf x.2 (s.CommitFails x.1) := by
  have hmainline : Rising (s.mainlineDetectors.map Detector.num) := hrise.detectors.sublist (List.filter_sublist.map _)
  have hfront : Rising (s.stations.dropLast.map Station.num) := hrise.stations.sublist ((List.dropLast_sublist _).map _)
  simp only [State.commitItems, List.forall_mem_cons, List.not_mem_nil, false_imp_iff, implies_true, and_true]
  refine ⟨?_, ?_, ?_, ?_, ?_, ?_, ?_⟩
  · refine LeastOf.congr (P := fun i => s.stations.length < 2 ∧ i = s.stations.length) ?_ fun i => ?_
    · by_cases hfew : s.stations.length < 2
      · rw [if_pos hfew]
        exact ⟨fun i hi => by cases hi; exact ⟨⟨hfew, rfl⟩, fun j hj => Nat.le_of_eq hj.2.symm⟩, fun h => by cases h⟩
      · rw [if_neg hfew]
        exact ⟨fun i hi => (by cases hi), fun _ j hj => hfew hj.1⟩
    · simp [State.CommitFails]
  · refine (leastOf_firstNotRising hrise.stations).congr fun i => ?_
    simp [State.CommitFails]
  · refine (leastOf_find? Detector.num hmainline _).congr fun i => ?_
    simp [State.CommitFails, State.mem_mainlineDetectors, State.misplaced_iff, and_assoc, and_comm, and_left_comm]
  · refine (leastOf_find? Station.num hfront _).congr fun i => ?_
    simp [State.CommitFails]
  · refine (leastOf_find? Station.num hrise.stations _).congr fun i => ?_
    simp [State.CommitFails, State.lacksLauncher_iff, and_assoc, and_comm, and_left_comm]
  · refine (leastOf_find? Station.num hrise.stations _).congr fun i => ?_
    simp [State.CommitFails, State.lacksReceiver_iff, and_assoc, and_comm, and_left_comm]
  · refine (leastOf_find? Valve.num hrise.valves _).congr fun i => ?_
    simp [State.CommitFails, State.valveOutside_iff, and_assoc, and_comm, and_left_comm]

/-- The check and item COMMIT_LINE fails on: those no other failing item comes before. -/
theorem State.commitFailure_of_first {s : State} (hrise : TablesRise s) {c i : Nat} (hfails : s.CommitFails c i)
    (hfirst : ∀ c' i', s.CommitFails c' i' → c < c' ∨ (c = c' ∧ i ≤ i')) : s.commitFailure = some (c, i) := by
  have hchecks : ∀ c' i', s.CommitFails c' i' → c' ∈ s.commitItems.map Prod.fst := fun c' i' h => by
    simp only [State.commitItems, List.map_cons, List.map_nil, List.mem_cons, List.not_mem_nil, or_false]
    unfold State.CommitFails at h
    omega
  obtain ⟨hsome, hnone⟩ := findSome?_least (items := s.commitItems) (by simp [State.commitItems, Rising])
    (State.commitItems_least hrise)
  cases hfound : s.commitFailure with
  | none => exact absurd hfails (hnone hfound c i (hchecks c i hfails))
  | some x =>
    obtain ⟨hx, hleast⟩ := hsome x.1 x.2 hfound
    have := hfirst x.1 x.2 hx
    have := hleast c i (hchecks c i hfails) hfails
    exact congrArg some (Prod.ext (by omega) (by omega))

theorem State.commitFailure_of_none {s : State} (hrise : TablesRise s) (hnone : ∀ c i, ¬ s.CommitFails c i) :
    s.commitFailure = none := by
  obtain ⟨hsome, -⟩ := findSome?_least (items := s.commitItems) (by simp [State.commitItems, Rising])
    (State.commitItems_least hrise)
  cases hfound : s.commitFailure with
  | none => rfl
  | some x => exact absurd (hsome x.1 x.2 hfound).1 (hnone x.1 x.2)

/-- The index holds the MAINLINE detectors, once each, in rising position (R15); no two stand level where check 3 passes. -/
theorem State.newIndex_indexes {s : State} (hrise : TablesRise s) (hnone : ∀ c i, ¬ s.CommitFails c i) :
    s.newIndex.Perm (s.mainlineDetectors.map Detector.num) ∧ s.newIndex.Pairwise fun a b =>
      ((s.detector a).map Detector.position).getD 0 < ((s.detector b).map Detector.position).getD 0 := by
  obtain ⟨hperm, hsorted⟩ := foldl_insertByKey Detector.position s.mainlineDetectors (m := []) List.Pairwise.nil
  rw [List.append_nil] at hperm
  have hmainline : s.mainlineDetectors.Pairwise fun d e => d.position ≠ e.position := by
    have hnums : s.mainlineDetectors.Pairwise fun d e => d.num < e.num :=
      List.pairwise_map.1 (hrise.detectors.sublist (List.filter_sublist.map _))
    refine hnums.imp_of_mem fun {d e} hd he hlt hlevel => hnone 3 e.num ?_
    obtain ⟨hd, hdkind⟩ := State.mem_mainlineDetectors.1 hd
    obtain ⟨he, hekind⟩ := State.mem_mainlineDetectors.1 he
    exact .inr (.inr (.inl ⟨rfl, e, he, hekind, rfl, .inr (.inr ⟨d, hd, hdkind, hlt, hlevel⟩)⟩))
  have hlookup : ∀ d ∈ s.mainlineDetectors, s.detector d.num = some d := fun d hd =>
    hrise.detector_of_mem (State.mem_mainlineDetectors.1 hd).1
  refine ⟨hperm.map _, List.pairwise_map.2 ?_⟩
  refine (hsorted.and (hperm.symm.pairwise hmainline fun h => h.symm)).imp_of_mem fun {d e} hd he hde => ?_
  rw [hlookup d (hperm.mem_iff.1 hd), hlookup e (hperm.mem_iff.1 he)]
  exact Nat.lt_of_le_of_ne hde.1 hde.2

/-- One byte of a number. -/
theorem beBytes_one (n : Nat) : beBytes 1 n = [BitVec.ofNat 8 n] := by simp [beBytes, List.range_succ]

theorem State.commitTaken_of_fault {s : State} {c : Nat × Nat} (h : s.commitFailure = some c) :
    s.commitTaken = { state := { s with commitFault := some c }, status := .commitFault,
                      data := [BitVec.ofNat 8 c.1, BitVec.ofNat 8 c.2] } := by
  simp only [State.commitTaken, h, beBytes_one, List.singleton_append]

theorem State.commitTaken_of_none {s : State} (h : s.commitFailure = none) :
    s.commitTaken = .withData s.commit [BitVec.ofNat 8 s.commit.index.length] := by
  simp only [State.commitTaken, h, beBytes_one]

/-- Settles O26. -/
theorem commitSetsTheEntryStates : Obligations.CommitSetsTheEntryStates := by
  unfold Obligations.CommitSetsTheEntryStates
  intro s r hrise noValve noDetector fails
  refine .of_ask (t := s.commitTaken) rfl ?_ fun _ hexec => ⟨fun c i hfails hfirst => ?_, fun hnone => ?_⟩
  · simp only [State.commitChecks, List.map_cons, List.map_nil, State.ready_iff, nonzero_iff]
  · rw [State.commitTaken_of_fault (State.commitFailure_of_first hrise hfails hfirst)] at hexec
    exact answers_of_respond _ s { s with commitFault := some (c, i) } _ _ _ hexec rfl rfl
  · obtain ⟨hperm, hpairwise⟩ := State.newIndex_indexes hrise hnone
    have hmainline : s.mainlineDetectors = s.detectors.filter fun d => d.kind = .mainline :=
      List.filter_congr fun d _ => beq_eq_decide ..
    have hlength : s.commit.index.length = (s.detectors.filter fun d => d.kind = .mainline).length := by
      rw [← hmainline, ← List.length_map (f := Detector.num), ← hperm.length_eq]
      rfl
    rw [hmainline] at hperm
    rw [State.commitTaken_of_none (State.commitFailure_of_none hrise hnone), hlength] at hexec
    refine answers_of_respond _ s s.commit _ _ _ hexec rfl ⟨rfl, hperm, hpairwise.imp fun {a b} hab => ?_⟩
    have hposition : ∀ n, (s.commit.detector n).map Detector.position = (s.detector n).map Detector.position := fun n => by
      have hlookup : s.commit.detector n = (s.detector n).map Detector.committed := List.find?_map ..
      rw [hlookup, Option.map_map]
      rfl
    exact (congrArg₂ (fun a b : Option Nat => a.getD 0 < b.getD 0) (hposition a) (hposition b)).mpr hab

end Sys2Proof.Machine
end

section
/-! SUPPORT. The meter stage of a report (R50 to R55, R58, R62): the segment of a position read both ways, the pass of a
release, and the record the stage leaves. -/

namespace Sys2Proof.Machine

/-! ### The segment of a position -/

/-- The members of a list of rising positions stand at or beyond its head. -/
theorem position_le_of_zip {b : Station} {l : List Station} (h : ((b :: l).map Station.position).Pairwise (· < ·))
    {p : Station × Station} (hp : p ∈ (b :: l).zip l) : b.position ≤ p.1.position := by
  obtain hb | hl := List.mem_cons.1 (List.of_mem_zip hp).1
  · rw [hb]
  · exact Nat.le_of_lt ((List.pairwise_cons.1 h).1 _ (List.mem_map_of_mem hl))

/-- In rising positions a station is the last only where none follows. -/
theorem getLast?_cons_eq_some_iff {b : Station} {l : List Station}
    (h : ((b :: l).map Station.position).Pairwise (· < ·)) : (b :: l).getLast? = some b ↔ l = [] := by
  refine ⟨fun hlast => ?_, fun hl => by rw [hl]; rfl⟩
  cases l with
  | nil => rfl
  | cons c l =>
    rw [List.getLast?_cons_cons] at hlast
    have hlt := (List.pairwise_cons.1 h).1 _ (List.mem_map_of_mem (List.mem_of_getLast? hlast))
    exact absurd hlt (Nat.lt_irrefl _)

/-- In rising positions the segment that takes a position in is the only one. -/
theorem segmentIn_meter_iff {l : List Station} (h : (l.map Station.position).Pairwise (· < ·)) (m x : Nat) :
    (segmentIn l x).bind Station.segmentMeter = some m ↔ ∃ p ∈ l.zip l.tail, p.1.segmentMeter = some m ∧
      p.1.position ≤ x ∧ (x < p.2.position ∨ (x = p.2.position ∧ l.getLast? = some p.2)) := by
  induction l with
  | nil => simp [segmentIn]
  | cons a l ih =>
    cases l with
    | nil => simp [segmentIn]
    | cons b l =>
      have hrest := (List.pairwise_cons.1 h).2
      simp only [segmentIn, List.tail_cons, List.zip_cons_cons, List.mem_cons, List.getLast?_cons_cons, exists_eq_or_imp,
        getLast?_cons_eq_some_iff hrest]
      by_cases hin : a.position ≤ x ∧ (x < b.position ∨ (l = [] ∧ x = b.position))
      · rw [if_pos hin, Option.bind_some]
        refine ⟨fun hm => .inl ⟨hm, hin.1, hin.2.imp_right And.symm⟩, ?_⟩
        rintro (⟨hm, -⟩ | ⟨p, hp, -, hle, -⟩)
        · exact hm
        · have hbp := position_le_of_zip hrest hp
          obtain hlt | ⟨rfl, -⟩ := hin.2
          · omega
          · cases hp
      · rw [if_neg hin, ih hrest]
        refine ⟨.inr, fun hor => hor.resolve_left ?_⟩
        rintro ⟨-, hle, hlt⟩
        exact hin ⟨hle, hlt.imp_right And.symm⟩

/-- On a line whose stations rise in position, the model's reading of a segment is the claims'. -/
theorem State.meterAt_iff {s : State} (h : (s.stations.map Station.position).Pairwise (· < ·)) (m x : Nat) :
    s.meterAt x = some m ↔ inSegmentOf s m x = true := by
  simp only [State.meterAt, segmentIn_meter_iff h, inSegmentOf, List.any_eq_true, Bool.and_eq_true, Bool.or_eq_true,
    decide_eq_true_eq, and_assoc]

/-! ### The pass of a release -/

/-- An advance moves no record but its own (R88). -/
theorem State.advance_othersStand (s : State) (release tag : Nat) : OthersStand s (s.advance release tag) tag := by
  cases hp : s.pig tag with
  | none =>
    intro u _
    simp only [State.advance, hp]
  | some p =>
    obtain rfl := State.pig_tag hp
    exact State.othersStand_advance hp release

theorem State.advance_train (s : State) (release tag : Nat) : (s.advance release tag).train = s.train := by
  cases hp : s.pig tag with
  | none => simp only [State.advance, hp]
  | some p =>
    obtain rfl := State.pig_tag hp
    exact (State.advance_keepsPlace hp release).train

theorem State.pigPos_foldl_advance (release : Nat) (l : List Nat) (s : State) {u : Nat} (hu : u ∉ l) :
    (l.foldl (fun s t => s.advance release t) s).pigPos u = s.pigPos u := by
  induction l generalizing s with
  | nil => rfl
  | cons t l ih =>
    rw [List.mem_cons, not_or] at hu
    rw [List.foldl_cons, ih _ hu.2, s.advance_othersStand release t u hu.1]

theorem State.train_applyRelease (s : State) (m release : Nat) : (s.applyRelease m release).train = s.train := by
  have hfold : ∀ (l : List Nat) (s : State), (l.foldl (fun s t => s.advance release t) s).train = s.train := fun l => by
    induction l with
    | nil => exact fun _ => rfl
    | cons t l ih => exact fun s => (ih _).trans (s.advance_train release t)
  unfold State.applyRelease
  split
  · rfl
  · exact hfold _ s

/-- A release is applied in the pass of R58. -/
theorem State.applyRelease_pass (s : State) (m release : Nat) : Pass s (s.applyRelease m release) m release := by
  intro hrising
  have hmembers : s.passMembers m = s.train.filter fun u => inSegmentOf s m (s.pigPos u) :=
    List.filter_congr fun u _ => Bool.eq_iff_iff.2 (decide_eq_true_iff.trans (State.meterAt_iff hrising m _))
  unfold State.applyRelease
  rw [hmembers]
  refine ⟨rfl, fun u hu => ?_⟩
  split
  · rfl
  · exact State.pigPos_foldl_advance release _ s hu

/-! ### The record of the meter -/

/-- A meter's record written: the record, and its station's changed flag where its state is new (3.2, R184). -/
theorem State.updMeter_eq_of_some {s : State} {n : Nat} {m : Meter} (hm : s.meter n = some m) (f : Meter → Meter) :
    s.updMeter n f = { s with
      meters := s.meters.map fun y => if y.num = n then f y else y
      stations := s.stations.map fun y => if y.num = m.station ∧ m.state ≠ (f m).state then { y with changed := true } else y } := by
  simp only [State.updMeter, hm, State.touchIf_decide]
  rfl

theorem State.meter_updMeter_self {s : State} {n : Nat} {m : Meter} (hm : s.meter n = some m) {f : Meter → Meter}
    (hf : ∀ x, (f x).num = x.num) : (s.updMeter n f).meter n = some (f m) := by
  have hlookup := s.meter_modMeter n n f hf
  rw [hm, Option.map_some, if_pos (State.meter_num hm)] at hlookup
  rw [State.updMeter_eq_of_some hm]
  exact hlookup

/-- The volumes balance where the debt does not saturate (R54). -/
theorem Meter.release_balance (m : Meter) (d : Nat) (hdebt : m.debt + (m.provisional - d) ≤ maxWord) :
    d + m.debtAfter d = m.release d + m.debt + m.provisional := by
  unfold Meter.debtAfter Meter.release
  split <;> omega

/-- Settles O58. -/
theorem meterStageReconciles : Obligations.MeterStageReconciles := by
  unfold Obligations.MeterStageReconciles
  intro s m new hrise hm t elapsed delta excess repaid release debt record still
  refine ⟨fun hstate => ?_, fun hstate => ?_, fun hfailed hpending => ?_⟩
  · simp only [t, State.meterStage, hstate]
  · have ht : t = s.updMeter m.num fun x => x.baselined new s.clock := by simp only [t, State.meterStage, hstate]
    refine ⟨?_, ?_⟩
    · simp only [record, ht]
      exact State.meter_updMeter_self hm (f := fun x => x.baselined new s.clock) fun _ => rfl
    · simp only [still, ht]
      rw [State.updMeter_eq_of_some hm]
  · have ht : t = s.measure m new := by
      cases hstate : m.state with
      | failed => exact absurd hstate hfailed
      | baselinePending => exact absurd hstate hpending
      | live => simp only [t, State.meterStage, hstate]
      | extrapolating => simp only [t, State.meterStage, hstate]
      | stale => simp only [t, State.meterStage, hstate]
    constructor
    · intro hplausible
      have ht' : t = (s.updMeter m.num fun x => x.reconciled new s.clock delta elapsed).applyRelease m.num (m.release delta) :=
        ht.trans (if_pos (decide_eq_true hplausible))
      have hrelease : m.release delta = release := by
        simp only [Meter.release, release, repaid, excess]
        split <;> omega
      have hdebt : m.debtAfter delta = debt := by
        simp only [Meter.debtAfter, debt, repaid, excess, maxWord]
      have hbase : (s.updMeter m.num fun x => x.reconciled new s.clock delta elapsed) = { s with
            meters := s.meters.map fun y => if y.num = m.num then
              { y with state := .live, totalizer := some new, baseTime := some s.clock, rate := min (delta / elapsed) 65535,
                       provisional := 0, debt := debt, implausible := 0, extrapolated := 0 } else y
            stations := if m.state = .live then s.stations else s.stations.map fun y =>
              if y.num = m.station then { y with changed := true } else y } := by
        rw [State.updMeter_eq_of_some hm]
        congr 1
        · by_cases hlive : m.state = .live
          · rw [if_pos hlive]
            refine (List.map_congr_left fun y _ => ?_).trans (List.map_id _)
            exact if_neg fun h => h.2 hlive
          · rw [if_neg hlive]
            refine List.map_congr_left fun y _ => ?_
            exact if_congr (and_iff_left hlive) rfl rfl
        · refine List.map_congr_left fun y hy => ?_
          split
          · rename_i hnum
            obtain rfl : y = m := Option.some.inj ((hrise.meter_of_mem hy).symm.trans (hnum ▸ hm))
            rw [← hdebt]
            rfl
          · rfl
      have hmeter := State.meter_updMeter_self hm (f := fun x => x.reconciled new s.clock delta elapsed) fun _ => rfl
      refine ⟨?_, fun hzero => ?_, ?_, ?_, fun hsum => ?_⟩
      · have hkept := (Spreads.applyRelease (s.updMeter m.num fun x => x.reconciled new s.clock delta elapsed) m.num
          (m.release delta))
        rw [← hdebt]
        simp only [record, ht']
        rw [hkept]
        exact hmeter
      · simp only [still, ht', hrelease, State.applyRelease, hzero, if_true]
        rw [hbase]
      · rw [ht', State.train_applyRelease, hbase]
      · rw [ht', hrelease, hbase]
        exact State.applyRelease_pass _ m.num release
      · have := m.release_balance delta hsum
        rwa [hdebt, hrelease] at this
    · intro himplausible
      have ht' : t = s.implausible m := 
        ht.trans (if_neg fun h => Nat.not_le.2 himplausible (of_decide_eq_true h))
      refine ⟨fun hzero => ?_, fun hnonzero => ?_⟩
      · have hone : t = s.updMeter m.num fun x => { x with implausible := 1 } := ht'.trans (if_pos hzero)
        refine ⟨?_, ?_⟩
        · simp only [record, hone]
          exact State.meter_updMeter_self hm (f := fun x => { x with implausible := 1 }) fun _ => rfl
        · simp only [still, hone]
          rw [State.updMeter_eq_of_some hm]
      · have hfailed : t = (s.updMeter m.num Meter.failedNow).raise .meterFailed := ht'.trans (if_neg hnonzero)
        refine ⟨?_, ?_, ?_⟩
        · simp only [record, hfailed]
          exact State.meter_updMeter_self hm fun _ => rfl
        · simp only [hfailed, State.alertSet_raise]
        · simp only [still, hfailed]
          rw [State.updMeter_eq_of_some hm]
          rfl

end Sys2Proof.Machine
end

section
/-! SUPPORT. The decision of an overdue record (R68, R69, R78 to R81): where the pointer goes where no station is blind. -/

namespace Sys2Proof.Machine

/-! ### The test of a record whose detector's station is seen -/

theorem RecordsRelate.refl {P : Pig → Pig → Prop} (hP : Pig.LetsStrike P) (s : State) : RecordsRelate P s s := .of_pigs hP rfl

/-- Where the pointed detector's station is not blind, settling a record sets overdue-pending where it is beyond its
window, and nothing else but strikes. -/
theorem State.pig_settle_of_seen {s : State} {u : Nat} {p : Pig} (hp : s.pig u = some p) (htrain : u ∈ s.train)
    (hoverdue : p.overdue = false) (hseen : ∀ d, p.pointer.bind s.indexed = some d → s.stationBlind d.station = false) :
    ∃ q, (s.settle u).pig u = some q ∧
      Pig.Struck { p with overdue := (p.pointer.bind s.indexed).any fun d => s.beyondWindow d p } q := by
  obtain rfl := State.pig_tag hp
  unfold State.settle State.settleFor
  simp only [hp]
  cases hd : p.pointer.bind s.indexed with
  | none =>
    refine ⟨p, hp, ?_⟩
    simp only [Option.any_none]
    rw [← hoverdue]
    exact Pig.struck_letsStrike.refl p
  | some d =>
    simp only [if_pos htrain, hseen d hd, Bool.false_eq_true, and_false, if_false, State.overdueTest, hoverdue, true_and,
      Option.any_some]
    by_cases hbeyond : s.beyondWindow d p = true
    · rw [if_pos hbeyond, hbeyond]
      exact (State.handOn_struck _ _).of_some (State.pig_modPig_self (f := fun q => { q with overdue := true }) (fun _ h => h) hp)
    · rw [if_neg hbeyond, Bool.eq_false_iff.2 hbeyond]
      refine ⟨p, hp, ?_⟩
      rw [← hoverdue]
      exact Pig.struck_letsStrike.refl p

/-! ### Misses -/

theorem State.decideRecord_of_pending {s : State} {d : Detector} {shown : Shown} {i tag : Nat} {p : Pig}
    (hp : s.pig tag = some p) (hoverdue : p.overdue = true) (hpointer : p.pointer = some i) (htrain : tag ∈ s.train) :
    State.decideRecord d shown i s tag = if decidesMiss d shown then s.miss tag else (s.excuse tag).settle tag := by
  simp only [State.decideRecord, hp, hoverdue, hpointer, htrain, and_self, if_true]

/-- A record as an evidenced miss leaves it (R80). -/
def State.missedPig (s : State) (p : Pig) : Pig :=
  { p.markChanged with pointer := p.pointer.bind s.indexAfter, overdue := false, misses := p.misses + 1,
                       state := .unconfirmed }

/-- A record as an excused miss leaves it (R81). -/
def State.excusedPig (s : State) (p : Pig) : Pig :=
  { p.markChanged with pointer := p.pointer.bind s.indexAfter, overdue := false }

theorem State.miss_of_some {s : State} {tag : Nat} {p : Pig} (hp : s.pig tag = some p) : s.miss tag =
    if p.misses = 0 then ((s.modPig tag s.missedPig).handOn tag).settle tag else (s.modPig tag s.missedPig).lose tag := by
  simp only [State.miss, hp]
  rfl

theorem State.pig_missed {s : State} {tag : Nat} {p : Pig} (hp : s.pig tag = some p) :
    (s.modPig tag s.missedPig).pig tag = some (s.missedPig p) :=
  State.pig_modPig_self (f := s.missedPig) (fun _ h => h) hp

theorem State.pig_excused {s : State} {tag : Nat} {p : Pig} (hp : s.pig tag = some p) :
    (s.excuse tag).pig tag = some (s.excusedPig p) :=
  State.pig_modPig_self (f := s.excusedPig) (fun _ h => h) hp

/-- A settled record keeps its place: its state, where it is not STAGED, and all but its pointer, overdue-pending and
strike. -/
theorem Pig.Settled.same {p q : Pig} (h : p.Settled q) (hstate : p.state ≠ .staged) :
    q = { p with pointer := q.pointer, overdue := q.overdue
                 flags := { p.flags with valveStrike := q.flags.valveStrike, changed := q.flags.changed } } := by
  obtain ⟨⟨heq, hstays⟩, -, -⟩ := h
  have hsame : q.state = p.state := hstays.resolve_right fun hno => hstate hno.1
  rw [heq, hsame]

/-- A station that keeps its site stays as blind as it was. -/
theorem StationKept.stationBlind {k : Nat} {s t : State} (h : StationKept k s t) : t.stationBlind k = s.stationBlind k := by
  have hlink : t.linkStateOf k = s.linkStateOf k := by
    have := congrArg (Option.map fun x : Station => x.link.state) h.site
    simp only [Option.map_map] at this
    exact congrArg (Option.getD · LinkState.out) this
  simp only [State.stationBlind, hlink]

theorem SameLine.indexed {s t : State} (h : SameLine s t) (o : Option Nat) :
    (o.bind t.indexed).map Detector.committed = (o.bind s.indexed).map Detector.committed := by
  have hindex : t.index = s.index := by rw [h.rest]
  cases o with
  | none => rfl
  | some i =>
    simp only [Option.bind_some, State.indexed, hindex]
    cases s.index[i]? with
    | none => rfl
    | some n => exact h.detector n

/-- Whether a record is beyond its window is read of the line and of the record's place. -/
theorem SameLine.any_beyondWindow {s t : State} (h : SameLine s t) (o : Option Nat) {p q : Pig}
    (hpos : q.position = p.position) (hfix : q.fixPosition = p.fixPosition) :
    (o.bind t.indexed).any (fun d => t.beyondWindow d q) = (o.bind s.indexed).any fun d => s.beyondWindow d p := by
  have hprofile : t.profile = s.profile := by rw [h.rest]; rfl
  have hcommitted := h.indexed o
  generalize o.bind t.indexed = a, o.bind s.indexed = b at hcommitted
  cases a with
  | none =>
    cases b with
    | none => rfl
    | some e => cases hcommitted
  | some d =>
    cases b with
    | none => cases hcommitted
    | some e =>
      have hde : d.committed = e.committed := Option.some.inj hcommitted
      have hposition : d.position = e.position := (congrArg Detector.position hde : d.committed.position = _)
      have hprofileNum : d.profile = e.profile := (congrArg Detector.profile hde : d.committed.profile = _)
      simp only [Option.any_some, State.beyondWindow, State.windowHalf, hprofile, hposition, hprofileNum, hpos, hfix]
      rfl

/-- What a state that is to settle a decided record has kept of the state it was decided in. -/
structure DecidedIn (s u : State) (tag : Nat) (p1 : Pig) : Prop where
  line : SameLine s u
  sites : ∀ k, StationKept k s u
  train : u.train = s.train
  record : ∃ q, u.pig tag = some q ∧ p1.Struck q

/-- A decided record that points at a detector of a station that is seen is overdue-pending afresh by the window there. -/
theorem DecidedIn.seen {s u : State} {tag : Nat} {p1 : Pig} (h : DecidedIn s u tag p1) (htrain : tag ∈ s.train)
    (hoverdue : p1.overdue = false) (hseen : ∀ e ∈ s.detectors, s.stationBlind e.station = false) :
    ∃ r, (u.settle tag).pig tag = some r ∧ r.pointer = p1.pointer ∧
      r.overdue = (p1.pointer.bind s.indexed).any fun d => s.beyondWindow d p1 := by
  obtain ⟨q, hq, ⟨⟨hplace, -⟩, -⟩, hpointer, hoverdueQ⟩ := h.record
  obtain ⟨r, hr, -, hrpointer, hroverdue⟩ := State.pig_settle_of_seen hq (h.train ▸ htrain) (hoverdueQ.trans hoverdue)
    fun d hd => by
      rw [hpointer] at hd
      have hcommitted := h.line.indexed p1.pointer
      rw [hd] at hcommitted
      obtain ⟨e, he, hde⟩ := Option.map_eq_some_iff.1 hcommitted.symm
      have hstation : d.station = e.station := (congrArg Detector.station hde : e.committed.station = d.committed.station).symm
      obtain ⟨i, -, hi⟩ := Option.bind_eq_some_iff.1 he
      obtain ⟨n, -, hn⟩ := Option.bind_eq_some_iff.1 hi
      rw [hstation, (h.sites _).stationBlind]
      exact hseen e (State.detector_mem hn)
  refine ⟨r, hr, hrpointer.trans hpointer, hroverdue.trans ?_⟩
  rw [hpointer]
  exact h.line.any_beyondWindow _ (by rw [hplace]) (by rw [hplace])

/-- And in every case it keeps its place, and its CHANGED flag stays set. -/
theorem DecidedIn.settled {s u : State} {tag : Nat} {p1 : Pig} (h : DecidedIn s u tag p1) (hstate : p1.state ≠ .staged)
    (hchanged : p1.flags.changed = true) :
    ∃ r, (u.settle tag).pig tag = some r ∧ r.flags.changed = true ∧
      r = { p1 with pointer := r.pointer, overdue := r.overdue
                    flags := { p1.flags with valveStrike := r.flags.valveStrike, changed := r.flags.changed } } := by
  obtain ⟨q, hq, hsettled, -⟩ := h.record
  obtain ⟨r, hr, hqr⟩ := (State.settle_settled u tag).of_some hq
  have hp1r := Pig.settled_letsStrike.trans hsettled hqr
  exact ⟨r, hr, hp1r.2.2 hchanged, hp1r.same hstate⟩

theorem State.excuse_decided {s : State} {tag : Nat} {p : Pig} (hp : s.pig tag = some p) :
    DecidedIn s (s.excuse tag) tag (s.excusedPig p) where
  line := .modPig s tag _ fun _ h => h
  sites _ := .of_stations rfl
  train := rfl
  record := ⟨_, State.pig_excused hp, Pig.struck_letsStrike.refl _⟩

theorem State.missed_decided {s : State} {tag : Nat} {p : Pig} (hp : s.pig tag = some p) :
    DecidedIn s ((s.modPig tag s.missedPig).handOn tag) tag (s.missedPig p) where
  line := .trans (.modPig s tag s.missedPig fun _ h => h) (.of_runs (.handOn ..))
  sites k := .trans (by exact .of_stations rfl) (StationKept.engineKeeps.handOn ..)
  train := (RecordsKeepPlace.handOn ..).train
  record := (State.handOn_struck _ tag).of_some (State.pig_missed hp)

theorem State.pigPos_missed_ne (s : State) {tag u : Nat} (hu : u ≠ tag) :
    (s.modPig tag s.missedPig).pigPos u = s.pigPos u :=
  congrArg (fun o => (Option.map Pig.position o).getD 0) (State.pig_modPig_ne (f := s.missedPig) (fun _ h => h) hu)

/-- A decision moves no record. -/
theorem State.decided_othersStand (s : State) (tag : Nat) :
    OthersStand s (s.miss tag) tag ∧ OthersStand s ((s.excuse tag).settle tag) tag := by
  refine ⟨fun u hu => ?_, fun u _ => ((RecordsKeepPlace.excuse ..).trans (.settle ..)).pigPos u⟩
  cases hp : s.pig tag with
  | none => simp only [State.miss, hp]
  | some p =>
    rw [State.miss_of_some hp]
    split
    · exact (((RecordsKeepPlace.handOn ..).trans (.settle ..)).pigPos u).trans (s.pigPos_missed_ne hu)
    · obtain ⟨-, -, -, -, hothers⟩ := State.lose_loses (State.pig_missed hp)
      exact (hothers u hu).trans (s.pigPos_missed_ne hu)

/-- Settles O60. -/
theorem missNeedsEvidence : Obligations.MissNeedsEvidence := by
  unfold Obligations.MissNeedsEvidence
  intro s d shown i tag p hrise horder hp hoverdue hpointer htrain t evidence after kept pointing next
  have hevidence : decidesMiss d shown = evidence := by
    simp only [decidesMiss, Shown.readAs, evidence]
    cases d.state <;> cases d.latching <;> cases shown <;> rfl
  have ht : t = if evidence then s.miss tag else (s.excuse tag).settle tag :=
    hevidence ▸ State.decideRecord_of_pending hp hoverdue hpointer htrain
  have htracked := horder.tracked htrain hp
  have hnot : p.state ≠ .staged := fun h => by simp [Pig.tracked, h] at htracked
  have hothers : OthersStand s t tag := by
    rw [ht]
    split
    · exact (s.decided_othersStand tag).1
    · exact (s.decided_othersStand tag).2
  have hspreads : Spreads s t := by
    rw [ht]
    split
    · exact .miss ..
    · exact ((Reaches.excuse ..).trans (.settle ..)).spreads
  have hnext : p.pointer.bind s.indexAfter = next := by rw [hpointer]; rfl
  have hwindow : ∀ o : Option Nat, (match (o.bind (s.index[·]?)).bind s.detector with
        | none => false
        | some e => decide (e.position + s.windowHalf e p < p.position)) =
      (o.bind s.indexed).any fun d => s.beyondWindow d p := fun o => by
    have hbind : o.bind s.indexed = (o.bind (s.index[·]?)).bind s.detector := by
      cases o <;> rfl
    rw [hbind]
    cases (o.bind (s.index[·]?)).bind s.detector <;> rfl
  by_cases hmiss : evidence = true ∧ p.misses ≠ 0
  · have hlost : t = (s.modPig tag s.missedPig).lose tag := by
      rw [ht, if_pos hmiss.1, State.miss_of_some hp, if_neg hmiss.2]
    obtain ⟨⟨struck, hpig⟩, htrain', -, halert, -⟩ := State.lose_loses (State.pig_missed hp)
    rw [← hlost] at hpig htrain' halert
    refine ⟨fun h => ?_, fun _ h => absurd h hmiss.2, fun _ _ => ⟨?_, ?_, htrain', halert⟩, fun h => ?_, ?_, ?_, hothers,
      hspreads.besides⟩
    · exact absurd h (by simpa [hmiss.1] using hmiss.2)
    · rw [hpig]; rfl
    · rw [hpig]; rfl
    · exact absurd h (by simp [hmiss.1])
    · rw [hpig]; rfl
    · rw [hpig]; rfl
  · have hdecided : ∃ u p1, t = u.settle tag ∧ DecidedIn s u tag p1 ∧ p1.state ≠ .staged ∧ p1.flags.changed = true ∧
        p1.overdue = false ∧ p1.pointer = next ∧ kept p1 = kept p ∧
        (∀ o : Option Nat, (o.bind s.indexed).any (fun d => s.beyondWindow d p1) =
          (o.bind s.indexed).any fun d => s.beyondWindow d p) ∧ after p1 =
          if evidence then (.unconfirmed, 1, p.residue, p.slip, p.position) else (p.state, p.misses, p.residue, p.slip, p.position) := by
      by_cases hevid : evidence = true
      · have hzero : p.misses = 0 := by simpa [hevid] using hmiss
        refine ⟨_, _, ?_, State.missed_decided hp, ?_, rfl, rfl, hnext, rfl, fun _ => rfl, ?_⟩
        · rw [ht, if_pos hevid, State.miss_of_some hp, if_pos hzero]
        · exact fun h => by cases h
        · rw [if_pos hevid]
          simp only [after, State.missedPig, hzero]
          rfl
      · refine ⟨_, _, ?_, State.excuse_decided hp, hnot, rfl, rfl, hnext, rfl, fun _ => rfl, ?_⟩
        · rw [ht, if_neg hevid]
        · rw [if_neg hevid]
          rfl
    obtain ⟨u, p1, hsettle, hdec, hnot1, hchanged1, hoverdue1, hpointer1, hkept, hbeyond, hafter⟩ := hdecided
    obtain ⟨r, hr, hchanged, heq⟩ := hdec.settled hnot1 hchanged1
    have hrafter : after r = after p1 := by rw [heq]
    have hrkept : kept r = kept p1 := by rw [heq]
    have htrain' : t.train = s.train := by rw [hsettle, (RecordsKeepPlace.settle ..).train, hdec.train]
    rw [← hsettle] at hr
    refine ⟨fun _ hseen => ?_, fun hevid hzero => ⟨?_, htrain'⟩, fun hevid hnz => absurd ⟨hevid, hnz⟩ hmiss,
      fun hevid => ⟨?_, htrain'⟩, ?_, ?_, hothers, hspreads.besides⟩
    · obtain ⟨r', hr', hrpointer, hroverdue⟩ := hdec.seen htrain hoverdue1 hseen
      rw [hsettle, hr', Option.map_some]
      refine congrArg some (Prod.ext (hrpointer.trans hpointer1) (hroverdue.trans ?_))
      rw [hpointer1]
      exact (hbeyond next).trans (hwindow next).symm
    · rw [hr, Option.map_some, hrafter, hafter, if_pos hevid]
    · rw [hr, Option.map_some, hrafter, hafter, if_neg (by simp [hevid])]
    · rw [hr, Option.map_some, hrkept, hkept]
    · rw [hr]
      exact hchanged

end Sys2Proof.Machine
end

section
/-! SUPPORT. One step of a sequence in closed form: the boundary at which it waits, and the command it queues (R124, R131,
R140, R141, R146). -/

namespace Sys2Proof.Machine

/-! ### A list of steps from a step on -/

theorem stepsFrom_of_mem {p : SeqStep} {l : List SeqStep} (h : p ∈ l) : ∃ rest, stepsFrom p l = p :: rest := by
  unfold stepsFrom
  induction l with
  | nil => cases h
  | cons q l ih =>
    by_cases hq : q = p
    · exact ⟨l, by simp [hq]⟩
    · rw [List.dropWhile_cons_of_pos (by simpa using hq)]
      exact ih ((List.mem_cons.1 h).resolve_left fun heq => hq heq.symm)

theorem SeqStep.isRestore_iff (p : SeqStep) : p.isRestore = true ↔ p ∈ restoreSteps := decide_eq_true_iff

theorem not_restore_of_forward {p : SeqStep} {kind : SequenceKind} (h : p ∈ forwardSteps kind) : p ∉ restoreSteps := by
  cases kind <;> revert p <;> decide

/-! ### A slot's change leaves what an offer asks of -/

theorem State.remoteShown_congr {s t : State} {k : Nat} (h : (t.station k).map Station.site = (s.station k).map Station.site) :
    t.remoteShown k = s.remoteShown k := by
  have hremote : ∀ u : State, u.remoteShown k = (((u.station k).map Station.site).map fun x => x.link.remote).getD false :=
    fun u => by
      rw [Option.map_map]
      rfl
  rw [hremote, hremote, h]

/-- An offer asks of LINE_TRIP, of its valve and of what its station is. -/
theorem State.offerEnds_congr {s t : State} {v : Valve} (hline : t.lineTrip = s.lineTrip)
    (hsite : (t.station v.station).map Station.site = (s.station v.station).map Station.site) (target : Target) :
    t.offerEnds v target = s.offerEnds v target := by
  unfold State.offerEnds State.closeInhibited
  rw [hline, State.takesNoOffer_congr hsite, State.remoteShown_congr hsite]

theorem State.updSlot_lineTrip (s : State) (k : Nat) (f : Slot → Slot) : (s.updSlot k f).lineTrip = s.lineTrip := by
  cases hx : s.station k with
  | none => rw [State.updSlot_of_none f hx]
  | some x => rw [State.updSlot_of_some f hx, State.modStation]

theorem State.offerEnds_updSlot (s : State) (k : Nat) (f : Slot → Slot) (v : Valve) (target : Target) :
    (s.updSlot k f).offerEnds v target = s.offerEnds v target :=
  State.offerEnds_congr (s.updSlot_lineTrip k f) (StationKept.updSlot s k f).site target

theorem State.roleValve_updSlot (s : State) (k : Nat) (f : Slot → Slot) (j : Nat) (r : Role) :
    (s.updSlot k f).roleValve j r = s.roleValve j r := by simp only [State.roleValve, s.valves_updSlot k f]

/-- A step's offer, from a slot just changed, ends at once as R109 has it, or its command is queued. -/
theorem State.offerStep_updSlot {s : State} {k : Nat} {p : SeqStep} {role : Role} {target : Target} {v : Valve}
    (haction : p.action = some (role, target)) (hv : s.roleValve k role = some v) (f : Slot → Slot) :
    (s.updSlot k f).offerStep k p = (s.updSlot k f).offer v target := by
  simp only [State.offerStep, haction, State.roleValve_updSlot, hv]

theorem State.offer_of_queued {s : State} {v : Valve} {target : Target} (h : s.offerEnds v target = none) :
    s.offer v target = (s.enqueue v target .sequence, none) := by simp only [State.offer, h]

/-! ### A step that queues its command -/

/-- The slot changes and the command of a step is queued. -/
def State.queuedBy (s : State) (k : Nat) (f : Slot → Slot) (v : Valve) (target : Target) : State :=
  (s.updSlot k f).enqueue v target .sequence

theorem State.runForwardBy_queued {s : State} {e : Ending} {k : Nat} {p : SeqStep} {rest : List SeqStep} {role : Role}
    {target : Target} {v : Valve} (hdeadline : s.deadlineReached k = false) (hpending : (s.slotOf k).pausePending = none)
    (haction : p.action = some (role, target)) (hgate : s.gate k p = none) (hv : s.roleValve k role = some v)
    (hoffer : s.offerEnds v target = none) :
    State.runForwardBy e k (p :: rest) s = s.queuedBy k (fun x => x.at p .stepping) v target := by
  have hsome : ¬p.action = none := by simp only [haction, reduceCtorEq, not_false_eq_true]
  simp only [State.runForwardBy, hdeadline, Bool.false_eq_true, if_false, hpending, hgate, if_neg hsome,
    State.offerStep_updSlot haction hv, State.offer_of_queued ((s.offerEnds_updSlot k _ v target).trans hoffer)]
  rfl

theorem State.runRestoreBy_queued {s : State} {e : Ending} {k : Nat} {p : SeqStep} {rest : List SeqStep} {role : Role}
    {target : Target} {v : Valve} (hmarked : p.marked (s.slotOf k).marks = true)
    (hpending : (s.slotOf k).pausePending = none) (haction : p.action = some (role, target))
    (hv : s.roleValve k role = some v) (hoffer : s.offerEnds v target = none) :
    State.runRestoreBy e k (p :: rest) s = s.queuedBy k (fun x => x.at p .restoring) v target := by
  simp only [State.runRestoreBy, hmarked, Bool.true_eq_false, if_false, hpending,
    State.offerStep_updSlot haction hv, State.offer_of_queued ((s.offerEnds_updSlot k _ v target).trans hoffer)]
  rfl

/-- A pending pause takes effect at the boundary before a step (R140). -/
theorem State.runForwardBy_paused {s : State} {e : Ending} {k : Nat} {p : SeqStep} {rest : List SeqStep} {c : PauseCause}
    (hdeadline : s.deadlineReached k = false) (hpending : (s.slotOf k).pausePending = some c) :
    State.runForwardBy e k (p :: rest) s = s.updSlot k fun x => x.pausedAt p c := by
  simp only [State.runForwardBy, hdeadline, Bool.false_eq_true, if_false, hpending]

theorem State.runForwardBy_passage {s : State} {e : Ending} {k : Nat} {p : SeqStep} {rest : List SeqStep}
    (hdeadline : s.deadlineReached k = false) (hpending : (s.slotOf k).pausePending = none) (haction : p.action = none) :
    State.runForwardBy e k (p :: rest) s = s.updSlot k fun x => { x.at p .waitPassage with passage := 0 } := by
  simp only [State.runForwardBy, hdeadline, Bool.false_eq_true, if_false, hpending, haction, if_true]

section

variable {s : State} {k : Nat} {x : Station} {v : Valve} (hx : s.station k = some x) (hstation : v.station = k)
  (f : Slot → Slot) (target : Target)

include hx

theorem State.slotOf_queuedBy : (s.queuedBy k f v target).slotOf k = f x.slot := by
  rw [State.queuedBy, State.slotOf_enqueue, State.slotOf_updSlot_self f hx]

include hstation

theorem State.queue_queuedBy :
    ((s.queuedBy k f v target).station k).map Station.queue = some (x.queue ++ [v.num]) := by
  rw [State.queuedBy, State.station_enqueue, State.station_updSlot_self f hx, Option.map_some, Option.map_some, hstation]
  have hnum : x.num = k := State.station_num hx
  rw [if_pos (show (x.withSlot f (x.slot.tells (f x.slot))).num = k from hnum)]
  rfl

omit hstation in
theorem State.queuedBy_same : s.queuedBy k f v target =
    { s with stations := (s.queuedBy k f v target).stations, valves := (s.queuedBy k f v target).valves } := by
  simp only [State.queuedBy, State.updSlot_of_some f hx]
  rfl

end

theorem State.updSlot_clock (s : State) (k : Nat) (f : Slot → Slot) : (s.updSlot k f).clock = s.clock := by
  cases hx : s.station k with
  | none => rw [State.updSlot_of_none f hx]
  | some x => rw [State.updSlot_of_some f hx, State.modStation]

theorem State.valve_updSlot (s : State) (k : Nat) (f : Slot → Slot) (v : Nat) :
    (s.updSlot k f).valve v = s.valve v := by simp only [State.valve, s.valves_updSlot k f]

theorem State.command_queuedBy {s : State} {k : Nat} {v : Valve} {f : Slot → Slot} {target : Target}
    (hv : s.valve v.num = some v) :
    ((s.queuedBy k f v target).valve v.num).bind Valve.command = some (Command.fresh target .sequence s.clock) := by
  rw [State.queuedBy, State.valve_enqueue, State.valve_updSlot, hv, Option.map_some, if_pos rfl, State.updSlot_clock]
  rfl

/-! ### PAUSE_SEQUENCE and CONTINUE_SEQUENCE -/

/-- A change of a slot that its station's changed flag tells of. -/
theorem State.updSlot_of_tells {s : State} {k : Nat} {x : Station} {f : Slot → Slot} (hx : s.station k = some x)
    (htells : x.slot.tells (f x.slot) = true) :
    s.updSlot k f = s.modStation k fun y => { y with slot := f y.slot, changed := true } := by
  have hstation : Station.withSlot f (x.slot.tells (f x.slot)) = fun y => { y with slot := f y.slot, changed := true } := by
    funext y
    simp only [Station.withSlot, htells, Bool.or_true]
  rw [State.updSlot_of_some f hx, hstation]

theorem State.sequenceChecks_eq (s : State) (station r : Byte) (l : List (Bool × Status)) :
    (s.sequenceChecks station r ++ l).map (fun x => (x.1 = true, x.2)) =
      [(s.lineState = .unconfigured, .notConfigured), (station.toNat < 1 ∨ 24 < station.toNat ∨ r ≠ 0, .badField),
       (s.station station.toNat = none, .noSuch)] ++ l.map fun x => (x.1 = true, x.2) := by
  simp only [State.sequenceChecks, List.map_append, List.map_cons, List.map_nil, s.not_ready_iff, Bool.or_eq_true,
    badStation_iff, nonzero_iff, or_assoc, Option.isNone_iff_eq_none]

/-- A PAUSED slot goes on at its resume point (R141). -/
theorem State.continueAt_of_paused {s : State} {k : Nat} {p : SeqStep} (hpaused : (s.slotOf k).state = .paused)
    (hresume : (s.slotOf k).resume = some p) : s.continueAt k = s.goOnAt k p := by
  simp only [State.continueAt, hpaused, hresume]

theorem State.continueAt_of_running {s : State} {k : Nat} (h : (s.slotOf k).state ≠ .paused) :
    s.continueAt k = s.updSlot k fun y => { y with pausePending := none } := by
  unfold State.continueAt
  extract_lets x
  split
  · rename_i hpaused _
    exact absurd hpaused h
  · rfl

theorem State.goOnAt_forward {s : State} {k : Nat} {p : SeqStep} {kind : SequenceKind}
    (hkind : (s.slotOf k).kind = some kind) (hp : p ∈ forwardSteps kind) :
    ∃ rest, s.goOnAt k p = State.runForward k (p :: rest) s := by
  obtain ⟨rest, hrest⟩ := stepsFrom_of_mem hp
  refine ⟨rest, ?_⟩
  have hforward : ¬p.isRestore = true := fun h => not_restore_of_forward hp (p.isRestore_iff.1 h)
  simp only [State.goOnAt, State.goOnAtBy, if_neg hforward, hkind, Option.map_some, Option.getD_some, hrest]
  rfl

theorem State.goOnAt_restore {s : State} {k : Nat} {p : SeqStep} (hp : p ∈ restoreSteps) :
    ∃ rest, s.goOnAt k p = State.runRestore k (p :: rest) s := by
  obtain ⟨rest, hrest⟩ := stepsFrom_of_mem hp
  refine ⟨rest, ?_⟩
  simp only [State.goOnAt, State.goOnAtBy, if_pos (p.isRestore_iff.2 hp), hrest]
  rfl

/-- The command a resume point queues (R141). -/
theorem State.goOnAt_queued {s : State} {k : Nat} {p : SeqStep} {role : Role} {target : Target} {v : Valve}
    (hdeadline : s.deadlineReached k = false) (hpending : (s.slotOf k).pausePending = none)
    (haction : p.action = some (role, target)) (hv : s.roleValve k role = some v) (hoffer : s.offerEnds v target = none)
    (hgoes : (∃ kind, (s.slotOf k).kind = some kind ∧ p ∈ forwardSteps kind ∧ s.gate k p = none) ∨
      (p ∈ restoreSteps ∧ (s.slotOf k).marks.get role = true)) :
    s.goOnAt k p = s.queuedBy k (fun x => x.at p (if p ∈ restoreSteps then .restoring else .stepping)) v target := by
  rcases hgoes with ⟨kind, hkind, hp, hgate⟩ | ⟨hp, hmarked⟩
  · obtain ⟨rest, hrest⟩ := State.goOnAt_forward hkind hp
    simp only [if_neg (not_restore_of_forward hp)]
    exact hrest.trans (State.runForwardBy_queued hdeadline hpending haction hgate hv hoffer)
  · obtain ⟨rest, hrest⟩ := State.goOnAt_restore (s := s) (k := k) hp
    simp only [if_pos hp]
    refine hrest.trans (State.runRestoreBy_queued ?_ hpending haction hv hoffer)
    simpa only [SeqStep.marked, haction, Option.map_some, Option.getD_some] using hmarked

theorem TablesRise.valve_roleValve {s : State} (hrise : TablesRise s) {k : Nat} {r : Role} {v : Valve}
    (hv : s.roleValve k r = some v) : s.valve v.num = some v := hrise.valve_of_mem (State.roleValve_mem hv).1

/-- A slot that is at a step in no WAIT_HOLD keeps what tells of its wait. -/
theorem Slot.at_of_ne (x : Slot) (p : SeqStep) {st : SlotState} (h : st ≠ .waitHold) :
    x.at p st = { x with state := st, step := some p, resume := none, pauseCause := none } := by
  simp only [Slot.at, h, decide_false, Bool.or_false]

/-- Settles O41: a PAUSED slot goes on by one step of the forward run or of the tail. -/
theorem sequencesPauseAndContinue : Obligations.SequencesPauseAndContinue := by
  unfold Obligations.SequencesPauseAndContinue
  intro s station r hrise k x first withSlot
  have hdefined : ∀ l : List (Prop × Status), (∀ c ∈ first ++ l, ¬c.1) → ∃ y, s.station k = some y ∧ x = y.slot :=
    fun l hpass => by
      obtain ⟨y, hy⟩ := Option.ne_none_iff_exists'.1 (hpass (s.station k = none, .noSuch) (by simp [first]))
      exact ⟨y, hy, State.slotOf_of_some hy⟩
  constructor
  · refine .of_ask (t := .ok _) rfl ((s.sequenceChecks_eq ..).trans ?_) fun hpass hexec => ?_
    · simp only [List.map_cons, List.map_nil, Bool.or_eq_true, decide_eq_true_eq]
      rfl
    · refine ⟨fun hdone => ?_, fun hrunning hpending => ?_⟩
      · rw [if_pos hdone] at hexec
        exact answers_of_respond _ s s _ _ _ hexec rfl rfl
      · obtain ⟨y, hy, hslot⟩ := hdefined _ hpass
        rw [if_neg (not_or.2 ⟨hrunning, not_not.2 hpending⟩)] at hexec
        have hupd := State.updSlot_of_tells (f := fun y => { y with pausePending := some .host }) hy (by
          simp [Slot.tells, ← hslot, show x.pausePending = none from hpending])
        have hport : (s.updSlot k fun y => { y with pausePending := some .host }).port = s.port := by rw [hupd]; rfl
        exact answers_of_respond _ s _ _ _ _ hexec hport (by rw [hupd]; rfl)
  · refine .of_ask (t := .ok _) rfl ((s.sequenceChecks_eq ..).trans ?_) fun hpass hexec => ?_
    · simp only [List.map_cons, List.map_nil, Bool.or_eq_true, Bool.and_eq_true, decide_eq_true_eq]
      rfl
    · obtain ⟨y, hy, hslot⟩ := hdefined _ hpass
      have hstate := hpass (x.state ≠ .paused ∧ x.pausePending ≠ some .host, .wrongState) (by simp)
      refine ⟨fun hrunning => ?_, fun hpaused hpending hdeadline => ⟨fun p kind hresume hkind hp haction => ?_,
        fun p role target v hresume haction hv hoffer hgoes => ?_⟩⟩
      · have hpending : x.pausePending = some .host := not_not.1 fun h => hstate ⟨hrunning, h⟩
        have hupd := (State.continueAt_of_running hrunning).trans
          (State.updSlot_of_tells (f := fun y => { y with pausePending := none }) hy (by simp [Slot.tells, ← hslot, hpending]))
        have hport : (s.continueAt k).port = s.port := by rw [hupd]; rfl
        exact answers_of_respond _ s _ _ _ _ hexec hport (by rw [hupd]; rfl)
      · obtain ⟨rest, hrest⟩ := State.goOnAt_forward hkind hp
        have hupd := ((State.continueAt_of_paused hpaused hresume).trans hrest).trans
          (State.runForwardBy_passage hdeadline hpending haction)
        have hport : (s.continueAt k).port = s.port := by rw [hupd, State.updSlot_of_some _ hy]; rfl
        refine answers_of_respond _ s _ _ _ _ hexec hport ⟨?_, ?_⟩
        · refine (congrArg (fun t => t.slotOf k) hupd).trans ((State.slotOf_updSlot_self _ hy).trans ?_)
          rw [← hslot, x.at_of_ne p (by decide)]
        · rw [hupd, State.updSlot_of_some _ hy]
          rfl
      · have hupd := (State.continueAt_of_paused hpaused hresume).trans
          (State.goOnAt_queued hdeadline hpending haction hv hoffer hgoes)
        have hsame := State.queuedBy_same (v := v) hy (fun x => x.at p (if p ∈ restoreSteps then .restoring else .stepping)) target
        rw [← hupd] at hsame
        have hport : (s.continueAt k).port = s.port := by rw [hsame]
        refine answers_of_respond _ s _ _ _ _ hexec hport ⟨?_, ?_, ?_, ?_⟩
        · refine (congrArg (fun t => t.slotOf k) hupd).trans ((State.slotOf_queuedBy hy _ target).trans ?_)
          rw [← hslot, x.at_of_ne p (by split <;> decide)]
        · exact (congrArg (fun t => (t.valve v.num).bind Valve.command) hupd).trans
            (State.command_queuedBy (hrise.valve_roleValve hv))
        · refine (congrArg (fun t => (t.station k).map Station.queue) hupd).trans
            ((State.queue_queuedBy hy (State.roleValve_mem hv).2.1 _ target).trans ?_)
          rw [hy]
          rfl
        · exact congrArg (fun u : State => { u with port := ((s.continueAt k).respond .ok []).port }) hsame

end Sys2Proof.Machine
end

section
/-! SUPPORT. The end of a sequence in closed form (R146 to R150), and what a sequence reads of a state whose holds have been
re-evaluated (R119, R120). -/

namespace Sys2Proof.Machine

/-! ### What a sequence reads of its station -/

theorem State.roleIs_eq (s : State) (k : Nat) (r : Role) (d : Debounced) :
    s.roleIs k r d = (s.roleValve k r).any fun v => decide (v.debounced = d) := by
  unfold State.roleIs
  cases s.roleValve k r <;> rfl

theorem State.receiverSecure_eq (s : State) (k : Nat) :
    s.receiverSecure k = ((s.station k).map Station.link).any fun l =>
      l.receiveDoor && l.remote && s.roleIs k .receiveInlet .closed && s.roleIs k .mainline .opened &&
        !s.receiverOccupied k := by
  unfold State.receiverSecure
  cases s.station k <;> rfl

theorem State.launcherSecure_eq (s : State) (k : Nat) :
    s.launcherSecure k = ((s.station k).map Station.link).any fun l =>
      l.launchDoor && l.remote && s.roleIs k .launchOutlet .closed && s.roleIs k .launchKicker .closed &&
        s.roleIs k .mainline .opened := by
  unfold State.launcherSecure
  cases s.station k <;> rfl

theorem State.atDeadline_eq (s : State) (k front : Nat) :
    s.atDeadline k front = ((s.station k).map fun x => (x.position, x.tuning.approach)).any fun x =>
      decide (x.1 ≤ front + x.2) := by
  unfold State.atDeadline
  cases s.station k <;> rfl

theorem State.deadlineReached_eq (s : State) (k : Nat) :
    s.deadlineReached k = ((s.slotOf k).deadlineStands && ((s.boundPig k).bind s.holdFront).any (s.atDeadline k)) := by
  unfold State.deadlineReached
  cases (s.boundPig k).bind s.holdFront <;> rfl

/-! ### What a re-evaluation leaves, by number -/

namespace Rehold

variable {s t : State} (h : Rehold s t)

include h

theorem station (k : Nat) : (t.station k).map Station.unflagged = (s.station k).map Station.unflagged :=
  find?_map_congr Station.num Station.unflagged (fun a b heq => show a.unflagged.num = b.unflagged.num from congrArg _ heq) k _ _ h.stations

theorem valve (v : Nat) : (t.valve v).map Valve.unheld = (s.valve v).map Valve.unheld :=
  find?_map_congr Valve.num Valve.unheld (fun a b heq => show a.unheld.num = b.unheld.num from congrArg _ heq) v _ _ h.valves

theorem pig (u : Nat) : (t.pig u).map Pig.unflagged = (s.pig u).map Pig.unflagged :=
  find?_map_congr Pig.tag Pig.unflagged (fun a b heq => show a.unflagged.tag = b.unflagged.tag from congrArg _ heq) u _ _ h.pigs

/-- What is read of a station, but for its changed flag, is read as before. -/
theorem readStation {α : Type} (g : Station → α) (hg : ∀ x, g x.unflagged = g x) (k : Nat) :
    (t.station k).map g = (s.station k).map g := by
  have hmap := congrArg (Option.map g) (h.station k)
  simpa only [Option.map_map, Function.comp_def, hg] using hmap

theorem slotOf (k : Nat) : t.slotOf k = s.slotOf k :=
  congrArg (Option.getD · Slot.idle) (h.readStation Station.slot (fun _ => rfl) k)

theorem roleValve (k : Nat) (r : Role) :
    (t.roleValve k r).map Valve.unheld = (s.roleValve k r).map Valve.unheld := by
  have hfind : ∀ u : State, (u.roleValve k r).map Valve.unheld =
      (u.valves.map Valve.unheld).find? fun v => v.station == k && v.role == r := fun u => by
    rw [List.find?_map]
    rfl
  rw [hfind, hfind, h.valves]

theorem roleIs (k : Nat) (r : Role) (d : Debounced) : t.roleIs k r d = s.roleIs k r d := by
  have hmap := congrArg (Option.any fun v : Valve => decide (v.debounced = d)) (h.roleValve k r)
  rw [Option.any_map, Option.any_map] at hmap
  rw [State.roleIs_eq, State.roleIs_eq]
  exact hmap

theorem receiverOccupied (k : Nat) : t.receiverOccupied k = s.receiverOccupied k := by
  have hmap := congrArg (List.any · fun p : Pig => p.state == .trapped && p.destination == k) h.pigs
  simp only [List.any_map] at hmap
  exact hmap

theorem readLink (k : Nat) : (t.station k).map Station.link = (s.station k).map Station.link :=
  h.readStation Station.link (fun _ => rfl) k

theorem receiverSecure (k : Nat) : t.receiverSecure k = s.receiverSecure k := by
  rw [State.receiverSecure_eq, State.receiverSecure_eq, h.readLink, h.roleIs, h.roleIs, h.receiverOccupied]

theorem launcherSecure (k : Nat) : t.launcherSecure k = s.launcherSecure k := by
  rw [State.launcherSecure_eq, State.launcherSecure_eq, h.readLink, h.roleIs, h.roleIs, h.roleIs]

theorem lineTrip : t.lineTrip = s.lineTrip := by rw [h.rest]

theorem clock : t.clock = s.clock := by rw [h.rest]

theorem atDeadline (k front : Nat) : t.atDeadline k front = s.atDeadline k front := by
  rw [State.atDeadline_eq, State.atDeadline_eq, h.readStation _ fun _ => rfl]

/-- The hold front of a record is as before (R67). -/
theorem holdFront (u : Nat) : (t.pig u).bind t.holdFront = (s.pig u).bind s.holdFront := by
  have hinterval : (t.pig u).bind t.holdInterval = (s.pig u).bind s.holdInterval := by
    rw [State.interval_eq, State.interval_eq, h.sameHolds.reach]
  have hfront : ∀ r : State, (r.pig u).bind r.holdFront = ((r.pig u).bind r.holdInterval).map Prod.snd := fun r =>
    (Option.map_bind ..).symm
  rw [hfront, hfront, hinterval]

end Rehold

/-! ### The end of a slot -/

/-- What the end of a sequence leaves of its station (R148 to R150), but for the changed flag. -/
def Station.sequenceEnded (x : Station) (o : SeqOutcome) (r : Option (SeqStep × Role × ValveOutcome)) (clock : Nat) : Station :=
  { x with
    slot := x.slot.ended o
    fault := if o.failed then some (x.slot.faultRecord o r clock) else x.fault
    trapFault := x.trapFault || (o.failed && decide (o = .restoreFailed))
    changed := false }

theorem State.noteSet_note (s : State) (c : NoteCause) : (s.note c).noteSet c = true := by
  simp only [State.noteSet, State.note, BitVec.getLsbD_or]
  cases c <;> simp [NoteCause.ctorIdx]

section

variable {s : State} {k : Nat} (o : SeqOutcome) (r : Option (SeqStep × Role × ValveOutcome))

theorem State.noteSet_endSlot : (s.endSlot k o r).noteSet .sequenceDone = true := by
  unfold State.endSlot
  extract_lets x s1 s2 s3 s4
  have hnote : s4.noteSet .sequenceDone = true := State.noteSet_note ..
  split
  · exact hnote
  · exact hnote

theorem State.alertSet_endSlot (hfailed : o.failed = true) : (s.endSlot k o r).alertSet .sequenceFailed = true := by
  unfold State.endSlot
  extract_lets x s1 s2 s3 s4
  rw [if_pos hfailed]
  exact State.alertSet_raise ..

theorem State.station_endSlot {x : Station} (hx : s.station k = some x) :
    ((s.endSlot k o r).station k).map Station.unflagged = some (x.sequenceEnded o r s.clock) := by
  have hfreed := (Rehold.reevalStation (s.updSlot k fun y => y.ended o) k).station k
  rw [State.station_updSlot_self _ hx] at hfreed
  obtain ⟨y, hy, hsame⟩ := Option.map_eq_some_iff.1 hfreed
  unfold State.endSlot
  cases hfailed : o.failed with
  | false =>
    refine (congrArg (Option.map Station.unflagged) hy).trans ?_
    rw [Option.map_some, hsame]
    simp only [Station.sequenceEnded, hfailed, Bool.false_eq_true, if_false, Bool.false_and, Bool.or_false]
    rfl
  | true =>
    have hwritten := State.station_modStation_self
      (fun y => { y with fault := some ((s.slotOf k).faultRecord o r s.clock),
                         trapFault := y.trapFault || decide (o = .restoreFailed), changed := true }) (fun _ => rfl) hy
    refine (congrArg (Option.map Station.unflagged) hwritten).trans ?_
    rw [State.slotOf_of_some hx]
    simp only [Station.sequenceEnded, hfailed, if_true, Bool.true_and]
    exact congrArg (fun z : Station => some { z with
      fault := some (x.slot.faultRecord o r s.clock), trapFault := z.trapFault || decide (o = SeqOutcome.restoreFailed) }) hsame

theorem State.slotOf_endSlot {x : Station} (hx : s.station k = some x) : (s.endSlot k o r).slotOf k = x.slot.ended o := by
  have hslot := congrArg (Option.map Station.slot) (State.station_endSlot o r hx)
  rw [Option.map_map] at hslot
  exact congrArg (Option.getD · Slot.idle) hslot

theorem State.fault_endSlot {x : Station} (hx : s.station k = some x) :
    ((s.endSlot k o r).station k).map Station.fault =
      some (if o.failed then some (x.slot.faultRecord o r s.clock) else x.fault) := by
  have hfault := congrArg (Option.map Station.fault) (State.station_endSlot o r hx)
  rwa [Option.map_map] at hfault

end

/-- A receive, or a launch whose record is not STAGED, ends without a record given up. -/
theorem State.endSequence_of_receive {s : State} {k : Nat} (hkind : (s.slotOf k).kind = some .receive) (o : SeqOutcome)
    (r : Option (SeqStep × Role × ValveOutcome)) : s.endSequence k o r = s.endSlot k o r := by
  simp only [State.endSequence, State.givenUp, hkind]

/-! ### A restore tail with nothing to restore -/

theorem SeqStep.marked_clear (p : SeqStep) : p.marked Marks.clear = false := by cases p <;> rfl

/-- Where no valve has moved, the tail ends the sequence (R146, R147). -/
theorem State.runRestoreBy_unmarked {s : State} {k : Nat} (h : (s.slotOf k).marks = Marks.clear) (e : Ending)
    (l : List SeqStep) : State.runRestoreBy e k l s = e s k (s.slotOf k).tailOutcome none := by
  induction l with
  | nil => rfl
  | cons p l ih => simpa only [State.runRestoreBy, h, SeqStep.marked_clear, if_true] using ih

/-- A slot as its restore tail begins (R146). -/
def Slot.tail (x : Slot) (trip : Bool) (cause : SeqOutcome) (failValve : Option (Role × ValveOutcome)) : Slot :=
  { x with cause := some cause, abortPending := none, resume := none, pauseCause := none,
           pausePending := x.tailPending trip, failStep := x.step, failValve := failValve }

theorem State.beginTailBy_unmarked {s : State} {k : Nat} {x : Station} (hx : s.station k = some x)
    (hmarks : x.slot.marks = Marks.clear) (e : Ending) (cause : SeqOutcome) (failValve : Option (Role × ValveOutcome)) :
    s.beginTailBy e k cause failValve = e (s.updSlot k fun y => y.tail s.lineTrip cause failValve) k
      (x.slot.tail s.lineTrip cause failValve).tailOutcome none := by
  have hslot := State.slotOf_updSlot_self (fun y => y.tail s.lineTrip cause failValve) hx
  refine (State.runRestoreBy_unmarked ?_ e restoreSteps).trans ?_
  · exact (congrArg Slot.marks hslot).trans hmarks
  · exact congrArg (fun y : Slot => e (s.updSlot k fun y => y.tail s.lineTrip cause failValve) k y.tailOutcome none) hslot

end Sys2Proof.Machine
end

section
/-! SUPPORT. How a receive begins (R128, R129, R134, R136): the start of a sequence, the choice of a record, and what the
engine's causes and notes keep. -/

namespace Sys2Proof.Machine

/-! ### Causes stand through the engine -/

theorem AlertsStand.engineKeeps : EngineKeeps AlertsStand where
  refl := .refl
  trans := .trans
  reevalValve := .reevalValve
  rearmTest s d := by
    unfold State.rearmTest State.updDetector
    split
    · exact .refl s
    · split
      · split
        · exact .refl s
        · exact (AlertsStand.touchIf ..).after rfl
      · exact .refl s
  offerStep s k p := by
    unfold State.offerStep
    split
    · exact .refl s
    · split
      · exact .refl s
      · rename_i a _ _ v _
        obtain ⟨o, -, heq⟩ | ⟨-, heq⟩ := s.offer_cases v a.2 <;> rw [heq]
        · exact .of_eq rfl
        · exact .of_eq rfl
  endCommand _ _ _ := .of_eq rfl
  updSlot := .updSlot
  storeClosing _ _ _ := .of_eq rfl
  writeFault _ _ _ _ := .of_eq rfl
  giveUp _ _ _ _ _ := .of_eq rfl
  raise := .raise
  note _ _ := .of_eq rfl

/-! ### The start of a sequence -/

namespace EngineKeeps

variable {R : State → State → Prop}

theorem startReceive (h : EngineKeeps R) (s : State) (k tag : Nat) (barred : Option Nat) :
    R s (s.startReceive k tag barred) := by
  refine h.trans (h.trans (h.updSlot s k fun x => x.started .receive .rx1 tag barred s.lineTrip) (h.reevalStation _ k)) ?_
  unfold State.startReceive
  extract_lets s1
  split
  · exact h.abandonBy h.endSequence ..
  · split
    · exact h.runForwardBy h.endSequence ..
    · exact h.endSequence ..

theorem startLaunch (h : EngineKeeps R) (s : State) (k tag : Nat) : R s (s.startLaunch k tag) := by
  refine h.trans (h.trans (h.updSlot s k fun x => x.started .launch .l1 tag x.barred s.lineTrip) (h.reevalStation _ k)) ?_
  unfold State.startLaunch
  extract_lets s1
  split
  · exact h.runForwardBy h.endSequence ..
  · exact h.endSequence ..

end EngineKeeps

/-- The state in which a sequence has just started, the holds of its station's valves re-evaluated (R120, R127, R128). -/
def State.seated (s : State) (k : Nat) (f : Slot → Slot) : State := (s.updSlot k f).reevalStation k

section

variable {s : State} {k : Nat} {x : Station} (hx : s.station k = some x) (f : Slot → Slot)

theorem State.rehold_seated : Rehold (s.updSlot k f) (s.seated k f) := Rehold.reevalStation ..

include hx

theorem State.station_seated : ∃ y, (s.seated k f).station k = some y ∧ y.unflagged = { x.unflagged with slot := f x.slot } := by
  have hstation := (State.rehold_seated (s := s) (k := k) f).station k
  rw [State.station_updSlot_self f hx] at hstation
  exact Option.map_eq_some_iff.1 hstation

theorem State.slotOf_seated : (s.seated k f).slotOf k = f x.slot := by
  rw [(State.rehold_seated f).slotOf, State.slotOf_updSlot_self f hx]

omit hx in
theorem State.link_seated (j : Nat) : ((s.seated k f).station j).map Station.link = (s.station j).map Station.link := by
  rw [(State.rehold_seated f).readLink]
  have hsite := congrArg (Option.map Station.link) (StationKept.updSlot (k := j) s k f).site
  simp only [Option.map_map] at hsite
  exact hsite

omit hx in
theorem State.roleIs_seated (j : Nat) (r : Role) (d : Debounced) : (s.seated k f).roleIs j r d = s.roleIs j r d := by
  rw [(State.rehold_seated f).roleIs, State.roleIs_eq, State.roleIs_eq, State.roleValve_updSlot]

omit hx in
theorem State.receiverSecure_seated (j : Nat) : (s.seated k f).receiverSecure j = s.receiverSecure j := by
  have hoccupied : (s.seated k f).receiverOccupied j = s.receiverOccupied j := by
    rw [(State.rehold_seated f).receiverOccupied, State.receiverOccupied, State.updSlot_pigs]
    rfl
  rw [State.receiverSecure_eq, State.receiverSecure_eq, State.link_seated, State.roleIs_seated, State.roleIs_seated,
    hoccupied]

omit hx in
theorem State.launcherSecure_seated (j : Nat) : (s.seated k f).launcherSecure j = s.launcherSecure j := by
  rw [State.launcherSecure_eq, State.launcherSecure_eq, State.link_seated, State.roleIs_seated, State.roleIs_seated,
    State.roleIs_seated]

omit hx in
theorem State.lineTrip_seated : (s.seated k f).lineTrip = s.lineTrip :=
  (State.rehold_seated f).lineTrip.trans (s.updSlot_lineTrip k f)

omit hx in
theorem State.clock_seated : (s.seated k f).clock = s.clock :=
  (State.rehold_seated f).clock.trans (s.updSlot_clock k f)

omit hx in
theorem State.holdFront_seated (u : Nat) : ((s.seated k f).pig u).bind (s.seated k f).holdFront = (s.pig u).bind s.holdFront := by
  rw [(State.rehold_seated f).holdFront]
  cases hk : s.station k with
  | none => rw [State.updSlot_of_none f hk]
  | some y => rw [State.updSlot_of_some f hk]; rfl

theorem State.atDeadline_seated (front : Nat) :
    (s.seated k f).atDeadline k front = decide (x.position ≤ front + x.tuning.approach) := by
  rw [(State.rehold_seated f).atDeadline, State.atDeadline_eq, State.station_updSlot_self f hx]
  rfl

/-- A sequence just started stands at its readiness deadline where its record's hold front has passed it (R136). -/
theorem State.deadlineReached_seated {tag : Nat} {p : Pig} (hp : s.pig tag = some p) (hbound : (f x.slot).bound = some tag) :
    (s.seated k f).deadlineReached k = ((f x.slot).deadlineStands &&
      (s.holdFront p).any fun front => decide (x.position ≤ front + x.tuning.approach)) := by
  have hfront : ((s.seated k f).boundPig k).bind (s.seated k f).holdFront = s.holdFront p := by
    rw [State.boundPig, State.slotOf_seated hx, hbound]
    refine (State.holdFront_seated f tag).trans ?_
    rw [hp]
    rfl
  rw [State.deadlineReached_eq, State.slotOf_seated hx, hfront]
  rw [show (s.seated k f).atDeadline k = fun front => decide (x.position ≤ front + x.tuning.approach) from
    funext fun front => State.atDeadline_seated hx f front]

end

/-! ### Queueing the first command -/

/-- The valve of a role, after a sequence has started: the same but for its hold. -/
theorem State.roleValve_seated {s : State} {k : Nat} {f : Slot → Slot} {j : Nat} {r : Role} {v : Valve}
    (h : (s.seated k f).roleValve j r = some v) : ∃ w, s.roleValve j r = some w ∧ v.unheld = w.unheld := by
  have hmap := (State.rehold_seated (s := s) (k := k) f).roleValve j r
  rw [h, State.roleValve_updSlot] at hmap
  obtain ⟨w, hw, hsame⟩ := Option.map_eq_some_iff.1 hmap.symm
  exact ⟨w, hw, hsame.symm⟩

theorem State.roleValve_of_roleIs {s : State} {k : Nat} {r : Role} {d : Debounced} (h : s.roleIs k r d = true) :
    ∃ v, s.roleValve k r = some v ∧ v.debounced = d := by
  rw [State.roleIs_eq, Option.any_eq_true] at h
  obtain ⟨v, hv, hd⟩ := h
  exact ⟨v, hv, of_decide_eq_true hd⟩

/-- An OPEN is queued for a CLOSED valve of an ACTIVE station while LINE_TRIP is released (R109). -/
theorem State.offerEnds_open {s : State} {v : Valve} {y : Station} (hline : s.lineTrip = false)
    (hy : s.station v.station = some y) (hactive : y.link.state = .active) (hclosed : v.debounced = .closed) :
    s.offerEnds v .toOpen = none := by
  have htakes : s.takesNoOffer v.station = false := by
    simp [State.takesNoOffer, hy, hactive]
  simp [State.offerEnds, hline, htakes, hclosed, Debounced.at]

/-! ### The record an automatic receive takes -/

/-- The better of two records by a score, the earlier one of equals. -/
def better (score : Pig → Nat) (best : Option Pig) (p : Pig) : Option Pig :=
  match best with
  | none => some p
  | some b => if score b < score p then some p else best

theorem foldl_better_stands (score : Pig → Nat) (p : Pig) (l : List Pig) (h : ∀ q ∈ l, score q ≤ score p) :
    l.foldl (better score) (some p) = some p := by
  induction l with
  | nil => rfl
  | cons q l ih =>
    have hq : better score (some p) q = some p := if_neg (Nat.not_lt.2 (h q (List.mem_cons_self ..)))
    rw [List.foldl_cons, hq]
    exact ih fun r hr => h r (List.mem_cons_of_mem _ hr)

/-- The record of the greatest score, and among equals of the lowest tag, is the one picked of a rising list. -/
theorem foldl_better (score : Pig → Nat) (p : Pig) (l : List Pig) (best : Option Pig)
    (hbest : ∀ b, best = some b → score b < score p) (hrise : l.Pairwise fun a b => a.tag < b.tag) (hp : p ∈ l)
    (hfirst : ∀ q ∈ l, score q < score p ∨ (score q = score p ∧ p.tag ≤ q.tag)) : l.foldl (better score) best = some p := by
  induction l generalizing best with
  | nil => cases hp
  | cons q l ih =>
    obtain ⟨hq, hl⟩ := List.pairwise_cons.1 hrise
    have hrest : ∀ r ∈ l, score r < score p ∨ (score r = score p ∧ p.tag ≤ r.tag) := fun r hr =>
      hfirst r (List.mem_cons_of_mem _ hr)
    rcases List.mem_cons.1 hp with rfl | hp
    · have htaken : better score best p = some p := by
        cases best with
        | none => rfl
        | some b => exact if_pos (hbest b rfl)
      rw [List.foldl_cons, htaken]
      exact foldl_better_stands score p l fun r hr => (hrest r hr).elim Nat.le_of_lt fun h => Nat.le_of_eq h.1
    · have hlower : score q < score p := (hfirst q (List.mem_cons_self ..)).resolve_right fun h =>
        absurd h.2 (Nat.not_le.2 (hq p hp))
      refine ih _ (fun b hb => ?_) hl hp hrest
      cases best with
      | none => cases hb; exact hlower
      | some b' =>
        simp only [better] at hb
        split at hb
        · cases hb; exact hlower
        · exact hbest b hb

theorem TablesRise.pigs_pairwise {s : State} (h : TablesRise s) : s.pigs.Pairwise fun a b => a.tag < b.tag :=
  List.pairwise_map.1 h.pigs

theorem State.autoPick_eq (s : State) (x : Station) : s.autoPick x =
    (s.pigs.filter (s.autoQualifies x)).foldl (better fun p => (s.holdFront p).getD 0) none := rfl

/-- A record qualifies only with a hold front (R129). -/
theorem State.holdFront_of_qualifies {s : State} {x : Station} {p : Pig} (h : s.autoQualifies x p = true) :
    ∃ f, s.holdFront p = some f := by
  cases hf : s.holdFront p with
  | some f => exact ⟨f, rfl⟩
  | none => simp [State.autoQualifies, hf] at h

/-! ### How a receive begins -/

/-- A receive just started. -/
abbrev Station.receiving (x : Station) (tag : Nat) (barred : Option Nat) (trip : Bool) : Slot :=
  x.slot.started .receive .rx1 tag barred trip

theorem State.startReceive_eq (s : State) (k tag : Nat) (barred : Option Nat) :
    s.startReceive k tag barred =
      let s1 := s.seated k fun x => x.started .receive .rx1 tag barred s.lineTrip
      if s1.deadlineReached k then s1.abandon k
      else if s1.receiverSecure k then State.runForward k receiveSteps s1 else s1.endSequence k .notSecure none := rfl

/-- What the end of a receive at its start leaves (R148, R150). -/
theorem State.receiveEnded {s : State} {k : Nat} {y : Station} (hy : s.station k = some y)
    (hkind : y.slot.kind = some .receive) {o : SeqOutcome} (hfailed : o.failed = true) (hreceived : o ≠ .received) :
    (s.endSequence k o none).slotOf k = { Slot.idle with lastOutcome := some o, barred := y.slot.bound } ∧
      ((s.endSequence k o none).station k).map Station.fault = some (some (y.slot.faultRecord o none s.clock)) ∧
      (s.endSequence k o none).alertSet .sequenceFailed = true ∧ (s.endSequence k o none).noteSet .sequenceDone = true := by
  rw [State.endSequence_of_receive ((congrArg Slot.kind (State.slotOf_of_some hy)).trans hkind)]
  refine ⟨(State.slotOf_endSlot o none hy).trans ?_, (State.fault_endSlot o none hy).trans ?_,
    State.alertSet_endSlot o none hfailed, State.noteSet_endSlot ..⟩
  · rw [Slot.ended, if_pos ⟨hkind, hreceived⟩]
  · rw [if_pos hfailed]

/-- A sequence with no command outstanding, no valve moved and no record to give up is abandoned at once (R136). -/
theorem State.abandon_at_start {s : State} {k : Nat} {y : Station} (hy : s.station k = some y)
    (hstep : y.slot.step = some .rx1) (hmarks : y.slot.marks = Marks.clear) :
    s.abandon k = ((s.raise .notReady).updSlot k fun z => z.tail s.lineTrip .notReady none).endSequence k
      (y.slot.tail s.lineTrip .notReady none).tailOutcome none := by
  have hvalve : (s.raise .notReady).stepValve k = none := by
    have hslot : (s.raise .notReady).slotOf k = y.slot := State.slotOf_of_some hy
    simp only [State.stepValve, hslot, hstep, Option.bind_some, SeqStep.action, Option.bind_none]
  simp only [State.abandon, State.abandonBy, hvalve]
  exact State.beginTailBy_unmarked (s := s.raise .notReady) hy hmarks ..

theorem State.receiveBegun {s : State} {x : Station} {p : Pig} (hx : s.station x.num = some x) (hp : s.pig p.tag = some p)
    (hactive : x.link.state = .active) (hrise : TablesRise s) (barred : Option Nat) :
    ReceiveBegun s (s.startReceive x.num p.tag barred) x p barred := by
  have hstart := s.startReceive_eq x.num p.tag barred
  extract_lets s1 at hstart
  obtain ⟨y, hy, hunflagged⟩ : ∃ y, s1.station x.num = some y ∧ y.unflagged = _ := State.station_seated hx _
  have hslot : y.slot = x.receiving p.tag barred s.lineTrip := (congrArg Station.slot hunflagged : y.unflagged.slot = _)
  have hslotOf : s1.slotOf x.num = x.receiving p.tag barred s.lineTrip := (State.slotOf_of_some hy).trans hslot
  have hdeadline : s1.deadlineReached x.num =
      (s.holdFront p).any fun front => decide (x.position ≤ front + x.tuning.approach) :=
    (State.deadlineReached_seated hx _ hp rfl).trans (Bool.true_and _)
  have hclock : s1.clock = s.clock := State.clock_seated _
  have htrip : s1.lineTrip = s.lineTrip := State.lineTrip_seated _
  have hsecure : s1.receiverSecure x.num = s.receiverSecure x.num := State.receiverSecure_seated _ _
  rw [hdeadline, hsecure] at hstart
  unfold ReceiveBegun
  extract_lets reached idle ended running
  have hended : ∀ (u : State) (z : Station) (o : SeqOutcome), s.startReceive x.num p.tag barred = u.endSequence x.num o none →
      u.station x.num = some z → z.slot.kind = some .receive → z.slot.bound = some p.tag →
      z.slot.failStep.or z.slot.step = some .rx1 → z.slot.failValve = none → u.clock = s.clock → o.failed = true →
      o ≠ .restoreFailed → ended o := by
    intro u z o heq hz hkind hbound hfail hvalve hclock hfailed hrestore
    have hreceived : o ≠ .received := by rintro rfl; cases hfailed
    unfold ended
    rw [heq]
    obtain ⟨hslot, hfault, halert, hnote⟩ := State.receiveEnded hz hkind hfailed hreceived
    refine ⟨by rw [hslot, hbound], ?_, halert, hnote⟩
    rw [hfault, Slot.faultRecord, hkind, hbound, hfail, hvalve, hclock, if_neg hrestore, if_neg hrestore]
    rfl
  by_cases hreached : reached = true
  · rw [if_pos hreached]
    rw [if_pos hreached] at hstart
    have habandon := hstart.trans (State.abandon_at_start hy (congrArg Slot.step hslot) (congrArg Slot.marks hslot))
    have hz := State.station_updSlot_self (s := s1.raise .notReady) (fun z => z.tail s1.lineTrip .notReady none) hy
    rw [hslot] at habandon hz
    refine ⟨hended _ _ .notReady habandon hz ?_ ?_ ?_ rfl ?_ rfl (by decide), ?_⟩
    · exact congrArg Slot.kind hslot
    · exact congrArg Slot.bound hslot
    · exact congrArg (fun z : Slot => z.step.or z.step) hslot
    · exact (State.updSlot_clock ..).trans hclock
    · rw [habandon]
      exact ((AlertsStand.updSlot ..).trans (AlertsStand.engineKeeps.endSequence ..)).stands _ (State.alertSet_raise ..)
  · rw [if_neg hreached]
    rw [if_neg hreached] at hstart
    by_cases hsafe : s.receiverSecure x.num = true
    · rw [if_neg (by rw [hsafe]; decide)]
      rw [if_pos hsafe] at hstart
      have hbefore : s1.deadlineReached x.num = false := hdeadline.trans (Bool.eq_false_iff.2 hreached)
      cases htripped : s.lineTrip with
      | true =>
        rw [htripped] at hslot hslotOf
        have hpaused := hstart.trans (State.runForwardBy_paused hbefore (congrArg Slot.pausePending hslotOf))
        rw [if_pos rfl, hpaused, State.slotOf_updSlot_self _ hy, hslot]
        rfl
      | false =>
        rw [htripped] at hslot hslotOf
        have hclosed : s1.roleIs x.num .receiveInlet .closed = true := by
          rw [← hsecure, State.receiverSecure_eq] at hsafe
          obtain ⟨l, -, hl⟩ := Option.any_eq_true _ _ |>.1 hsafe
          simp only [Bool.and_eq_true] at hl
          exact hl.1.1.2
        obtain ⟨v, hv, hdebounced⟩ := State.roleValve_of_roleIs hclosed
        obtain ⟨w, hw, hsame⟩ := State.roleValve_seated hv
        have hnum : v.num = w.num := (congrArg Valve.num hsame : v.unheld.num = w.unheld.num)
        obtain ⟨hmem, hstation, -⟩ := State.roleValve_mem hv
        have hlink : y.link.state = .active :=
          (congrArg (fun z : Station => z.link.state) hunflagged : y.unflagged.link.state = _).trans hactive
        have hqueue : y.queue = x.queue := (congrArg Station.queue hunflagged : y.unflagged.queue = _)
        have hqueued := hstart.trans (State.runForwardBy_queued hbefore (congrArg Slot.pausePending hslotOf) rfl rfl hv
          (State.offerEnds_open (htrip.trans htripped) (hstation ▸ hy) hlink hdebounced))
        have hrise1 : TablesRise s1 := (SameLine.of_runs (Runs.started s x.num .receive .rx1 p.tag fun _ => barred).1).tablesRise hrise
        rw [if_neg (by decide), hqueued]
        refine ⟨(State.slotOf_queuedBy hy _ _).trans ?_, w, hw, ?_, ?_⟩
        · rw [hslot]
          rfl
        · rw [← hnum, State.command_queuedBy (hrise1.valve_of_mem hmem), hclock]
        · rw [← hnum, State.queue_queuedBy hy hstation, hqueue]
    · rw [if_pos (Bool.eq_false_iff.2 hsafe)]
      rw [if_neg hsafe] at hstart
      refine hended _ _ .notSecure hstart hy ?_ ?_ ?_ ?_ hclock rfl (by decide)
      · exact congrArg Slot.kind hslot
      · exact congrArg Slot.bound hslot
      · exact congrArg (fun z : Slot => z.failStep.or z.step) hslot
      · exact congrArg Slot.failValve hslot

/-! ### ARM_RECEIVE and the automatic start -/

theorem ReceiveBegun.respond {s t : State} {x : Station} {p : Pig} {barred : Option Nat} (h : ReceiveBegun s t x p barred)
    (st : Status) (data : List Byte) : ReceiveBegun s (t.respond st data) x p barred := by
  unfold ReceiveBegun at h ⊢
  exact h

theorem State.beingLaunched_iff (s : State) (u : Nat) :
    s.beingLaunched u = (s.boundStation u).any fun j => decide ((s.slotOf j).kind = some .launch) := by
  unfold State.beingLaunched
  cases s.boundStation u <;> rfl

/-- The checks of ARM_RECEIVE with the sixth asked of OUT and PROVING alone: SILENT has failed the fifth. -/
def State.armChecksAny (s : State) (tag : BitVec 16) (r : Byte) : List (Bool × Status) :=
  let u := tag.toNat
  let k := s.destinationOf u
  [(!s.ready, .notConfigured), (badTag tag || nonzero r, .badField), ((s.pig u).isNone, .noSuch),
   (s.pigIs u [.staged, .trapped, .launchFailed], .wrongState), (decide (s.linkStateOf k = .silent), .silent)] ++
  (decide (s.linkStateOf k = .out ∨ s.linkStateOf k = .proving), .wrongState) ::
    [(s.trapFaultOf k, .trapFault), (s.seqActive k, .seqActive), (s.receiverOccupied k, .trapOccupied),
     (s.claimedBusy k, .busyValve), (s.beingLaunched u, .seqActive)]

/-- Where a link state is not SILENT, it is not ACTIVE exactly if it is OUT or PROVING. -/
theorem firstRefusal_silent_or_inactive (l : LinkState) (a : List (Bool × Status)) :
    firstRefusal ((decide (l = .silent), .silent) :: (decide (l ≠ .active), .wrongState) :: a) =
      firstRefusal ((decide (l = .silent), .silent) :: (decide (l = .out ∨ l = .proving), .wrongState) :: a) := by
  cases l <;> rfl

theorem exec_armReceive_eq_ask (tag : BitVec 16) (r : Byte) (s : State) :
    exec (.armReceive tag r) s = s.ask (s.armChecksAny tag r)
      (.ok (s.startReceive (s.destinationOf tag.toNat) tag.toNat none)) :=
  s.ask_congr _ (firstRefusal_append_congr [_, _, _, _] (firstRefusal_silent_or_inactive ..))

theorem State.claimedBusy_iff (s : State) (k : Nat) :
    s.claimedBusy k = true ↔ ∃ v ∈ s.valves, v.station = k ∧ v.command ≠ none := by
  simp only [State.claimedBusy, State.valvesOf, List.any_eq_true, List.mem_filter, beq_iff_eq, Option.isSome_iff_ne_none,
    and_assoc]

theorem State.receiverOccupied_iff (s : State) (k : Nat) :
    s.receiverOccupied k = true ↔ ∃ q ∈ s.pigs, q.state = .trapped ∧ q.destination = k := by
  simp only [State.receiverOccupied, List.any_eq_true, Bool.and_eq_true, beq_iff_eq]

theorem State.trapFaultOf_eq_any (s : State) (k : Nat) : s.trapFaultOf k = (s.station k).any Station.trapFault := by
  unfold State.trapFaultOf
  cases s.station k <;> rfl

theorem State.armChecks_eq (s : State) (tag : BitVec 16) (r : Byte) :
    (s.armChecksAny tag r).map (fun x => (x.1 = true, x.2)) =
      [(s.lineState = .unconfigured, .notConfigured), (tag = 0 ∨ r ≠ 0, .badField), (s.pig tag.toNat = none, .noSuch),
       ((s.pig tag.toNat).any (fun p => decide (p.state = .staged ∨ p.state = .trapped ∨ p.state = .launchFailed)) = true,
          .wrongState),
       (s.linkStateOf (s.destinationOf tag.toNat) = .silent, .silent),
       (s.linkStateOf (s.destinationOf tag.toNat) = .out ∨ s.linkStateOf (s.destinationOf tag.toNat) = .proving,
          .wrongState),
       ((s.station (s.destinationOf tag.toNat)).any Station.trapFault = true, .trapFault),
       ((s.slotOf (s.destinationOf tag.toNat)).state ≠ .idle, .seqActive),
       (∃ q ∈ s.pigs, q.state = .trapped ∧ q.destination = s.destinationOf tag.toNat, .trapOccupied),
       (∃ v ∈ s.valves, v.station = s.destinationOf tag.toNat ∧ v.command ≠ none, .busyValve),
       ((s.boundStation tag.toNat).any (fun j => decide ((s.slotOf j).kind = some .launch)) = true, .seqActive)] := by
  have hpig : s.pigIs tag.toNat [.staged, .trapped, .launchFailed] =
      (s.pig tag.toNat).any fun p => decide (p.state = .staged ∨ p.state = .trapped ∨ p.state = .launchFailed) := by
    unfold State.pigIs
    cases s.pig tag.toNat with
    | none => rfl
    | some p => simp
  simp only [State.armChecksAny, List.cons_append, List.nil_append, List.map_cons, List.map_nil, s.not_ready_iff,
    Bool.or_eq_true, badTag_iff, nonzero_iff, Option.isNone_iff_eq_none, hpig, decide_eq_true_eq, s.trapFaultOf_eq_any,
    State.seqActive, s.receiverOccupied_iff, s.claimedBusy_iff, s.beingLaunched_iff]

theorem State.linkStateOf_of_some {s : State} {k : Nat} {x : Station} (hx : s.station k = some x) :
    s.linkStateOf k = x.link.state := by
  rw [State.linkStateOf, hx]
  rfl

theorem State.startReceive_stands (s : State) (k tag : Nat) (barred : Option Nat) :
    (s.startReceive k tag barred).train = s.train ∧ (∀ w, (s.startReceive k tag barred).pigPos w = s.pigPos w) ∧
      SameBesidesRecords s (s.startReceive k tag barred) ∧ (s.startReceive k tag barred).port = s.port :=
  have hplaces := RecordsKeepPlace.engineKeeps.startReceive s k tag barred
  ⟨hplaces.train, hplaces.pigPos, (Reaches.startReceive s k tag barred).spreads.besides,
    (ClockAndPortStand.reaches (Reaches.startReceive s k tag barred)).2⟩

/-- An automatic start takes the qualifying record of the greatest hold front, the lower tag between equal fronts. -/
theorem State.autoCandidate_of_first {s : State} {x : Station} {p : Pig} (hrise : TablesRise s)
    (hx : s.station x.num = some x) (hp : p ∈ s.pigs) (hready : s.autoReady x = true) (hqualifies : s.autoQualifies x p = true)
    (hfirst : ∀ q ∈ s.pigs, s.autoQualifies x q = true → ∀ f g, s.holdFront p = some f → s.holdFront q = some g →
      g < f ∨ (g = f ∧ p.tag ≤ q.tag)) : s.autoCandidate x.num = some p := by
  obtain ⟨f, hf⟩ := State.holdFront_of_qualifies hqualifies
  have hpick : s.autoPick x = some p := by
    rw [s.autoPick_eq]
    refine foldl_better _ p _ none (fun _ h => by cases h) (hrise.pigs_pairwise.filter _) (List.mem_filter.2 ⟨hp, hqualifies⟩)
      fun q hq => ?_
    obtain ⟨hq, hqual⟩ := List.mem_filter.1 hq
    obtain ⟨g, hg⟩ := State.holdFront_of_qualifies hqual
    simpa only [hf, hg, Option.getD_some] using hfirst q hq hqual f g hf hg
  simp only [State.autoCandidate, hx, hready, if_true, hpick]

/-- Settles O40. -/
theorem receiveBegins : Obligations.ReceiveBegins := by
  unfold Obligations.ReceiveBegins
  refine fun s hrise => ⟨fun tag r => ?_, fun x p hx hp hready hqualifies hfirst => ?_, fun k hnone => ?_⟩
  · refine .of_ask (t := .ok _) (exec_armReceive_eq_ask tag r s) (s.armChecks_eq tag r) fun hpass hexec p x hp hx => ?_
    have hdest : s.destinationOf tag.toNat = x.num := (State.station_num hx).symm
    have htag : tag.toNat = p.tag := (State.pig_tag hp).symm
    have hlink := State.linkStateOf_of_some hx
    have hsilent := hpass (s.linkStateOf (s.destinationOf tag.toNat) = .silent, .silent) (by simp [State.destinationOf])
    have hinactive := hpass (s.linkStateOf (s.destinationOf tag.toNat) = .out ∨
      s.linkStateOf (s.destinationOf tag.toNat) = .proving, .wrongState) (by simp [State.destinationOf])
    have hactive : x.link.state = .active := by
      change s.linkStateOf (s.destinationOf tag.toNat) = _ at hlink
      rw [hlink] at hsilent hinactive
      cases hstate : x.link.state <;> simp [hstate] at hsilent hinactive ⊢
    change s.station (s.destinationOf tag.toNat) = _ at hx
    rw [hdest] at hexec hx
    rw [htag] at hexec hp
    obtain ⟨htrain, hpos, hsame, hport⟩ := s.startReceive_stands x.num p.tag none
    exact answers_of_respond _ s _ _ _ _ hexec hport
      ⟨(State.receiveBegun hx hp hactive hrise none).respond _ _, htrain, hpos, hsame.respond _ _⟩
  · refine ⟨s.autoStart x.num, rfl, ?_⟩
    have hstart : s.autoStart x.num = s.startReceive x.num p.tag x.slot.barred := by
      simp only [State.autoStart, State.autoCandidate_of_first hrise hx hp hready hqualifies hfirst, State.slotOf_of_some hx]
    have hactive : x.link.state = .active := by
      simp only [State.autoReady, Bool.and_eq_true, decide_eq_true_eq] at hready
      exact hready.1.1.1.2
    rw [hstart]
    obtain ⟨htrain, hpos, hsame, hport⟩ := s.startReceive_stands x.num p.tag x.slot.barred
    exact ⟨State.receiveBegun hx (hrise.pig_of_mem hp) hactive hrise _, htrain, hpos, hsame, hport⟩
  · refine congrArg Host.Outcome.next ?_
    have hcandidate : s.autoCandidate k = none := by
      unfold State.autoCandidate
      split
      · rfl
      · rename_i x hx
        split
        · rename_i hready
          have hno := (hnone x hx).resolve_left fun h => by rw [h] at hready; cases hready
          rw [s.autoPick_eq, List.filter_eq_nil_iff.2 fun q hq => by rw [hno q hq]; decide]
          rfl
        · rfl
    simp only [State.autoStart, hcandidate]

end Sys2Proof.Machine
end

section
/-! SUPPORT. The engine at one station (R29): what its re-examination leaves of every other station, of that station's
valves and of their commands. -/

namespace Sys2Proof.Machine

/-- A relation that holds from a state to itself, chains, and holds across each elementary change the engine makes for the
station j. -/
structure StationKeeps (j : Nat) (R : State → State → Prop) : Prop where
  refl : ∀ s, R s s
  trans : ∀ {s t u}, R s t → R t u → R s u
  /-- The holds of its valves are re-evaluated (R120). -/
  reevalStation : ∀ s, R s (s.reevalStation j)
  /-- A step of its sequence offers its command (R109). -/
  offerStep : ∀ s p, R s (s.offerStep j p).1
  /-- A command of one of its valves ends (R116). -/
  endCommand : ∀ s v o, v ∈ s.valves → v.station = j → R s (s.endCommand v o)
  updSlot : ∀ s f, R s (s.updSlot j f)
  /-- Its follower watch stores the closing records (R138). -/
  storeClosing : ∀ s l, R s (s.modStation j fun x => { x with slot := { x.slot with closing := l } })
  /-- Its fault record is written (R150). -/
  writeFault : ∀ s f b, R s (s.modStation j fun x =>
    { x with fault := some f, trapFault := x.trapFault || b, changed := true })
  raise : ∀ s c, R s (s.raise c)
  note : ∀ s c, R s (s.note c)

namespace StationKeeps

section

variable {j : Nat} {R : State → State → Prop} (h : StationKeeps j R)

include h

theorem followerLook (s : State) (l : List Nat) : R s (s.followerLook j l) := by
  have hstored := h.storeClosing s (s.closingNow j)
  unfold State.followerLook
  extract_lets now s1
  split
  · exact h.trans hstored (h.raise ..)
  · exact hstored

theorem followerWatch (s : State) : R s (s.followerWatch j) := by
  unfold State.followerWatch
  split
  · exact h.followerLook ..
  · exact h.refl s

theorem stepSucceeded (s : State) (p : SeqStep) : R s (s.stepSucceeded j p) := by
  unfold State.stepSucceeded
  extract_lets s1
  split
  · exact h.trans (h.updSlot ..) (h.followerLook ..)
  · exact h.updSlot ..

theorem endSlot (s : State) (o : SeqOutcome) (r : Option (SeqStep × Role × ValveOutcome)) : R s (s.endSlot j o r) := by
  have hfreed := h.trans (h.updSlot s fun y => y.ended o) (h.reevalStation _)
  unfold State.endSlot
  cases o.failed with
  | false => exact h.trans hfreed (h.note ..)
  | true => exact h.trans (h.trans (h.trans hfreed (h.writeFault ..)) (h.note ..)) (h.raise ..)

/-- A change of the slot, and the offer of a step's command from it. -/
theorem offerFrom (s : State) (f : Slot → Slot) (p : SeqStep) : R s ((s.updSlot j f).offerStep j p).1 :=
  h.trans (h.updSlot ..) (h.offerStep ..)

/-! The engine with any ending that keeps the relation at the station. -/

section

variable {e : Ending} (he : ∀ s o r, R s (e s j o r))

include he

theorem runRestoreBy (l : List SeqStep) (s : State) : R s (State.runRestoreBy e j l s) := by
  induction l generalizing s with
  | nil => exact he ..
  | cons p l ih =>
    have hoffer := h.offerFrom s (fun x => x.at p .restoring) p
    unfold State.runRestoreBy
    split
    · exact ih s
    · split
      · exact h.updSlot ..
      · extract_lets s1
        split <;> rename_i heq <;> rw [heq] at hoffer
        · exact hoffer
        · split
          · exact h.trans (h.trans hoffer (h.updSlot ..)) (ih _)
          · exact h.trans hoffer (he ..)

theorem beginTailBy (s : State) (c : SeqOutcome) (f : Option (Role × ValveOutcome)) : R s (s.beginTailBy e j c f) :=
  h.trans (h.updSlot ..) (h.runRestoreBy he ..)

theorem cutShortBy (s : State) {v : Valve} (hv : s.stepValve j = some v) (c : AbortCause) : R s (s.cutShortBy e j v c) := by
  obtain ⟨hmem, hstation⟩ := Runs.stepValve_mem hv
  unfold State.cutShortBy
  split
  · exact h.refl s
  · split
    · exact h.trans (h.endCommand s v _ hmem hstation) (h.beginTailBy he ..)
    · exact h.updSlot ..

theorem abandonBy (s : State) : R s (s.abandonBy e j) := by
  refine h.trans (h.raise s .notReady) ?_
  unfold State.abandonBy
  extract_lets s1 x
  split
  · rename_i v hv
    split
    · exact h.cutShortBy he _ hv _
    · exact h.beginTailBy he ..
  · exact h.beginTailBy he ..

theorem runForwardBy (l : List SeqStep) (s : State) : R s (State.runForwardBy e j l s) := by
  induction l generalizing s with
  | nil => exact he ..
  | cons p l ih =>
    have hoffer := h.offerFrom s (fun x => x.at p .stepping) p
    unfold State.runForwardBy
    split
    · exact h.abandonBy he ..
    · split
      · exact h.updSlot ..
      · split
        · exact h.updSlot ..
        · split
          · exact h.updSlot ..
          · extract_lets s1
            split <;> rename_i heq <;> rw [heq] at hoffer
            · exact hoffer
            · split
              · exact h.trans (h.trans hoffer (h.stepSucceeded ..)) (ih _)
              · split
                · exact h.trans hoffer (h.updSlot ..)
                · exact h.trans hoffer (h.beginTailBy he ..)

theorem goOnAtBy (s : State) (p : SeqStep) : R s (s.goOnAtBy e j p) := by
  unfold State.goOnAtBy
  split
  · exact h.runRestoreBy he ..
  · exact h.runForwardBy he ..

theorem clearanceGateBy (s : State) : R s (s.clearanceGateBy e j) := by
  unfold State.clearanceGateBy
  split
  · split
    · exact h.goOnAtBy he ..
    · exact h.refl s
  · exact h.refl s

end

theorem reviewReceive (s : State) : R s (s.reviewReceive j) := by
  unfold State.reviewReceive
  split
  · refine h.trans ?_ (h.followerWatch ..)
    split
    · exact h.abandonBy h.endSlot ..
    · exact h.clearanceGateBy h.endSlot ..
  · exact h.refl s

end

end StationKeeps

/-! ### What is left of the other stations -/

/-- A valve as a station sees it: its own valves whole, of the others only what they are. -/
def Valve.seenAt (k : Nat) (v : Valve) : Valve := if v.station = k then v else v.site

/-- Where no two valves have one number, the station k, its valves and their commands are untouched. -/
structure Aside (k : Nat) (s t : State) : Prop where
  nums : t.valves.map Valve.num = s.valves.map Valve.num
  same : Rising (s.valves.map Valve.num) →
    t.station k = s.station k ∧ t.valves.map (Valve.seenAt k) = s.valves.map (Valve.seenAt k)

namespace Aside

variable {k : Nat}

theorem of_same {s t : State} (hstation : t.station k = s.station k) (hvalves : t.valves = s.valves) : Aside k s t :=
  ⟨by rw [hvalves], fun _ => ⟨hstation, by rw [hvalves]⟩⟩

theorem refl (s : State) : Aside k s s := of_same rfl rfl

theorem trans {s t u : State} (h : Aside k s t) (g : Aside k t u) : Aside k s u := by
  refine ⟨g.nums.trans h.nums, fun hrise => ?_⟩
  obtain ⟨hstation, hvalves⟩ := h.same hrise
  obtain ⟨gstation, gvalves⟩ := g.same (h.nums ▸ hrise)
  exact ⟨gstation.trans hstation, gvalves.trans hvalves⟩

theorem modStation {s : State} {j : Nat} (hj : j ≠ k) {f : Station → Station} (hf : ∀ x, (f x).num = x.num) :
    Aside k s (s.modStation j f) := of_same (s.station_modStation_ne f hf hj.symm) rfl

theorem touchIf {s : State} {j : Nat} (hj : j ≠ k) (b : Bool) : Aside k s (s.touchIf b j) := by
  rw [State.touchIf_eq]
  exact modStation hj fun _ => rfl

theorem updSlot {s : State} {j : Nat} (hj : j ≠ k) (f : Slot → Slot) : Aside k s (s.updSlot j f) :=
  of_same (s.station_updSlot_ne f hj.symm) (s.valves_updSlot j f)

theorem numOfSite {f : Valve → Valve} (hf : ∀ y, (f y).site = y.site) (y : Valve) : (f y).num = y.num :=
  (congrArg Valve.num (hf y) : (f y).site.num = y.site.num)

/-- A change of a valve of another station that leaves what it is. -/
theorem modValve {s : State} {v : Nat} (hv : ∀ y, s.valve v = some y → y.station ≠ k) {f : Valve → Valve}
    (hf : ∀ y, (f y).site = y.site) : Aside k s (s.modValve v f) := by
  refine ⟨map_mod_of_same Valve.num v f Valve.num (fun y _ => numOfSite hf y) _, fun hrise => ⟨rfl, ?_⟩⟩
  simp only [State.modValve, List.map_map]
  refine List.map_congr_left fun y hy => ?_
  simp only [Function.comp_apply]
  split
  · rename_i hnum
    have hfar := hv y (hnum ▸ find?_of_rising Valve.num _ hrise _ hy)
    have hstation : (f y).station = y.station := (congrArg Valve.station (hf y) : (f y).site.station = y.site.station)
    rw [Valve.seenAt, Valve.seenAt, if_neg hfar, if_neg (hstation ▸ hfar), hf]
  · rfl

/-- The valve of another station that a table holds is the one its number finds. -/
theorem far {s : State} {v : Valve} (hv : v ∈ s.valves) (hfar : v.station ≠ k)
    (hrise : Rising (s.valves.map Valve.num)) : ∀ y, s.valve v.num = some y → y.station ≠ k := fun y hy => by
  obtain rfl : v = y := Option.some.inj ((find?_of_rising Valve.num _ hrise _ hv).symm.trans hy)
  exact hfar

/-- What needs its valves numbered once. -/
theorem of_rising {s t : State} (hnums : t.valves.map Valve.num = s.valves.map Valve.num)
    (h : Rising (s.valves.map Valve.num) → Aside k s t) : Aside k s t := ⟨hnums, fun hrise => (h hrise).same hrise⟩

theorem modValveOf {s : State} {v : Valve} (hv : v ∈ s.valves) (hfar : v.station ≠ k) {f : Valve → Valve}
    (hf : ∀ y, (f y).site = y.site) : Aside k s (s.modValve v.num f) :=
  of_rising (map_mod_of_same Valve.num v.num f Valve.num (fun y _ => numOfSite hf y) _) fun hrise =>
    modValve (far hv hfar hrise) hf

theorem endCommand {s : State} {v : Valve} (hv : v ∈ s.valves) (hfar : v.station ≠ k) (o : ValveOutcome) :
    Aside k s (s.endCommand v o) := by
  refine trans (modValveOf hv hfar (f := fun x => { x with command := none, lastOutcome := some o }) ?_) (modStation hfar ?_)
  · exact fun _ => rfl
  · exact fun _ => rfl

theorem enqueue {s : State} {v : Valve} (hv : v ∈ s.valves) (hfar : v.station ≠ k) (t : Target) (o : Origin) :
    Aside k s (s.enqueue v t o) := by
  refine trans (modValveOf hv hfar (f := fun x => { x with command := some (Command.fresh t o s.clock) }) ?_)
    (modStation hfar ?_)
  · exact fun _ => rfl
  · exact fun _ => rfl

theorem offerStep {s : State} {j : Nat} (hj : j ≠ k) (p : SeqStep) : Aside k s (s.offerStep j p).1 := by
  unfold State.offerStep
  split
  · exact refl s
  · split
    · exact refl s
    · rename_i a _ _ v hv
      obtain ⟨hmem, hstation, -⟩ := State.roleValve_mem hv
      obtain ⟨o, -, heq⟩ | ⟨-, heq⟩ := s.offer_cases v a.2 <;> rw [heq]
      · exact endCommand hmem (hstation.trans_ne hj) o
      · exact enqueue hmem (hstation.trans_ne hj) _ _

theorem updValve {s : State} {v : Nat} (hv : ∀ y, s.valve v = some y → y.station ≠ k) {f : Valve → Valve}
    (hf : ∀ y, (f y).site = y.site) : Aside k s (s.updValve v f) := by
  unfold State.updValve
  split
  · exact refl s
  · rename_i y hy
    exact (modValve hv hf).trans (touchIf (hv y hy) _)

theorem strikeRecords (s : State) (l : List Nat) : Aside k s (s.strikeRecords l) :=
  of_same (by simp only [State.station, State.stations_strikeRecords]) (s.strikeRecords_valves l)

theorem reevalValve {s : State} {v : Nat} (hv : ∀ y, s.valve v = some y → y.station ≠ k) : Aside k s (s.reevalValve v) := by
  unfold State.reevalValve
  split
  · exact refl s
  · rename_i y hy
    split
    · have hheld : ∀ l, Aside k s (s.updValve y.num (y.holding l)) := fun l => by
        refine updValve (fun z hz => hv z ?_) fun _ => rfl
        rwa [← State.valve_num hy]
      obtain heq | ⟨tags, heq⟩ := s.applyHold_cases y (s.holdersNow y) <;> rw [heq]
      · exact hheld _
      · exact ((hheld _).trans (strikeRecords ..)).trans (of_same rfl rfl)
    · exact refl s

theorem reevalStation {s : State} {j : Nat} (hj : j ≠ k) : Aside k s (s.reevalStation j) := by
  have hnums : (s.reevalStation j).valves.map Valve.num = s.valves.map Valve.num := by
    have hmap := congrArg (List.map Valve.num) (Rehold.reevalStation s j).valves
    simp only [List.map_map] at hmap
    exact hmap
  refine of_rising hnums fun hrise => ?_
  have hfar : ∀ n ∈ (s.valvesOf j).map Valve.num, ∀ y, s.valve n = some y → y.station ≠ k := fun n hn => by
    obtain ⟨v, hv, rfl⟩ := List.mem_map.1 hn
    obtain ⟨hmem, hstation⟩ := List.mem_filter.1 hv
    exact far hmem ((beq_iff_eq.1 hstation).trans_ne hj) hrise
  unfold State.reevalStation
  generalize (s.valvesOf j).map Valve.num = l at hfar
  clear hnums hrise
  induction l generalizing s with
  | nil => exact refl s
  | cons n l ih =>
    refine (reevalValve (hfar n (List.mem_cons_self ..))).trans (ih fun m hm y hy => ?_)
    have hsame := (Rehold.reevalValve s n).valve m
    rw [hy] at hsame
    obtain ⟨z, hz, heq⟩ := Option.map_eq_some_iff.1 hsame.symm
    exact ((congrArg Valve.station heq : z.unheld.station = y.unheld.station) : z.station = y.station) ▸
      hfar m (List.mem_cons_of_mem _ hm) z hz

theorem stationKeeps {j : Nat} (hj : j ≠ k) : StationKeeps j (Aside k) where
  refl := refl
  trans := trans
  reevalStation _ := reevalStation hj
  offerStep _ := offerStep hj
  endCommand _ _ o hv hstation := endCommand hv (hstation.trans_ne hj) o
  updSlot _ := updSlot hj
  storeClosing _ _ := modStation hj fun _ => rfl
  writeFault _ _ _ := modStation hj fun _ => rfl
  raise _ _ := of_same rfl rfl
  note _ _ := of_same rfl rfl

end Aside

/-! ### What a re-examination reads of the records -/

/-- What a re-examination reads of a record (R67, R135, R136, R138): its tag and position, whether it is LOST, and its hold
interval. -/
def State.sight (s : State) (p : Pig) : Nat × Nat × Bool × Option (Nat × Nat) :=
  (p.tag, p.position, decide (p.state = .lost), s.holdInterval p)

theorem State.sight_congr {s t : State} (hgauge : t.profiles = s.profiles ∧ t.params = s.params) (p : Pig) :
    t.sight p = s.sight p := by
  simp only [State.sight, State.holdInterval_congr hgauge.1 hgauge.2 (p := p) (q := p) rfl rfl rfl]

/-- A strike is not read, nor is the giving up of a STAGED record. -/
theorem State.sight_letsStrike (s : State) : Pig.LetsStrike fun p q => s.sight q = s.sight p where
  refl _ := rfl
  trans h g := g.trans h
  strike _ := rfl
  giveUp p hstaged := by
    have hbefore : p.inLauncher = true := by simp [Pig.inLauncher, hstaged]
    have hafter : ({ p.markChanged with state := .launchFailed } : Pig).inLauncher = true := rfl
    simp only [State.sight, s.holdInterval_inLauncher hbefore, s.holdInterval_inLauncher hafter, hstaged]
    rfl

/-- The tags, the train and what the hold intervals are measured with stand. -/
structure SameLedger (s t : State) : Prop where
  tags : t.pigs.map Pig.tag = s.pigs.map Pig.tag
  train : t.train = s.train
  gauge : t.profiles = s.profiles ∧ t.params = s.params

namespace SameLedger

theorem of_pigs {s t : State} (hpigs : t.pigs = s.pigs) (htrain : t.train = s.train)
    (hgauge : t.profiles = s.profiles ∧ t.params = s.params) : SameLedger s t := ⟨by rw [hpigs], htrain, hgauge⟩

theorem trans {s t u : State} (h : SameLedger s t) (g : SameLedger t u) : SameLedger s u :=
  ⟨g.tags.trans h.tags, g.train.trans h.train, g.gauge.1.trans h.gauge.1, g.gauge.2.trans h.gauge.2⟩

theorem engineKeeps : EngineKeeps SameLedger where
  refl _ := of_pigs rfl rfl ⟨rfl, rfl⟩
  trans := trans
  reevalValve s v := by
    have hsame := Rehold.reevalValve s v
    have htags := congrArg (List.map Pig.tag) hsame.pigs
    simp only [List.map_map] at htags
    exact ⟨htags, hsame.train, by rw [hsame.rest], by rw [hsame.rest]⟩
  rearmTest s d := by
    unfold State.rearmTest State.updDetector
    split
    · exact of_pigs rfl rfl ⟨rfl, rfl⟩
    · split
      · split
        · exact of_pigs rfl rfl ⟨rfl, rfl⟩
        · rw [State.touchIf_eq]
          exact of_pigs rfl rfl ⟨rfl, rfl⟩
      · exact of_pigs rfl rfl ⟨rfl, rfl⟩
  offerStep s k p := by
    unfold State.offerStep
    split
    · exact of_pigs rfl rfl ⟨rfl, rfl⟩
    · split
      · exact of_pigs rfl rfl ⟨rfl, rfl⟩
      · rename_i a _ _ v _
        obtain ⟨o, -, heq⟩ | ⟨-, heq⟩ := s.offer_cases v a.2 <;> rw [heq]
        · exact of_pigs rfl rfl ⟨rfl, rfl⟩
        · exact of_pigs rfl rfl ⟨rfl, rfl⟩
  endCommand _ _ _ := of_pigs rfl rfl ⟨rfl, rfl⟩
  updSlot s k f := by
    cases hx : s.station k with
    | none =>
      rw [State.updSlot_of_none f hx]
      exact of_pigs rfl rfl ⟨rfl, rfl⟩
    | some x =>
      rw [State.updSlot_of_some f hx]
      exact of_pigs rfl rfl ⟨rfl, rfl⟩
  storeClosing _ _ _ := of_pigs rfl rfl ⟨rfl, rfl⟩
  writeFault _ _ _ _ := of_pigs rfl rfl ⟨rfl, rfl⟩
  giveUp s _ _ u _ := by
    refine ⟨map_mod_of_same Pig.tag u _ Pig.tag ?_ s.pigs, rfl, rfl, rfl⟩
    exact fun _ _ => rfl
  raise _ _ := of_pigs rfl rfl ⟨rfl, rfl⟩
  note _ _ := of_pigs rfl rfl ⟨rfl, rfl⟩

end SameLedger

/-- Two states whose records, valves and their definitions a re-examination reads alike. -/
structure SameSights (s t : State) : Prop where
  ledger : SameLedger s t
  records : RecordsRelate (fun p q => s.sight q = s.sight p) s t
  sites : t.valves.map Valve.site = s.valves.map Valve.site

namespace SameSights

theorem trans {s t u : State} (h : SameSights s t) (g : SameSights t u) : SameSights s u := by
  refine ⟨h.ledger.trans g.ledger, h.records.trans s.sight_letsStrike fun v => ?_, g.sites.trans h.sites⟩
  have hv := g.records v
  generalize t.pig v = a, u.pig v = b at hv
  cases hv with
  | none => exact .none
  | some hab => exact .some (by rwa [State.sight_congr h.ledger.gauge, State.sight_congr h.ledger.gauge] at hab)

theorem engineKeeps : EngineKeeps SameSights where
  refl s := ⟨SameLedger.engineKeeps.refl s, .of_pigs s.sight_letsStrike rfl, rfl⟩
  trans := trans
  reevalValve s v := ⟨SameLedger.engineKeeps.reevalValve s v, .reevalValve s.sight_letsStrike s v,
    (ValvesStand.reevalValve s v).sites⟩
  rearmTest s d := ⟨SameLedger.engineKeeps.rearmTest s d, (RecordsRelate.engineKeeps s.sight_letsStrike).rearmTest s d,
    (ValvesStand.rearmTest s d).sites⟩
  offerStep s k p := ⟨SameLedger.engineKeeps.offerStep s k p,
    (RecordsRelate.engineKeeps s.sight_letsStrike).offerStep s k p, (ValvesStand.engineKeeps.offerStep s k p).sites⟩
  endCommand s v o := ⟨SameLedger.engineKeeps.endCommand s v o, .of_pigs s.sight_letsStrike rfl,
    (ValvesStand.engineKeeps.endCommand s v o).sites⟩
  updSlot s k f := ⟨SameLedger.engineKeeps.updSlot s k f, .of_pigs s.sight_letsStrike (State.updSlot_pigs ..),
    (ValvesStand.updSlot s k f).sites⟩
  storeClosing s k l := ⟨SameLedger.engineKeeps.storeClosing s k l, .of_pigs s.sight_letsStrike rfl, rfl⟩
  writeFault s k f b := ⟨SameLedger.engineKeeps.writeFault s k f b, .of_pigs s.sight_letsStrike rfl, rfl⟩
  giveUp s k o u h := ⟨SameLedger.engineKeeps.giveUp s k o u h,
    (RecordsRelate.engineKeeps s.sight_letsStrike).giveUp s k o u h, rfl⟩
  raise s c := ⟨SameLedger.engineKeeps.raise s c, .of_pigs s.sight_letsStrike rfl, rfl⟩
  note s c := ⟨SameLedger.engineKeeps.note s c, .of_pigs s.sight_letsStrike rfl, rfl⟩

variable {s t : State} (h : SameSights s t)

include h

theorem pig (u : Nat) : (t.pig u).map t.sight = (s.pig u).map s.sight := by
  have hu := h.records u
  generalize s.pig u = a, t.pig u = b at hu
  cases hu with
  | none => rfl
  | some hab => exact congrArg some ((State.sight_congr h.ledger.gauge _).trans hab)

theorem pigPos (u : Nat) : t.pigPos u = s.pigPos u := by
  have hread : ∀ r : State, r.pigPos u = (((r.pig u).map r.sight).map fun x => x.2.1).getD 0 := fun r => by
    rw [Option.map_map]
    rfl
  rw [hread, hread, h.pig]

theorem holdFront (u : Option Nat) : (u.bind t.pig).bind t.holdFront = (u.bind s.pig).bind s.holdFront := by
  cases u with
  | none => rfl
  | some u =>
    have hread : ∀ r : State, (r.pig u).bind r.holdFront = ((r.pig u).map r.sight).bind fun x => x.2.2.2.map Prod.snd :=
      fun r => by
        rw [Option.bind_map]
        rfl
    exact (hread t).trans ((congrArg (Option.bind · fun x => x.2.2.2.map Prod.snd) (h.pig u)).trans (hread s).symm)

theorem sights (hrise : Rising (s.pigs.map Pig.tag)) : t.pigs.map t.sight = s.pigs.map s.sight := by
  have hfound : ∀ r : State, Rising (r.pigs.map Pig.tag) →
      r.pigs.map (fun p => some (r.sight p)) = (r.pigs.map Pig.tag).map fun u => (r.pig u).map r.sight := fun r hr => by
    rw [List.map_map]
    refine List.map_congr_left fun p hp => ?_
    have hp' : r.pig p.tag = some p := find?_of_rising Pig.tag _ hr _ hp
    rw [Function.comp_apply, hp', Option.map_some]
  have hsome : (t.pigs.map t.sight).map some = (s.pigs.map s.sight).map some := by
    rw [List.map_map, List.map_map]
    refine (hfound t (h.ledger.tags ▸ hrise)).trans (Eq.trans ?_ (hfound s hrise).symm)
    rw [h.ledger.tags]
    exact List.map_congr_left fun u _ => h.pig u
  exact List.map_injective_iff.2 (Option.some_injective _) hsome

theorem roleValve (k : Nat) (r : Role) : (t.roleValve k r).map Valve.site = (s.roleValve k r).map Valve.site := by
  have hfind : ∀ u : State, (u.roleValve k r).map Valve.site =
      (u.valves.map Valve.site).find? fun v => v.station == k && v.role == r := fun u => by
    rw [List.find?_map]
    rfl
  rw [hfind, hfind, h.sites]

end SameSights

/-! ### A receive that stands -/

theorem State.clearanceOpen_eq (s : State) (k : Nat) : s.clearanceOpen k = (s.boundPig k).all fun p =>
    s.clearAhead k (s.boundNeighbours p).1 && s.clearBehind k p (s.boundNeighbours p).2 := by
  unfold State.clearanceOpen
  cases s.boundPig k <;> rfl

theorem State.clearAhead_eq (s : State) (k : Nat) (ahead : Option Nat) : s.clearAhead k ahead = ahead.all fun u =>
    ((s.roleValve k .mainline).map Valve.site).all fun v => decide (v.position + v.guardVol < s.pigPos u) := by
  unfold State.clearAhead
  cases ahead with
  | none => rfl
  | some u => cases s.roleValve k .mainline <;> rfl

theorem State.clearBehind_eq (s : State) (k : Nat) (p : Pig) (behind : Option Nat) : s.clearBehind k p behind =
    ((behind.bind s.pig).bind s.holdFront).all fun front =>
      (s.station k).all fun x => decide (front + x.tuning.clearance < p.position) := by
  unfold State.clearBehind
  cases (behind.bind s.pig).bind s.holdFront with
  | none => rfl
  | some front => cases s.station k <;> rfl

section

variable {s t : State} (h : SameSights s t) {k : Nat} (hstation : t.station k = s.station k)

include h hstation

omit h in
theorem State.slotOf_congr : t.slotOf k = s.slotOf k := by rw [State.slotOf, hstation, State.slotOf]

theorem SameSights.deadlineReached : t.deadlineReached k = s.deadlineReached k := by
  have hat : t.atDeadline k = s.atDeadline k := funext fun front => by rw [State.atDeadline_eq, State.atDeadline_eq, hstation]
  rw [State.deadlineReached_eq, State.deadlineReached_eq, State.boundPig, State.boundPig, State.slotOf_congr hstation, h.holdFront, hat]

theorem SameSights.closingNow (hrise : Rising (s.pigs.map Pig.tag)) : t.closingNow k = s.closingNow k := by
  have hat : t.atDeadline k = s.atDeadline k := funext fun front => by rw [State.atDeadline_eq, State.atDeadline_eq, hstation]
  have hread : ∀ r : State, r.closingNow k = ((r.pigs.map r.sight).filter fun x =>
      decide ((r.slotOf k).bound ≠ some x.1) && (x.2.2.2.map Prod.snd).any (r.atDeadline k)).map Prod.fst := fun r => by
    rw [List.filter_map, List.map_map]
    refine congrArg (List.map _) (List.filter_congr fun p _ => ?_)
    rw [Function.comp_apply]
    refine congrArg (decide _ && ·) ?_
    have hfront : (r.sight p).2.2.2.map Prod.snd = r.holdFront p := rfl
    rw [hfront]
    cases r.holdFront p <;> rfl
  rw [hread, hread, h.sights hrise, State.slotOf_congr hstation, hat]

theorem SameSights.clearanceOpen : t.clearanceOpen k = s.clearanceOpen k := by
  have hbound : (t.boundPig k).map t.sight = (s.boundPig k).map s.sight := by
    rw [State.boundPig, State.boundPig, State.slotOf_congr hstation]
    cases (s.slotOf k).bound with
    | none => rfl
    | some u => exact h.pig u
  have hpos : t.pigPos = s.pigPos := funext h.pigPos
  rw [State.clearanceOpen_eq, State.clearanceOpen_eq]
  generalize t.boundPig k = b, s.boundPig k = a at hbound
  cases a with
  | none =>
    cases b with
    | none => rfl
    | some q => cases hbound
  | some p =>
    cases b with
    | none => cases hbound
    | some q =>
      have hsight : t.sight q = s.sight p := Option.some.inj hbound
      simp only [State.sight, Prod.mk.injEq] at hsight
      obtain ⟨htag, hposition, hlost, -⟩ := hsight
      have hneighbours : t.boundNeighbours q = s.boundNeighbours p := by
        simp only [State.boundNeighbours, State.membersAhead, State.membersBehind, htag, hposition, hpos, h.ledger.train,
          decide_eq_decide.1 hlost]
      simp only [Option.all_some, State.clearAhead_eq, State.clearBehind_eq, hneighbours, h.roleValve, hpos, h.holdFront,
        hstation, hposition]

/-- A receive that stands still stands. -/
theorem ReceiveStands.congr (hrise : Rising (s.pigs.map Pig.tag)) (hstands : ReceiveStands s k) : ReceiveStands t k := by
  unfold ReceiveStands at hstands ⊢
  rwa [State.slotOf_congr hstation, h.deadlineReached hstation, h.clearanceOpen hstation, h.closingNow hstation hrise]

end

/-- Storing the closing records that are stored changes nothing (R138). -/
theorem State.storeClosing_same {s : State} (hrise : Rising (s.stations.map Station.num)) {k : Nat} {l : List Nat}
    (h : (s.slotOf k).closing = l) : (s.modStation k fun x => { x with slot := { x.slot with closing := l } }) = s := by
  have hstations : (s.stations.map fun x => if x.num = k then { x with slot := { x.slot with closing := l } } else x) =
      s.stations := by
    refine (List.map_congr_left fun x hx => ?_).trans (List.map_id _)
    split
    · rename_i hk
      have hx' : s.station k = some x := hk ▸ find?_of_rising Station.num _ hrise _ hx
      rw [State.slotOf_of_some hx'] at h
      rw [← h]
      rfl
    · rfl
  rw [State.modStation, hstations]

/-- The re-examination of a receive that stands does nothing (R29). -/
theorem State.reviewReceive_of_stands {s : State} (hrise : Rising (s.stations.map Station.num)) {k : Nat}
    (h : ReceiveStands s k) : s.reviewReceive k = s := by
  unfold State.reviewReceive
  by_cases hkind : (s.slotOf k).kind = some .receive
  · obtain ⟨hdeadline, hwaits, hclosing⟩ := h hkind
    have hgate : s.clearanceGateBy State.endSlot k = s := by
      unfold State.clearanceGateBy
      split
      · rename_i hwait _
        rw [hwaits hwait]
        rfl
      · rfl
    rw [if_pos hkind, hdeadline, if_neg Bool.false_ne_true, hgate, State.followerWatch]
    by_cases hwatching : (s.slotOf k).watching = true
    · have hnow := hclosing hwatching
      rw [if_pos hwatching, State.followerLook, hnow, State.storeClosing_same hrise hnow, if_neg]
      simp only [List.any_eq_true, Bool.and_eq_true, decide_eq_true_eq, not_exists, not_and, Bool.not_eq_true]
      exact fun u hu hout => absurd hu hout
    · exact if_neg hwatching
  · exact if_neg hkind

/-- Where no receive is re-examined but those that stand, the station is untouched. -/
theorem Aside.reviewReceives {s : State} (hrise : TablesRise s) {k : Nat} (hstands : ReceiveStands s k) (l : List Nat) :
    Aside k s (l.foldl State.reviewReceive s) := by
  have hinv : ∀ (l : List Nat) (u : State), Aside k s u → SameSights s u → TablesRise u →
      Aside k s (l.foldl State.reviewReceive u) := by
    intro l
    induction l with
    | nil => exact fun u haside _ _ => haside
    | cons j l ih =>
      intro u haside hsights hnums
      have hstation := (haside.same hrise.valves).1
      have hstanding := hstands.congr hsights hstation hrise.pigs
      have hkeeps : SameSights u (u.reviewReceive j) := SameSights.engineKeeps.reviewReceive u j
      refine ih _ ?_ (hsights.trans hkeeps) ((SameLine.of_runs (Runs.reviewReceive u j)).tablesRise hnums)
      · by_cases hj : j = k
        · rw [hj, State.reviewReceive_of_stands hnums.stations hstanding]
          exact haside
        · exact haside.trans ((Aside.stationKeeps hj).reviewReceive u)
  exact hinv l s (.refl s) (SameSights.engineKeeps.refl s) hrise

end Sys2Proof.Machine
end

section
/-! SUPPORT. The end of a sequence (R148 to R150), the handing on of a given-up record included (R29, R35), and how a
sequence is aborted (R142, R144 to R146). -/

namespace Sys2Proof.Machine

/-! ### What another station's engine leaves of a station's valves -/

theorem Valve.seenAt_station (k : Nat) (v : Valve) : (v.seenAt k).station = v.station := by
  unfold Valve.seenAt
  split <;> rfl

theorem Valve.seenAt_num (k : Nat) (v : Valve) : (v.seenAt k).num = v.num := by
  unfold Valve.seenAt
  split <;> rfl

/-- A valve of the station is the one it was. -/
theorem Aside.valve {k : Nat} {s t : State} (h : Aside k s t) (hrise : Rising (s.valves.map Valve.num)) {v : Nat} {y : Valve}
    (hy : s.valve v = some y) (hstation : y.station = k) : t.valve v = some y := by
  have hmap := find?_map_congr Valve.num (Valve.seenAt k)
    (fun a b heq => (Valve.seenAt_num k a).symm.trans ((congrArg Valve.num heq).trans (Valve.seenAt_num k b))) v _ _
    (h.same hrise).2
  have hy' : (s.valves.find? fun z => z.num == v) = some y := hy
  rw [hy', Option.map_some, Valve.seenAt, if_pos hstation] at hmap
  obtain ⟨z, hz, hsame⟩ := Option.map_eq_some_iff.1 hmap
  have hzstation : z.station = k := (Valve.seenAt_station k z).symm.trans ((congrArg Valve.station hsame).trans hstation)
  rw [Valve.seenAt, if_pos hzstation] at hsame
  exact hsame ▸ hz

/-! ### The re-arm tests at a record's change -/

theorem State.unflagged_touchIf (s : State) (b : Bool) (k : Nat) :
    (s.touchIf b k).stations.map Station.unflagged = s.stations.map Station.unflagged := (Rehold.touchIf s b k).stations

/-- A re-arm test changes no station but by its changed flag, and no valve. -/
theorem State.rearmTest_leaves (s : State) (d : Nat) :
    (s.rearmTest d).stations.map Station.unflagged = s.stations.map Station.unflagged ∧ (s.rearmTest d).valves = s.valves := by
  unfold State.rearmTest State.updDetector
  split
  · exact ⟨rfl, rfl⟩
  · split
    · split
      · exact ⟨rfl, rfl⟩
      · refine ⟨State.unflagged_touchIf .., ?_⟩
        rw [State.touchIf_eq]
        rfl
    · exact ⟨rfl, rfl⟩

theorem State.rearmAwaiting_leaves (s : State) (t : Nat) :
    (s.rearmAwaiting t).stations.map Station.unflagged = s.stations.map Station.unflagged ∧
      (s.rearmAwaiting t).valves = s.valves := by
  unfold State.rearmAwaiting
  generalize ((s.detectors.filter fun d => d.awaited == some t).map Detector.num) = l
  induction l generalizing s with
  | nil => exact ⟨rfl, rfl⟩
  | cons d l ih =>
    obtain ⟨hstations, hvalves⟩ := ih (s.rearmTest d)
    obtain ⟨hfirst, hfirst'⟩ := s.rearmTest_leaves d
    exact ⟨hstations.trans hfirst, hvalves.trans hfirst'⟩

/-- What a re-arm test leaves of a station, by its number. -/
theorem State.station_rearmAwaiting (s : State) (t k : Nat) :
    ((s.rearmAwaiting t).station k).map Station.unflagged = (s.station k).map Station.unflagged :=
  find?_map_congr Station.num Station.unflagged
    (fun a b heq => show a.unflagged.num = b.unflagged.num from congrArg _ heq) k _ _ (s.rearmAwaiting_leaves t).1

/-! ### The handing on of a given-up record -/

theorem ReceiveStands.of_not_receive {s : State} {k : Nat} (h : (s.slotOf k).kind ≠ some .receive) : ReceiveStands s k :=
  fun hkind => absurd hkind h

section

variable {s : State} (hrise : TablesRise s) {k : Nat} (hkind : (s.slotOf k).kind ≠ some .receive) (u : Nat)

include hrise hkind

/-- The handing on of a record's change, from its re-arm tests on, leaves a launch's station untouched (R29). -/
theorem State.handAside_aside : Aside k (s.rearmAwaiting u) (s.handAside u) := by
  have hrise1 : TablesRise (s.rearmAwaiting u) := (SameLine.of_runs (Runs.rearmAwaiting s u)).tablesRise hrise
  refine Aside.reviewReceives hrise1 (.of_not_receive ?_) _
  have hslot : (s.rearmAwaiting u).slotOf k = s.slotOf k := by
    have hmap := congrArg (Option.map Station.slot) (s.station_rearmAwaiting u k)
    simp only [Option.map_map] at hmap
    exact congrArg (Option.getD · Slot.idle) hmap
  rwa [hslot]

theorem State.station_handAside : ((s.handAside u).station k).map Station.unflagged = (s.station k).map Station.unflagged := by
  have haside := State.handAside_aside hrise hkind u
  rw [(haside.same (by rw [(s.rearmAwaiting_leaves u).2]; exact hrise.valves)).1, s.station_rearmAwaiting u k]

theorem State.valve_handAside {v : Nat} {y : Valve} (hy : s.valve v = some y) (hstation : y.station = k) :
    (s.handAside u).valve v = some y := by
  have hvalves := (s.rearmAwaiting_leaves u).2
  refine (State.handAside_aside hrise hkind u).valve (by rw [hvalves]; exact hrise.valves) ?_ hstation
  rwa [State.valve, hvalves]

end

/-! ### The end of a sequence -/

/-- Only a launch gives a record up (R35). -/
theorem State.kind_of_givenUp {s : State} {k u : Nat} {o : SeqOutcome} (h : s.givenUp k o = some u) :
    (s.slotOf k).kind = some .launch := by
  unfold State.givenUp at h
  split at h
  · assumption
  · cases h

theorem TablesRise.recordAtEnd {s : State} (h : TablesRise s) (u : Nat) : TablesRise (s.recordAtEnd u) := by
  refine ⟨h.stations, h.detectors, h.valves, h.meters, ?_⟩
  have htags : (s.recordAtEnd u).pigs.map Pig.tag = s.pigs.map Pig.tag :=
    map_mod_of_same Pig.tag u (fun p => { p.markChanged with state := .launchFailed }) Pig.tag (fun _ _ => rfl) s.pigs
  rw [htags]
  exact h.pigs

section

variable {s : State} (hrise : TablesRise s) {k : Nat} {x : Station} (hx : s.station k = some x) (o : SeqOutcome)
  (r : Option (SeqStep × Role × ValveOutcome))

include hrise hx

theorem State.station_endSequence :
    ((s.endSequence k o r).station k).map Station.unflagged = some (x.sequenceEnded o r s.clock) := by
  unfold State.endSequence
  split
  · exact State.station_endSlot o r hx
  · rename_i u hu
    have hkind : ((s.recordAtEnd u).slotOf k).kind ≠ some .receive := fun h => by
      cases (State.kind_of_givenUp hu).symm.trans h
    have hstation := State.station_handAside (hrise.recordAtEnd u) hkind u
    have hx' : (s.recordAtEnd u).station k = some x := hx
    rw [hx'] at hstation
    obtain ⟨y, hy, hsame⟩ := Option.map_eq_some_iff.1 hstation
    have hclock : ((s.recordAtEnd u).handAside u).clock = s.clock :=
      (ClockAndPortStand.runs (Runs.handAside (s.recordAtEnd u) u)).1
    rw [State.station_endSlot o r hy, hclock]
    exact (congrArg (fun z : Station => some (z.sequenceEnded o r s.clock)) hsame :
      some (y.unflagged.sequenceEnded o r s.clock) = some (x.unflagged.sequenceEnded o r s.clock))

theorem State.slotOf_endSequence : (s.endSequence k o r).slotOf k = x.slot.ended o := by
  have hslot := congrArg (Option.map Station.slot) (State.station_endSequence hrise hx o r)
  rw [Option.map_map] at hslot
  exact congrArg (Option.getD · Slot.idle) hslot

theorem State.faults_endSequence : ((s.endSequence k o r).station k).map (fun z => (z.trapFault, z.fault)) =
    some (x.trapFault || (o.failed && decide (o = .restoreFailed)),
      if o.failed then some (x.slot.faultRecord o r s.clock) else x.fault) := by
  have hfault := congrArg (Option.map fun z : Station => (z.trapFault, z.fault)) (State.station_endSequence hrise hx o r)
  rwa [Option.map_map] at hfault

omit hx in
/-- The station's valves keep their commands and their last outcomes. -/
theorem State.valve_endSequence {v : Nat} {y : Valve} (hy : s.valve v = some y) (hstation : y.station = k) :
    ((s.endSequence k o r).valve v).map Valve.unheld = some y.unheld := by
  have hend : ∀ u : State, u.valve v = some y → ((u.endSlot k o r).valve v).map Valve.unheld = some y.unheld := fun u hu => by
    have hfreed := (Rehold.reevalStation (u.updSlot k fun z => z.ended o) k).valve v
    rw [State.valve_updSlot, hu] at hfreed
    unfold State.endSlot
    cases o.failed with
    | false => exact hfreed
    | true => exact hfreed
  unfold State.endSequence
  split
  · exact hend s hy
  · rename_i u hu
    have hkind : ((s.recordAtEnd u).slotOf k).kind ≠ some .receive := fun h => by
      cases (State.kind_of_givenUp hu).symm.trans h
    exact hend _ (State.valve_handAside (hrise.recordAtEnd u) hkind u hy hstation)

end

theorem State.noteSet_endSequence (s : State) (k : Nat) (o : SeqOutcome) (r : Option (SeqStep × Role × ValveOutcome)) :
    (s.endSequence k o r).noteSet .sequenceDone = true := by
  unfold State.endSequence
  split
  · exact State.noteSet_endSlot ..
  · exact State.noteSet_endSlot ..

theorem State.alertSet_endSequence (s : State) (k : Nat) {o : SeqOutcome} (r : Option (SeqStep × Role × ValveOutcome))
    (hfailed : o.failed = true) : (s.endSequence k o r).alertSet .sequenceFailed = true := by
  unfold State.endSequence
  split
  · exact State.alertSet_endSlot o r hfailed
  · exact State.alertSet_endSlot o r hfailed

/-- A record that is not STAGED keeps its state through the engine (R35). -/
theorem RecordsKeepPlace.state_of_not_staged {s t : State} (h : RecordsKeepPlace s t) {u : Nat} {p : Pig}
    (hp : s.pig u = some p) (hstate : p.state ≠ .staged) : (t.pig u).map Pig.state = some p.state := by
  obtain ⟨q, hq, -, hkept⟩ := h.of_some hp
  rw [hq, Option.map_some, hkept.resolve_right fun hno => hstate hno.1]

theorem State.pig_state_endSlot (s : State) (k u : Nat) (o : SeqOutcome) (r : Option (SeqStep × Role × ValveOutcome)) :
    ((s.endSlot k o r).pig u).map Pig.state = (s.pig u).map Pig.state := by
  have hsame := congrArg (Option.map Pig.state) ((Rehold.reevalStation (s.updSlot k fun z => z.ended o) k).pig u)
  simp only [Option.map_map] at hsame
  have hslot : (s.updSlot k fun z => z.ended o).pig u = s.pig u := by rw [State.pig, State.updSlot_pigs, State.pig]
  rw [hslot] at hsame
  unfold State.endSlot
  cases o.failed with
  | false => exact hsame
  | true => exact hsame

/-- The record bound to a sequence that ends short of success: given up where it is STAGED and the sequence a launch, and
else in its state (R148). -/
theorem State.pig_endSequence {s : State} {k : Nat} {o : SeqOutcome} {r : Option (SeqStep × Role × ValveOutcome)} {tag : Nat}
    {p : Pig} (hbound : (s.slotOf k).bound = some tag) (hp : s.pig tag = some p) (hlaunched : o ≠ .launched) :
    ((s.endSequence k o r).pig tag).map Pig.state =
      some (if p.state = .staged ∧ (s.slotOf k).kind = some .launch then .launchFailed else p.state) := by
  have hboundPig : s.boundPig k = some p := by rw [State.boundPig, hbound]; exact hp
  by_cases hgiven : p.state = .staged ∧ (s.slotOf k).kind = some .launch
  · obtain ⟨hstaged, hkind⟩ := hgiven
    have hup : s.givenUp k o = some p.tag := by
      simp only [State.givenUp, hkind, hboundPig, hstaged, ne_eq, hlaunched, not_false_eq_true, and_self, if_true]
    obtain rfl := State.pig_tag hp
    have hfailed : (s.recordAtEnd p.tag).pig p.tag = some { p.markChanged with state := .launchFailed } :=
      State.pig_modPig_self (f := fun q => { q.markChanged with state := .launchFailed }) (fun _ h => h) hp
    rw [if_pos ⟨hstaged, hkind⟩]
    simp only [State.endSequence, hup]
    rw [State.pig_state_endSlot]
    exact (RecordsKeepPlace.engineKeeps.handAside (s.recordAtEnd p.tag) p.tag).state_of_not_staged hfailed fun h => by cases h
  · have hup : s.givenUp k o = none := by
      unfold State.givenUp
      split
      · rename_i q hkind hq
        obtain rfl := Option.some.inj (hboundPig.symm.trans hq)
        exact if_neg fun h => hgiven ⟨h.1, hkind⟩
      · rfl
    rw [if_neg hgiven]
    simp only [State.endSequence, hup]
    rw [State.pig_state_endSlot, hp, Option.map_some]

end Sys2Proof.Machine
end

section
/-! SUPPORT. ABORT_SEQUENCE (R142, R144 to R146): the tail's first marked step, and the end of a sequence none of whose
valves has moved. -/

namespace Sys2Proof.Machine

/-! ### The first step of a restore tail -/

theorem State.updSlot_same (s : State) (k : Nat) (f : Slot → Slot) :
    s.updSlot k f = { s with stations := (s.updSlot k f).stations } := by
  cases hx : s.station k with
  | none => rw [State.updSlot_of_none f hx]
  | some x =>
    rw [State.updSlot_of_some f hx]
    rfl

/-- The tail passes over steps whose valves are not marked (R146). -/
theorem State.runRestoreBy_skip {s : State} {k : Nat} (e : Ending) (l : List SeqStep) {before : List SeqStep}
    (h : ∀ q ∈ before, q.marked (s.slotOf k).marks = false) :
    State.runRestoreBy e k (before ++ l) s = State.runRestoreBy e k l s := by
  induction before with
  | nil => rfl
  | cons q before ih =>
    have hq := h q (List.mem_cons_self ..)
    simp only [List.cons_append, State.runRestoreBy, hq, if_true]
    exact ih fun r hr => h r (List.mem_cons_of_mem _ hr)

/-- A restore step with its valve's role, its target and whether that valve is marked (R146). -/
def SeqStep.entry (m : Marks) (p : SeqStep) : SeqStep × Role × Target × Bool :=
  (p, p.role, (p.action.map Prod.snd).getD .toOpen, p.marked m)

/-- The first marked step in R146's order, and the steps before it. -/
theorem firstMarked {m : Marks} {p : SeqStep} {role : Role} {target : Target} {b : Bool}
    (h : (restoreSteps.map (SeqStep.entry m)).find? (fun e => e.2.2.2) = some (p, role, target, b)) :
    p.action = some (role, target) ∧ p.marked m = true ∧
      ∃ before rest, restoreSteps = before ++ p :: rest ∧ ∀ q ∈ before, q.marked m = false := by
  rw [List.find?_map] at h
  obtain ⟨q, hq, hentry⟩ := Option.map_eq_some_iff.1 h
  simp only [SeqStep.entry, Prod.mk.injEq] at hentry
  obtain ⟨rfl, hrole, htarget, -⟩ := hentry
  obtain ⟨hmarked, before, rest, hsplit, hbefore⟩ := List.find?_eq_some_iff_append.1 hq
  refine ⟨?_, hmarked, before, rest, hsplit, fun r hr => by simpa [SeqStep.entry] using hbefore r hr⟩
  have hmem : q ∈ restoreSteps := hsplit ▸ List.mem_append_right _ (List.mem_cons_self ..)
  rw [← hrole, ← htarget]
  clear hsplit hbefore hmarked hq hrole htarget h
  revert q
  decide

theorem State.runRestoreBy_paused {s : State} {e : Ending} {k : Nat} {p : SeqStep} {rest : List SeqStep} {c : PauseCause}
    (hmarked : p.marked (s.slotOf k).marks = true) (hpending : (s.slotOf k).pausePending = some c) :
    State.runRestoreBy e k (p :: rest) s = s.updSlot k fun x => x.pausedAt p c := by
  simp only [State.runRestoreBy, hmarked, Bool.true_eq_false, if_false, hpending]

/-! ### The end of a sequence none of whose valves has moved -/

theorem Slot.tailOutcome_of_cause {x : Slot} {c : SeqOutcome} (hcause : x.cause = some c) (hexit : x.exitInTail = false) :
    x.tailOutcome = c := by
  simp only [Slot.tailOutcome, hexit, Bool.false_eq_true, and_false, if_false, hcause, Option.getD_some]

/-- The change of a slot keeps the tables' numbers. -/
theorem TablesRise.updSlot {s : State} (h : TablesRise s) (k : Nat) (f : Slot → Slot) : TablesRise (s.updSlot k f) :=
  (SameLine.updSlot s k f).tablesRise h

theorem State.pig_updSlot (s : State) (k : Nat) (f : Slot → Slot) (u : Nat) : (s.updSlot k f).pig u = s.pig u := by
  rw [State.pig, State.updSlot_pigs, State.pig]

/-- What the end of a sequence aborted with no valve moved leaves (R142, R148). -/
structure AbortEnded (s t : State) (k : Nat) (x : Station) : Prop where
  slot : t.slotOf k = { Slot.idle with
    lastOutcome := some .aborted, barred := if x.slot.kind = some .receive then x.slot.bound else x.slot.barred }
  record : ∀ tag p, x.slot.bound = some tag → s.pig tag = some p → (t.pig tag).map Pig.state =
    some (if p.state = .staged ∧ x.slot.kind = some .launch then .launchFailed else p.state)
  noted : t.noteSet .sequenceDone = true
  fault : (t.station k).map Station.fault = some x.fault

theorem AbortEnded.respond {s t : State} {k : Nat} {x : Station} (h : AbortEnded s t k x) (st : Status)
    (data : List Byte) : AbortEnded s (t.respond st data) k x := ⟨h.slot, h.record, h.noted, h.fault⟩

section

variable {s : State} (hrise : TablesRise s) {k : Nat} {x : Station} (hx : s.station k = some x)
  (hmarks : x.slot.marks = Marks.clear) (hexit : x.slot.exitInTail = false)

include hx hmarks hexit

/-- The tail has nothing to restore: the sequence ends ABORTED. -/
theorem State.beginTail_aborted : s.beginTail k .aborted none =
    (s.updSlot k fun y => y.tail s.lineTrip .aborted none).endSequence k .aborted none := by
  refine (State.beginTailBy_unmarked hx hmarks ..).trans ?_
  have houtcome : (x.slot.tail s.lineTrip .aborted none).tailOutcome = .aborted := Slot.tailOutcome_of_cause rfl hexit
  rw [houtcome]

include hrise

theorem State.abortEnded : AbortEnded s (s.beginTail k .aborted none) k x := by
  rw [State.beginTail_aborted hx hmarks hexit]
  have hrise1 := hrise.updSlot k fun y => y.tail s.lineTrip .aborted none
  have hx1 := State.station_updSlot_self (fun y => y.tail s.lineTrip .aborted none) hx
  refine ⟨?_, fun tag p hbound hp => ?_, State.noteSet_endSequence .., ?_⟩
  · refine (State.slotOf_endSequence hrise1 hx1 .aborted none).trans ?_
    simp only [Slot.ended, ne_eq, reduceCtorEq, not_false_eq_true, and_true]
    rfl
  · have hslot := State.slotOf_of_some hx1
    have hend := State.pig_endSequence (o := .aborted) (r := none) ((congrArg Slot.bound hslot).trans hbound)
      ((State.pig_updSlot ..).trans hp) (by decide)
    rw [hslot] at hend
    exact hend
  · have hfaults := congrArg (Option.map Prod.snd) (State.faults_endSequence hrise1 hx1 .aborted none)
    rw [Option.map_map] at hfaults
    exact hfaults

/-- The valves of the station keep their commands and their last outcomes. -/
theorem State.valve_abortEnded {v : Nat} {y : Valve} (hy : s.valve v = some y) (hstation : y.station = k) :
    ((s.beginTail k .aborted none).valve v).map Valve.unheld = some y.unheld := by
  rw [State.beginTail_aborted hx hmarks hexit]
  exact State.valve_endSequence (hrise.updSlot k _) .aborted none ((State.valve_updSlot ..).trans hy) hstation

end

/-- What begins a tail moves no record and leaves all but the records and what watches them. -/
theorem State.beginTail_stands (s : State) (k : Nat) (c : SeqOutcome) (f : Option (Role × ValveOutcome)) :
    (s.beginTail k c f).train = s.train ∧ (∀ u, (s.beginTail k c f).pigPos u = s.pigPos u) ∧
      SameBesidesRecords s (s.beginTail k c f) ∧ (s.beginTail k c f).port = s.port ∧ (s.beginTail k c f).clock = s.clock :=
  have hplaces := RecordsKeepPlace.engineKeeps.beginTailBy RecordsKeepPlace.engineKeeps.endSequence s k c f
  have hreaches := engineKeeps_reaches.beginTailBy engineKeeps_reaches.endSequence s k c f
  have hstand := ClockAndPortStand.reaches hreaches
  ⟨hplaces.train, hplaces.pigPos, hreaches.spreads.besides, hstand.2, hstand.1⟩

/-! ### ABORT_SEQUENCE -/

theorem Slot.ending_iff (x : Slot) : x.ending = true ↔
    x.state = .restoring ∨ (x.state = .paused ∧ ∃ p ∈ restoreSteps, x.resume = some p) ∨ x.abortPending ≠ none := by
  have hresume : (x.resume.map SeqStep.isRestore).getD false = true ↔ ∃ p ∈ restoreSteps, x.resume = some p := by
    cases x.resume with
    | none => simp
    | some p => simp [SeqStep.isRestore_iff]
  simp only [Slot.ending, Bool.or_eq_true, Bool.and_eq_true, decide_eq_true_eq, hresume, or_assoc]

theorem State.abortAt_of_waiting {s : State} {k : Nat} (h : (s.slotOf k).state ≠ .stepping) :
    s.abortAt k = s.beginTail k .aborted none := by
  unfold State.abortAt
  extract_lets x
  split
  · rename_i hstepping _
    exact absurd hstepping h
  · rfl

theorem State.abortAt_of_stepping {s : State} {k : Nat} {v : Valve} (h : (s.slotOf k).state = .stepping)
    (hv : s.stepValve k = some v) : s.abortAt k = s.cutShort k v .aborted := by
  simp only [State.abortAt, h, hv]

/-- The tail under LINE_TRIP pauses at its first marked step (R145, R146). -/
theorem State.beginTail_paused {s : State} {k : Nat} {x : Station} {p : SeqStep} {role : Role} {target : Target} {b : Bool}
    (hx : s.station k = some x) (hfirst : (restoreSteps.map (SeqStep.entry x.slot.marks)).find? (fun e => e.2.2.2) =
      some (p, role, target, b)) (htrip : s.lineTrip = true) (c : SeqOutcome) (f : Option (Role × ValveOutcome)) :
    s.beginTail k c f = (s.updSlot k fun y => y.tail s.lineTrip c f).updSlot k fun y => y.pausedAt p .trip := by
  obtain ⟨-, hmarked, before, rest, hsplit, hbefore⟩ := firstMarked hfirst
  have hslot := State.slotOf_updSlot_self (fun y => y.tail s.lineTrip c f) hx
  change State.runRestoreBy State.endSequence k restoreSteps (s.updSlot k fun y => y.tail s.lineTrip c f) = _
  rw [hsplit, State.runRestoreBy_skip _ _ (by rw [hslot]; exact hbefore)]
  refine State.runRestoreBy_paused (by rw [hslot]; exact hmarked) ?_
  rw [hslot, htrip]
  rfl

/-- With LINE_TRIP released the tail queues the command of its first marked step (R146). -/
theorem State.beginTail_queued {s : State} {k : Nat} {x : Station} {p : SeqStep} {role : Role} {target : Target} {b : Bool}
    {v : Valve} (hx : s.station k = some x)
    (hfirst : (restoreSteps.map (SeqStep.entry x.slot.marks)).find? (fun e => e.2.2.2) = some (p, role, target, b))
    (hpending : x.slot.tailPending s.lineTrip = none) (hv : s.roleValve k role = some v)
    (hoffer : s.offerEnds v target = none) (c : SeqOutcome) (f : Option (Role × ValveOutcome)) :
    s.beginTail k c f = (s.updSlot k fun y => y.tail s.lineTrip c f).queuedBy k (fun y => y.at p .restoring) v target := by
  obtain ⟨haction, hmarked, before, rest, hsplit, hbefore⟩ := firstMarked hfirst
  have hslot := State.slotOf_updSlot_self (fun y => y.tail s.lineTrip c f) hx
  change State.runRestoreBy State.endSequence k restoreSteps (s.updSlot k fun y => y.tail s.lineTrip c f) = _
  rw [hsplit, State.runRestoreBy_skip _ _ (by rw [hslot]; exact hbefore)]
  exact State.runRestoreBy_queued (by rw [hslot]; exact hmarked) (by rw [hslot]; exact hpending) haction
    ((State.roleValve_updSlot ..).trans hv) ((State.offerEnds_updSlot ..).trans hoffer)

/-- A command carried or TRAVELLING is waited for, and one still waiting is withdrawn (R144). -/
theorem State.cutShort_of_some {s : State} {k : Nat} {v : Valve} {c : Command} (hc : v.command = some c) (a : AbortCause) :
    s.cutShort k v a = if c.phase = .queued ∧ c.carried = false then (s.endCommand v .withdrawn).beginTail k a.outcome none
      else s.updSlot k fun x => { x with abortPending := some a } := by
  simp only [State.cutShort, State.cutShortBy, hc]
  rfl

/-- Settles O42: an abort begins the restore tail, which ends the sequence where nothing has moved, or waits for a command
that is carried or TRAVELLING. -/
theorem sequencesAbort : Obligations.SequencesAbort := by
  unfold Obligations.SequencesAbort
  intro s station r hrise k x ended stands
  refine .of_ask (t := .ok _) rfl ((s.sequenceChecks_eq ..).trans ?_) fun hpass hexec => ?_
  · simp only [List.map_cons, List.map_nil, decide_eq_true_eq]
    rfl
  obtain ⟨y, hy, hslot⟩ : ∃ y, s.station k = some y ∧ x = y.slot := by
    obtain ⟨y, hy⟩ := Option.ne_none_iff_exists'.1 (hpass (s.station k = none, .noSuch) (by simp))
    exact ⟨y, hy, State.slotOf_of_some hy⟩
  have hended : ∀ {u t : State}, AbortEnded u t k y → u.pigs = s.pigs → ended t := fun {u t} h hpigs => by
    have hpig : ∀ tag, u.pig tag = s.pig tag := fun tag => by rw [State.pig, hpigs, State.pig]
    unfold ended
    rw [hslot]
    exact ⟨h.slot, fun tag p hbound hp => h.record tag p hbound ((hpig tag).trans hp), h.noted,
      h.fault.trans (congrArg (Option.map Station.fault) hy).symm⟩
  constructor
  · intro hdone
    rw [if_pos (x.ending_iff.2 hdone)] at hexec
    exact answers_of_respond _ s s _ _ _ hexec rfl rfl
  · intro hrestoring hpaused habort hexit
    have hrunning : ¬x.ending = true := fun h => (x.ending_iff.1 h).elim hrestoring (·.elim hpaused (· habort))
    rw [if_neg hrunning] at hexec
    refine ⟨fun hwaits hmarks => ?_, fun p role target marked v hfirst hv hwaits => ?_,
      fun v c hstepping hv hc => ⟨fun hcarried => ?_, fun hqueued hcarried hmarks => ?_⟩⟩
    · rw [State.abortAt_of_waiting hwaits] at hexec
      obtain ⟨htrain, hpos, hsame, hport, -⟩ := s.beginTail_stands k .aborted none
      exact answers_of_respond _ s _ _ _ _ hexec hport
        ⟨hended ((State.abortEnded hrise hy (hslot ▸ hmarks) (hslot ▸ hexit)).respond _ _) rfl, htrain, hpos, hsame.respond _ _⟩
    · rw [State.abortAt_of_waiting hwaits] at hexec
      have hport := (s.beginTail_stands k .aborted none).2.2.2.1
      have hentries : (restoreSteps.map (SeqStep.entry y.slot.marks)).find? (fun e => e.2.2.2) = some (p, role, target, marked) := by
        rw [← hslot]
        exact hfirst
      have hy1 := State.station_updSlot_self (fun z => z.tail s.lineTrip .aborted none) hy
      refine ⟨fun htrip => ?_, fun htrip hpending hoffer => ?_⟩
      · have hstate := State.beginTail_paused hy hentries htrip .aborted none
        refine answers_of_respond _ s _ _ _ _ hexec hport ⟨?_, ?_⟩
        · refine (congrArg (fun t => t.slotOf k) hstate).trans ((State.slotOf_updSlot_self _ hy1).trans ?_)
          rw [hslot]
          rfl
        · have hsame : s.beginTail k .aborted none = { s with stations := (s.beginTail k .aborted none).stations } := by
            rw [hstate, State.updSlot_same, State.updSlot_same s]
          exact congrArg (fun u : State => { u with port := ((s.beginTail k .aborted none).respond .ok []).port }) hsame
      · have hnone : y.slot.tailPending s.lineTrip = none := by
          rw [hslot] at hpending
          cases hp : y.slot.pausePending with
          | none => simp [Slot.tailPending, htrip, hp]
          | some c => cases c <;> simp_all [Slot.tailPending]
        have hstate := State.beginTail_queued hy hentries hnone hv hoffer .aborted none
        have hqueue := State.queue_queuedBy hy1 (State.roleValve_mem hv).2.1 (fun z => z.at p .restoring) target
        refine answers_of_respond _ s _ _ _ _ hexec hport ⟨?_, ?_, ?_, ?_⟩
        · refine (congrArg (fun t => t.slotOf k) hstate).trans ((State.slotOf_queuedBy hy1 _ target).trans ?_)
          rw [Slot.at_of_ne _ p (by decide), hslot]
          simp only [Station.withSlot, Slot.tail, hnone]
        · refine (congrArg (fun t => (t.valve v.num).bind Valve.command) hstate).trans ?_
          rw [State.command_queuedBy ((State.valve_updSlot ..).trans (hrise.valve_roleValve hv)), State.updSlot_clock]
        · refine (congrArg (fun t => (t.station k).map Station.queue) hstate).trans (hqueue.trans ?_)
          rw [hy]
          rfl
        · have hsame : s.beginTail k .aborted none = { s with
              stations := (s.beginTail k .aborted none).stations, valves := (s.beginTail k .aborted none).valves } := by
            rw [hstate, State.queuedBy_same hy1, State.updSlot_same s]
          exact congrArg (fun u : State => { u with port := ((s.beginTail k .aborted none).respond .ok []).port }) hsame
    · rw [State.abortAt_of_stepping hstepping hv, State.cutShort_of_some hc, if_neg (by
        rintro ⟨hqueued, hidle⟩
        rcases hcarried with h | h
        · rw [hqueued] at h; cases h
        · rw [hidle] at h; cases h)] at hexec
      have hupd := State.updSlot_of_tells (f := fun z => { z with abortPending := some .aborted }) hy (by
        rw [hslot] at habort
        simp [Slot.tells, habort])
      have hport : (s.updSlot k fun z => { z with abortPending := some .aborted }).port = s.port := by rw [hupd]; rfl
      exact answers_of_respond _ s _ _ _ _ hexec hport (by rw [hupd]; rfl)
    · rw [State.abortAt_of_stepping hstepping hv, State.cutShort_of_some hc, if_pos ⟨hqueued, hcarried⟩] at hexec
      obtain ⟨hmem, hstation⟩ := Runs.stepValve_mem hv
      have hy1 : (s.endCommand v .withdrawn).station k =
          some { y with queue := y.queue.filter (· ≠ v.num), changed := true } := by
        rw [State.station_endCommand, hy, Option.map_some, if_pos ((State.station_num hy).trans hstation.symm)]
      have hv1 : (s.endCommand v .withdrawn).valve v.num = some { v with command := none, lastOutcome := some .withdrawn } := by
        rw [State.valve_endCommand, hrise.valve_of_mem hmem, Option.map_some, if_pos rfl]
      have hrise1 : TablesRise (s.endCommand v .withdrawn) :=
        (SameLine.of_runs (.change (.endCommand s v .withdrawn hmem))).tablesRise hrise
      have hend := State.abortEnded hrise1 hy1 (hslot ▸ hmarks) (hslot ▸ hexit)
      have hvalve := congrArg (Option.map fun z : Valve => (z.command, z.lastOutcome))
        (State.valve_abortEnded hrise1 hy1 (hslot ▸ hmarks) (hslot ▸ hexit) hv1 hstation)
      rw [Option.map_map] at hvalve
      obtain ⟨htrain, hpos, hsame, hport, -⟩ := (s.endCommand v .withdrawn).beginTail_stands k .aborted none
      have hsame1 : SameBesidesRecords s ((s.endCommand v .withdrawn).beginTail k .aborted none) :=
        ((Reaches.endCommand s v .withdrawn).trans
          (engineKeeps_reaches.beginTailBy engineKeeps_reaches.endSequence _ k .aborted none)).spreads.besides
      refine answers_of_respond _ s _ _ _ _ hexec hport
        ⟨hended (u := s.endCommand v .withdrawn) ⟨hend.slot, hend.record, hend.noted, hend.fault⟩ rfl,
          ⟨htrain, hpos, hsame1.respond _ _⟩, hvalve⟩

end Sys2Proof.Machine
end

section
/-! SUPPORT. The expiries of valve commands and of a sequence's waits (R112, R113, R132, R133, R137, R143). -/

namespace Sys2Proof.Machine

/-! ### Valve commands -/

section

variable {s : State} {v : Nat} {y : Valve} {c : Command} (hy : s.valve v = some y) (hc : y.command = some c)

include hy hc

theorem State.timerStands_stroke (hphase : c.phase = .travelling) (hcount : c.strokeCount ≠ 0) :
    s.timerStands (.stroke v) = true := by
  simp [State.timerStands, State.timerCount, hy, hc, hphase, hcount]

theorem State.timerStands_delivery (hphase : c.phase = .queued) (hcount : c.queuedCount ≠ 0) :
    s.timerStands (.delivery v) = true := by
  simp [State.timerStands, State.timerCount, hy, hc, hphase, hcount]

/-- The host's command ends, and nothing more (R116). -/
theorem State.finishCommand_host (horigin : c.origin = .host) (o : ValveOutcome) : s.finishCommand v o = s.endCommand y o := by
  simp only [State.finishCommand, hy, hc, horigin]

/-- A sequence's command ends, and its outcome reaches the slot (R116). -/
theorem State.finishCommand_sequence (horigin : c.origin = .sequence) (o : ValveOutcome) :
    s.finishCommand v o = (s.endCommand y o).slotOutcome y.station o := by
  simp only [State.finishCommand, hy, hc, horigin]

theorem State.withdrawQueued_carried (hcarried : c.carried = true) (m : LapseMark) :
    s.withdrawQueued m v = s.modValve v fun z => { z with command := some (c.mark m) } := by
  simp only [State.withdrawQueued, hy, Option.bind_some, hc, hcarried, if_true]

theorem State.withdrawQueued_waiting (hcarried : c.carried = false) (m : LapseMark) :
    s.withdrawQueued m v = s.finishCommand v m.outcome := by
  simp only [State.withdrawQueued, hy, Option.bind_some, hc, hcarried, Bool.false_eq_true, if_false]

end

/-- The end of a restore step's command with any outcome but success ends the sequence RESTORE_FAILED (R147). -/
theorem State.slotOutcome_restore_failed {s : State} {k : Nat} {p : SeqStep} {o : ValveOutcome}
    (hstate : (s.slotOf k).state = .restoring) (hstep : (s.slotOf k).step = some p) (hfails : o.succeeds = false) :
    s.slotOutcome k o = s.endSequence k .restoreFailed (some (p, p.role, o)) := by
  simp only [State.slotOutcome, hstate, hstep, State.restoreOutcome, hfails, Bool.false_eq_true, if_false]

/-- Settles O53. -/
theorem valveTimersExpire : Obligations.ValveTimersExpire := by
  unfold Obligations.ValveTimersExpire
  intro s v y c hy hc ends
  obtain rfl : y.num = v := State.valve_num hy
  refine ⟨fun hdue hphase hcount => ?_, fun hdue hphase hcount => ?_⟩
  · have hexpire := State.expire_of_stands hdue (State.timerStands_stroke hy hc hphase hcount)
    generalize hs1 : ({ s with due := s.due.filter (· ≠ .stroke y.num) } : State) = s1 at hexpire
    have hy1 : s1.valve y.num = some y := by rw [← hs1]; exact hy
    refine ⟨fun horigin => ?_, fun hrise horigin x p hx hstate hstep => ?_⟩
    · refine congrArg Host.Outcome.next (hexpire.trans ((State.finishCommand_host hy1 hc horigin .timeout).trans ?_))
      rw [← hs1]
      rfl
    · refine ⟨_, congrArg Host.Outcome.next hexpire, ?_⟩
      have hnum : x.num = y.station := State.station_num hx
      have hrise1 : TablesRise s1 := by
        rw [← hs1]
        exact ⟨hrise.stations, hrise.detectors, hrise.valves, hrise.meters, hrise.pigs⟩
      have hx1 : s1.station y.station = some x := by rw [← hs1]; exact hx
      have hclock : s1.clock = s.clock := by rw [← hs1]
      have htrain : s1.train = s.train := by rw [← hs1]
      clear hs1 hexpire
      have hx2 : (s1.endCommand y .timeout).station y.station =
          some { x with queue := x.queue.filter (· ≠ y.num), changed := true } := by
        rw [State.station_endCommand, hx1, Option.map_some, if_pos hnum]
      have hy2 : (s1.endCommand y .timeout).valve y.num = some { y with command := none, lastOutcome := some .timeout } := by
        rw [State.valve_endCommand, hy1, Option.map_some, if_pos rfl]
      have hrise2 : TablesRise (s1.endCommand y .timeout) :=
        (SameLine.of_runs (.change (.endCommand s1 y .timeout (State.valve_mem hy1)))).tablesRise hrise1
      have hslot2 := State.slotOf_of_some hx2
      have hfinish : s1.expiryActs (.stroke y.num) =
          (s1.endCommand y .timeout).endSequence y.station .restoreFailed (some (p, p.role, .timeout)) :=
        (State.finishCommand_sequence hy1 hc horigin .timeout).trans
          (State.slotOutcome_restore_failed ((congrArg Slot.state hslot2).trans hstate)
            ((congrArg Slot.step hslot2).trans hstep) rfl)
      rw [hfinish, hnum]
      refine ⟨?_, ?_, ?_, State.alertSet_endSequence _ _ _ rfl, State.noteSet_endSequence .., ?_⟩
      · have hvalve := congrArg (Option.map fun z : Valve => (z.command, z.lastOutcome))
          (State.valve_endSequence hrise2 .restoreFailed (some (p, p.role, .timeout)) hy2 rfl)
        rwa [Option.map_map] at hvalve
      · refine (State.slotOf_endSequence hrise2 hx2 _ _).trans ?_
        simp only [Slot.ended, ne_eq, reduceCtorEq, not_false_eq_true, and_true]
      · refine (State.faults_endSequence hrise2 hx2 _ _).trans ?_
        have hclock2 : (s1.endCommand y .timeout).clock = s.clock := hclock
        rw [hclock2]
        simp only [SeqOutcome.failed, decide_true, Bool.and_self, Bool.or_true, if_true, Slot.faultRecord]
      · exact (RecordsKeepPlace.engineKeeps.endSequence ..).train.trans htrain
  · have hexpire := State.expire_of_stands hdue (State.timerStands_delivery hy hc hphase hcount)
    have hy1 : ({ s with due := s.due.filter (· ≠ .delivery y.num) } : State).valve y.num = some y := hy
    refine ⟨fun hcarried horigin => ?_, fun hcarried => ?_⟩
    · exact congrArg Host.Outcome.next (hexpire.trans ((State.withdrawQueued_waiting hy1 hc hcarried .lapsed).trans
        (State.finishCommand_host hy1 hc horigin _)))
    · refine congrArg Host.Outcome.next (hexpire.trans ((State.withdrawQueued_carried hy1 hc hcarried .lapsed).trans ?_))
      have hmark : c.mark .lapsed = { c with marks := if .lapsed ∈ c.marks then c.marks else c.marks ++ [.lapsed] } := by
        unfold Command.mark
        split <;> rfl
      rw [hmark]
      rfl

/-! ### The waits of a sequence -/

section

variable {s : State} {k : Nat}

theorem State.timerStands_holdWait : s.timerStands (.holdWait k) =
    (decide ((s.slotOf k).state = .waitHold) && !(s.slotOf k).heldAnew) := by
  simp only [State.timerStands, State.timerCount]
  split <;> simp_all

theorem State.timerStands_launchExit (hstate : (s.slotOf k).state = .waitPassage)
    (hkind : (s.slotOf k).kind = some .launch) (hcount : (s.slotOf k).passage ≠ 0) :
    s.timerStands (.launchExit k) = true := by
  simp [State.timerStands, State.timerCount, Slot.awaitsExit, hstate, hkind, hcount]

theorem State.timerStands_arrival (hstate : (s.slotOf k).state = .waitPassage)
    (hkind : (s.slotOf k).kind = some .receive) (hcount : (s.slotOf k).passage ≠ 0) :
    s.timerStands (.arrival k) = true := by
  simp [State.timerStands, State.timerCount, Slot.awaitsArrival, hstate, hkind, hcount]

theorem State.timerStands_pause (hstate : (s.slotOf k).state = .paused) (hcount : (s.slotOf k).pause ≠ 0) :
    s.timerStands (.pause k) = true := by
  simp [State.timerStands, State.timerCount, hstate, hcount]

end

/-- The offer of a step leaves its station defined, with the slot as it was. -/
theorem State.station_offerStep {s : State} {k : Nat} {x : Station} (hx : s.station k = some x) (p : SeqStep) :
    ∃ y, (s.offerStep k p).1.station k = some y ∧ y.slot = x.slot := by
  have hsite := ((StationKept.engineKeeps (k := k)).offerStep s k p).site
  rw [hx] at hsite
  obtain ⟨y, hy, -⟩ := Option.map_eq_some_iff.1 hsite
  exact ⟨y, hy, (State.slotOf_of_some hy).symm.trans ((s.slotOf_offerStep k p k).trans (State.slotOf_of_some hx))⟩

theorem TablesRise.offerStep {s : State} (h : TablesRise s) (k : Nat) (p : SeqStep) : TablesRise (s.offerStep k p).1 :=
  (SameLine.of_runs (Runs.offerStep s k p)).tablesRise h

/-- A sequence in its tail with a cause has left its forward steps with it: the tail runs, waits or has ended (R146,
R147). -/
theorem State.inTail_runRestore {k : Nat} {c : SeqOutcome} (l : List SeqStep) :
    ∀ {s : State} {x : Station}, TablesRise s → s.station k = some x → x.slot.cause = some c → x.slot.exitInTail = false →
      ((State.runRestore k l s).slotOf k).inTailOrEnded c := by
  induction l with
  | nil =>
    intro s x hrise hx hcause hexit
    refine .inr ?_
    have hslot := State.slotOf_endSequence hrise hx (s.slotOf k).tailOutcome none
    rw [State.slotOf_of_some hx, Slot.tailOutcome_of_cause hcause hexit] at hslot
    have hslot' : (State.runRestore k [] s).slotOf k = x.slot.ended c := by
      refine Eq.trans ?_ hslot
      rw [State.runRestore, State.runRestoreBy, State.slotOf_of_some hx, Slot.tailOutcome_of_cause hcause hexit]
    rw [hslot']
    exact ⟨rfl, .inl rfl⟩
  | cons p l ih =>
    intro s x hrise hx hcause hexit
    have hslot := State.slotOf_of_some hx
    unfold State.runRestore State.runRestoreBy
    split
    · exact ih hrise hx hcause hexit
    · split
      · rw [State.slotOf_updSlot_self _ hx]
        exact .inl ⟨.inr rfl, hcause⟩
      · have hx1 := State.station_updSlot_self (fun x => x.at p .restoring) hx
        have hrise1 := hrise.updSlot k fun x => x.at p .restoring
        obtain ⟨y, hy, hyslot⟩ := State.station_offerStep hx1 p
        have hrise2 := hrise1.offerStep k p
        extract_lets s1
        split <;> rename_i heq <;> rw [heq] at hy hrise2
        · rw [State.slotOf_of_some hy, hyslot]
          exact .inl ⟨.inl rfl, hcause⟩
        · split
          · rename_i s2 _ _
            refine ih (hrise2.updSlot k fun x => { x with marks := p.clearMark x.marks })
              (State.station_updSlot_self _ hy) ?_ ?_
            · exact (congrArg Slot.cause hyslot).trans hcause
            · exact (congrArg Slot.exitInTail hyslot).trans hexit
          · rw [State.slotOf_endSequence hrise2 hy]
            exact .inr ⟨rfl, .inr rfl⟩

theorem State.inTail_beginTail {s : State} {k : Nat} {x : Station} (hrise : TablesRise s) (hx : s.station k = some x)
    (hexit : x.slot.exitInTail = false) (c : SeqOutcome) (f : Option (Role × ValveOutcome)) :
    ((s.beginTail k c f).slotOf k).inTailOrEnded c :=
  State.inTail_runRestore restoreSteps (hrise.updSlot k _)
    (State.station_updSlot_self (fun y => y.tail s.lineTrip c f) hx) rfl hexit

/-- Settles O54: an expiry whose wait still lasts begins the restore tail, or goes on with it. -/
theorem sequenceWaitsExpire : Obligations.SequenceWaitsExpire := by
  unfold Obligations.SequenceWaitsExpire
  intro s x hrise hx hexit k ends
  have hslot : s.slotOf k = x.slot := State.slotOf_of_some hx
  have hdueOff : ∀ e : Expiry, TablesRise { s with due := s.due.filter (· ≠ e) } := fun e =>
    ⟨hrise.stations, hrise.detectors, hrise.valves, hrise.meters, hrise.pigs⟩
  have hends : ∀ {e : Expiry} {i : Instr} {cause : SeqOutcome}, exec i s = .next (s.expire e) → e ∈ s.due →
      s.timerStands e = true →
      ({ s with due := s.due.filter (· ≠ e) } : State).expiryActs e =
        ({ s with due := s.due.filter (· ≠ e) } : State).beginTail k cause none → ends i cause :=
    fun {e i cause} hexec hdue hstands hacts => by
      obtain ⟨htrain, hpos, -, hport, hclock⟩ :=
        ({ s with due := s.due.filter (· ≠ e) } : State).beginTail_stands k cause none
      refine ⟨_, hexec.trans (congrArg Host.Outcome.next ((State.expire_of_stands hdue hstands).trans hacts)),
        State.inTail_beginTail (hdueOff e) hx hexit cause none, htrain, hpos, hport, hclock⟩
  refine ⟨fun hdue hstate => ⟨fun hanew => ?_, fun hanew => ?_⟩, fun hdue hstate => ?_, fun hdue hstate hkind hcount => ?_,
    fun hdue hstate hkind hcount => ?_, fun hdue hstate hcount p hresume => ⟨fun hforward => ?_, fun cause hrestore hcause => ?_⟩⟩
  · refine hends rfl hdue ?_ rfl
    rw [State.timerStands_holdWait, hslot, hstate, hanew]
    rfl
  · refine congrArg Host.Outcome.next (State.expire_of_ended hdue ?_)
    rw [State.timerStands_holdWait, hslot, hanew]
    exact Bool.and_false _
  · refine congrArg Host.Outcome.next (State.expire_of_ended hdue ?_)
    rw [State.timerStands_holdWait, hslot, decide_eq_false hstate]
    rfl
  · exact hends rfl hdue (State.timerStands_launchExit (by rw [hslot]; exact hstate) (by rw [hslot]; exact hkind)
      (by rw [hslot]; exact hcount)) rfl
  · exact hends rfl hdue (State.timerStands_arrival (by rw [hslot]; exact hstate) (by rw [hslot]; exact hkind)
      (by rw [hslot]; exact hcount)) rfl
  · have hresume' : (({ s with due := s.due.filter (· ≠ .pause k) } : State).slotOf k).resume = some p :=
      (congrArg Slot.resume hslot).trans hresume
    refine hends rfl hdue (State.timerStands_pause (by rw [hslot]; exact hstate) (by rw [hslot]; exact hcount)) ?_
    simp only [State.expiryActs, State.pauseExpires, hresume', if_neg (mt p.isRestore_iff.1 hforward)]
  · have hresume' : (({ s with due := s.due.filter (· ≠ .pause k) } : State).slotOf k).resume = some p :=
      (congrArg Slot.resume hslot).trans hresume
    have hstands := State.timerStands_pause (s := s) (k := k) (by rw [hslot]; exact hstate) (by rw [hslot]; exact hcount)
    have hacts : ({ s with due := s.due.filter (· ≠ .pause k) } : State).expiryActs (.pause k) =
        State.runRestore k (stepsFrom p restoreSteps) { s with due := s.due.filter (· ≠ .pause k) } := by
      simp only [State.expiryActs, State.pauseExpires, hresume', if_pos (p.isRestore_iff.2 hrestore), State.goOnAt,
        State.goOnAtBy]
      rfl
    have hplaces := RecordsKeepPlace.engineKeeps.runRestoreBy RecordsKeepPlace.engineKeeps.endSequence k
      (stepsFrom p restoreSteps) { s with due := s.due.filter (· ≠ .pause k) }
    have hstand := ClockAndPortStand.reaches (engineKeeps_reaches.runRestoreBy engineKeeps_reaches.endSequence k
      (stepsFrom p restoreSteps) { s with due := s.due.filter (· ≠ .pause k) })
    exact ⟨_, congrArg Host.Outcome.next ((State.expire_of_stands hdue hstands).trans hacts),
      State.inTail_runRestore _ (hdueOff _) hx hcause hexit, hplaces.train, hplaces.pigPos, hstand.2, hstand.1⟩

end Sys2Proof.Machine
end

section
/-! SUPPORT. A missed reply (R153, R159): what it leaves of the station's link record, its meter and the command it
carried. -/

namespace Sys2Proof.Machine

/-! ### The reply NONE -/

namespace EngineKeeps

variable {R : State → State → Prop}

theorem replyNone (h : EngineKeeps R)
    (hmark : ∀ s v (c : Command), R s (s.modValve v fun y => { y with command := some c })) (s : State) (v : Nat) :
    R s (s.replyNone v) := by
  unfold State.replyNone
  split
  · exact h.refl s
  · split
    · exact h.refl s
    · extract_lets s1
      have hs1 : R s s1 := hmark ..
      split
      · exact h.trans hs1 (h.finishCommand ..)
      · split
        · exact h.trans hs1 (h.finishCommand ..)
        · exact hs1

/-- No reply to what a slot carried: a REARM is asked again, and a valve command is no longer carried (R98, R111). -/
theorem commandReply_none (h : EngineKeeps R)
    (hmark : ∀ s v (c : Command), R s (s.modValve v fun y => { y with command := some c })) (s : State) (item : Carried) :
    R s (s.commandReply item .none) := by
  cases item with
  | nothing => exact h.refl s
  | rearm d =>
    simp only [State.commandReply, State.rearmReply]
    split
    · exact h.refl s
    · split
      · exact h.refl s
      · exact h.refl s
  | valve v =>
    simp only [State.commandReply, State.valveReply]
    split
    · exact h.refl s
    · split
      · exact h.refl s
      · split
        · exact h.refl s
        · exact h.replyNone hmark s v

end EngineKeeps

theorem RecordsKeepPlace.commandReply_none (s : State) (item : Carried) : RecordsKeepPlace s (s.commandReply item .none) :=
  RecordsKeepPlace.engineKeeps.commandReply_none (fun s v _ => .modValve s v _) s item

theorem StationKept.commandReply_none (k : Nat) (s : State) (item : Carried) :
    StationKept k s (s.commandReply item .none) :=
  StationKept.engineKeeps.commandReply_none (fun _ _ _ => StationKept.of_stations rfl) s item

/-- A host's command without a mark is no longer carried, and nothing more (R111). -/
theorem State.commandReply_none_host {s : State} {v : Nat} {y : Valve} {c : Command} (hy : s.valve v = some y)
    (hc : y.command = some c) (horigin : c.origin = .host) (hmarks : c.marks = []) :
    ((s.commandReply (.valve v) .none).valve v).bind Valve.command = some { c with carried := false } := by
  simp only [State.commandReply, State.valveReply, hy, hc]
  split
  · rename_i hcarried
    rw [hy, Option.bind_some, hc, ← hcarried]
  · have hhost : ¬(c.origin = .sequence ∧ (s.slotOf y.station).abortPending.isSome = true) := fun h => by
      cases horigin.symm.trans h.1
    simp only [State.replyNone, hy, hc, hmarks, List.head?_nil, if_neg hhost]
    rw [State.valve_modValve_self (f := fun z => { z with command := some c.notCarried }) hy fun _ => rfl, Option.bind_some,
      Command.notCarried, hmarks]

/-! ### SILENT -/

theorem RecordsKeepPlace.becomeSilent (s : State) (k : Nat) : RecordsKeepPlace s (s.becomeSilent k) := by
  have hexcused := (RecordsKeepPlace.updLink s k fun x => { x with state := .silent }).trans (.excuseAt _ k)
  unfold State.becomeSilent
  simp only
  split
  · exact (hexcused.trans (.endQueued ..)).trans (.raise ..)
  · exact hexcused.trans (.raise ..)

theorem State.link_becomeSilent {s : State} {k : Nat} {x : Station} (hx : s.station k = some x) :
    ((s.becomeSilent k).station k).map Station.link = some { x.link with state := .silent } := by
  have hlink := State.station_updLink_self hx fun y => { y with state := .silent }
  have hkept := StationKept.excuseAt k (s.updLink k fun y => { y with state := .silent }) k
  have hread : ∀ {u : State}, StationKept k (s.updLink k fun y => { y with state := .silent }) u →
      (u.station k).map Station.link = some { x.link with state := .silent } := fun {u} h => by
    have hsite := congrArg (Option.map Station.link) h.site
    have hfirst := congrArg (Option.map Prod.fst) hlink
    simp only [Option.map_map] at hsite hfirst
    exact hsite.trans hfirst
  unfold State.becomeSilent
  simp only
  split
  · exact hread ((hkept.trans (StationKept.endQueued ..)).trans (.of_stations rfl))
  · exact hread (hkept.trans (.of_stations rfl))

/-- A station becomes SILENT once its missed count has reached the silence limit (R159). -/
theorem State.silenceTest_of_some {s : State} {k : Nat} {x : Station} (hx : s.station k = some x) :
    s.silenceTest k = if (x.link.state = .active ∨ x.link.state = .proving) ∧ s.params.silenceLimit ≤ x.link.missed then
      s.becomeSilent k else s := by
  simp only [State.silenceTest, hx]

/-! ### The outage -/

theorem TablesRise.meter_of_meterOf {s : State} (hrise : TablesRise s) {k : Nat} {m : Meter} (h : s.meterOf k = some m) :
    s.meter m.num = some m := hrise.meter_of_mem (List.mem_of_find?_eq_some h)

/-- The outage of a station's meter, where it is LIVE (R56). -/
theorem State.stationOutage_meters {s : State} (hrise : TablesRise s) (k : Nat) : (s.stationOutage k).meters =
    s.meters.map fun m => if s.meterOf k = some m ∧ m.state = .live then
      (if m.holdTime = 0 then { m with state := .stale, provisional := 0 }
        else { m with state := .extrapolating, extrapolated := 0 }) else m := by
  unfold State.stationOutage
  split
  · rename_i hnone
    refine ((List.map_congr_left fun m _ => ?_).trans (List.map_id _)).symm
    rw [if_neg fun h => by cases hnone.symm.trans h.1]
    rfl
  · rename_i m hm
    rw [State.updMeter_eq_of_some (hrise.meter_of_meterOf hm)]
    refine List.map_congr_left fun y hy => ?_
    by_cases hnum : y.num = m.num
    · obtain rfl : y = m := Option.some.inj
        ((hrise.meter_of_mem hy).symm.trans (hnum ▸ hrise.meter_of_meterOf hm))
      rw [if_pos rfl, hm]
      unfold Meter.outage
      cases hstate : y.state <;> simp
    · rw [if_neg hnum, if_neg]
      intro h
      exact hnum (congrArg Meter.num (Option.some.inj (hm.symm.trans h.1))).symm

theorem State.stationOutage_same (s : State) (k : Nat) :
    s.stationOutage k = { s with meters := (s.stationOutage k).meters, stations := (s.stationOutage k).stations } := by
  unfold State.stationOutage
  split
  · rfl
  · rename_i m _
    unfold State.updMeter
    split
    · rfl
    · rw [State.touchIf_eq]
      rfl

/-! ### A missed reply -/

/-- The state in which the missed reply has been counted and its command answered NONE, before the silence test (R159). -/
def State.missedBefore (s : State) (k : Nat) (item : Carried) : State :=
  ((s.updLink k fun x => { x with missed := min (x.missed + 1) 255 }).stationOutage k).commandReply item .none

theorem State.missedReply_eq (s : State) (k : Nat) (item : Carried) :
    s.missedReply k item = (s.missedBefore k item).silenceTest k := rfl

theorem RecordsKeepPlace.missedBefore (s : State) (k : Nat) (item : Carried) : RecordsKeepPlace s (s.missedBefore k item) :=
  ((RecordsKeepPlace.updLink ..).trans (.stationOutage ..)).trans (.commandReply_none ..)

theorem State.link_missedBefore {s : State} {k : Nat} {x : Station} (hx : s.station k = some x) (item : Carried) :
    ((s.missedBefore k item).station k).map Station.link = some { x.link with missed := min (x.link.missed + 1) 255 } := by
  have hlink := congrArg (Option.map Prod.fst)
    (State.station_updLink_self hx fun y => { y with missed := min (y.missed + 1) 255 })
  have hkept := (StationKept.stationOutage (k := k)
    (s.updLink k fun y => { y with missed := min (y.missed + 1) 255 }) k).trans (.commandReply_none k _ item)
  have hsite := congrArg (Option.map Station.link) hkept.site
  simp only [Option.map_map] at hlink hsite
  exact hsite.trans hlink

theorem State.commandReply_none_rest (s : State) (item : Carried) : SameBesidesRecords s (s.commandReply item .none) :=
  (engineKeeps_reaches.commandReply_none (fun s v _ => Reaches.modValve s v _) s item).spreads.besides

/-- The meters, the link and what no reply touches, before the silence test. -/
theorem State.missedBefore_rest {s : State} (hrise : TablesRise s) (k : Nat) (item : Carried) :
    (s.missedBefore k item).link = s.link ∧ (s.missedBefore k item).params = s.params ∧
      (s.missedBefore k item).clock = s.clock ∧ (s.missedBefore k item).port = s.port ∧
      (s.missedBefore k item).meters = s.meters.map fun m => if s.meterOf k = some m ∧ m.state = .live then
        (if m.holdTime = 0 then { m with state := .stale, provisional := 0 }
          else { m with state := .extrapolating, extrapolated := 0 }) else m := by
  have hcounted := s.updLink_stations k fun x => { x with missed := min (x.missed + 1) 255 }
  have hrise1 : TablesRise (s.updLink k fun x => { x with missed := min (x.missed + 1) 255 }) :=
    (SameLine.of_runs (Runs.updLink s k _)).tablesRise hrise
  have hmeters := State.stationOutage_meters hrise1 k
  have hmeterOf : (s.updLink k fun x => { x with missed := min (x.missed + 1) 255 }).meterOf k = s.meterOf k := by
    rw [hcounted]
    rfl
  rw [hmeterOf] at hmeters
  have houtage := State.stationOutage_same (s.updLink k fun x => { x with missed := min (x.missed + 1) 255 }) k
  have hreply := State.commandReply_none_rest
    ((s.updLink k fun x => { x with missed := min (x.missed + 1) 255 }).stationOutage k) item
  have hport := (ClockAndPortStand.reaches (engineKeeps_reaches.commandReply_none (fun s v _ => Reaches.modValve s v _)
    ((s.updLink k fun x => { x with missed := min (x.missed + 1) 255 }).stationOutage k) item)).2
  unfold State.missedBefore
  generalize s.updLink k (fun x => { x with missed := min (x.missed + 1) 255 }) = u at *
  generalize u.stationOutage k = w at *
  generalize w.commandReply item .none = z at *
  have hlinks : z.link = w.link ∧ z.params = w.params ∧ z.clock = w.clock ∧ z.meters = w.meters := by
    unfold SameBesidesRecords at hreply
    rw [hreply]
    exact ⟨rfl, rfl, rfl, rfl⟩
  obtain ⟨hlink, hparams, hclock, hzmeters⟩ := hlinks
  refine ⟨?_, ?_, ?_, ?_, ?_⟩
  · rw [hlink, houtage, hcounted]
  · rw [hparams, houtage, hcounted]
  · rw [hclock, houtage, hcounted]
  · rw [hport, houtage, hcounted]
  · rw [hzmeters, hmeters, hcounted]

theorem State.becomeSilent_rest (s : State) (k : Nat) :
    (s.becomeSilent k).link = s.link ∧ (s.becomeSilent k).meters = s.meters ∧ (s.becomeSilent k).clock = s.clock ∧
      (s.becomeSilent k).port = s.port := by
  have hstand := (Spreads.becomeSilent s k).besides
  have hport := (ClockAndPortStand.runs (Runs.becomeSilent s k)).2
  unfold SameBesidesRecords at hstand
  generalize s.becomeSilent k = t at *
  refine ⟨?_, ?_, ?_, hport⟩ <;> rw [hstand]

/-- The valve of a host's unmarked command, as the missed reply leaves it. -/
theorem State.valve_missedBefore {s : State} {k v : Nat} {y : Valve} {c : Command} (hy : s.valve v = some y)
    (hc : y.command = some c) (horigin : c.origin = .host) (hmarks : c.marks = []) :
    ((s.missedBefore k (.valve v)).valve v).bind Valve.command = some { c with carried := false } := by
  refine State.commandReply_none_host ?_ hc horigin hmarks
  rw [State.stationOutage_same, State.updLink_stations]
  exact hy

/-- Settles O49. -/
theorem missedReplyCounts : Obligations.MissedReplyCounts := by
  unfold Obligations.MissedReplyCounts
  refine fun s => ⟨fun hnone => ⟨?_, fun frame => ?_⟩, fun p hp hfate => ⟨?_, fun frame => ?_⟩,
    fun p frame hp hfate hwhole => ?_, fun hrise p x hp hfate hx => ⟨fun frame hawaited hwhole hbad => ?_, ?_⟩⟩
  · exact congrArg Host.Outcome.next (by simp only [State.replyExpires, hnone])
  · exact congrArg Host.Outcome.next (by simp only [State.receive, hnone])
  · exact congrArg Host.Outcome.next (by simp only [State.replyExpires, hp, hfate]; rfl)
  · refine congrArg Host.Outcome.next ?_
    simp only [State.receive, hp, hfate]
    split <;> rfl
  · exact congrArg Host.Outcome.next (by simp only [State.receive, hp, hfate, hwhole, if_true]; rfl)
  · have hnum : p.station = x.num := (State.station_num hx).symm
    refine congrArg Host.Outcome.next ?_
    rw [hnum] at hx
    have hx' : s.freeLink.station x.num = some x := hx
    simp only [State.receive, State.replyExpires, hp, hawaited, hwhole, if_true, State.judged, hnum, hx']
    obtain hnone | ⟨r, hr, hproven, hlists⟩ := hbad
    · simp only [hnone]
    · have hlists' : s.freeLink.listsMatch x.num r = false := hlists
      simp only [hr, hproven, hlists', if_true, Bool.false_eq_true, if_false]
  · have hnum : x.num = p.station := State.station_num hx
    have hexec : exec .replyTimeout s = .next (s.freeLink.missedReply x.num p.item) := by
      refine congrArg Host.Outcome.next ?_
      rw [hnum]
      cases hf : p.fate with
      | awaited => simp only [State.replyExpires, hp, hf]
      | stationOut => simp only [State.replyExpires, hp, hf]
      | abandoned => exact absurd hf hfate
    have hrise' : TablesRise s.freeLink := ⟨hrise.stations, hrise.detectors, hrise.valves, hrise.meters, hrise.pigs⟩
    have hx' : s.freeLink.station x.num = some x := by rw [hnum]; exact hx
    have hlink := State.link_missedBefore hx' p.item
    have hplaces := RecordsKeepPlace.missedBefore s.freeLink x.num p.item
    obtain ⟨hsame, hparams, hclock, hport, hmeters⟩ := State.missedBefore_rest hrise' x.num p.item
    refine ⟨_, hexec, ?_⟩
    beta_reduce
    extract_lets missed silent
    rw [State.missedReply_eq]
    have hvalve : ∀ v y c, p.item = .valve v → s.valve v = some y → y.command = some c → c.origin = .host → c.marks = [] →
        ((s.freeLink.missedBefore x.num p.item).valve v).bind Valve.command = some { c with carried := false } :=
      fun v y c hitem hy hc horigin hmarks => by
        rw [hitem]
        exact State.valve_missedBefore (s := s.freeLink) hy hc horigin hmarks
    generalize s.freeLink.missedBefore x.num p.item = u at *
    obtain ⟨y, hy, hylink⟩ := Option.map_eq_some_iff.1 hlink
    have htest := State.silenceTest_of_some hy
    rw [hylink, hparams] at htest
    have hcond : ((x.link.state = .active ∨ x.link.state = .proving) ∧ s.params.silenceLimit ≤ missed) ↔ silent = true :=
      decide_eq_true_iff.symm
    have htest' : u.silenceTest x.num = if silent = true then u.becomeSilent x.num else u := htest.trans (if_congr hcond rfl rfl)
    cases hsilent : silent with
    | false =>
      rw [hsilent, if_neg Bool.false_ne_true] at htest'
      rw [htest']
      exact ⟨hsame, hlink, fun h => by (cases h), hmeters,
        fun v y c hitem hy hc horigin hmarks _ => hvalve v y c hitem hy hc horigin hmarks, hplaces.train,
        hplaces.pigPos, hclock, hport⟩
    | true =>
      rw [hsilent, if_pos rfl] at htest'
      rw [htest']
      obtain ⟨gsame, gmeters, gclock, gport⟩ := u.becomeSilent_rest x.num
      have gplaces := hplaces.trans (RecordsKeepPlace.becomeSilent u x.num)
      refine ⟨gsame.trans hsame, ?_, fun _ => State.alertSet_raise .., gmeters.trans hmeters,
        fun _ _ _ _ _ _ _ _ h => by (cases h), gplaces.train, gplaces.pigPos, gclock.trans hclock, gport.trans hport⟩
      rw [State.link_becomeSilent hy, hylink]
      rfl

end Sys2Proof.Machine
end

section
/-! SUPPORT. The handing on of a record's change that moves no hold (R29): its re-arm tests, and what the re-examinations
leave of the detectors, of the record itself and of the other stations. -/

namespace Sys2Proof.Machine

/-! ### The detectors -/

/-- The engine at one station changes no station's site and no detector. -/
theorem SitesStand.stationKeeps (j : Nat) : StationKeeps j SitesStand where
  refl := .refl
  trans := .trans
  reevalStation s := by
    unfold State.reevalStation
    generalize (s.valvesOf j).map Valve.num = l
    induction l generalizing s with
    | nil => exact .refl s
    | cons v l ih => exact (SitesStand.reevalValve s v).trans (ih _)
  offerStep s p := .offerStep s j p
  endCommand s v o _ _ := .endCommand s v o
  updSlot s f := .updSlot s j f
  storeClosing _ _ := .modStation fun _ => rfl
  writeFault _ _ _ := .modStation fun _ => rfl
  raise _ _ := .of_same rfl rfl
  note _ _ := .of_same rfl rfl

theorem SitesStand.reviewReceives (l : List Nat) (s : State) : SitesStand s (l.foldl State.reviewReceive s) := by
  induction l generalizing s with
  | nil => exact .refl s
  | cons j l ih => exact ((SitesStand.stationKeeps j).reviewReceive s).trans (ih _)

theorem RecordsKeepPlace.reviewReceives (l : List Nat) (s : State) :
    RecordsKeepPlace s (l.foldl State.reviewReceive s) :=
  RecordsKeepPlace.engineKeeps.foldl _ RecordsKeepPlace.engineKeeps.reviewReceive l s

/-- The handing on tests only the detectors that await the record (R97). -/
theorem RearmsOnly.handAside {s : State} (hrise : Rising (s.detectors.map Detector.num)) (tag : Nat) :
    RearmsOnly (· = tag) s (s.handAside tag) := by
  have hfirst := RearmsOnly.rearmAwaiting hrise tag
  exact hfirst.trans (.of_sitesStand (by rwa [hfirst.nums]) (.reviewReceives ..) (.reviewReceives ..))

theorem RearmsOnly.rearmDue {c : Nat → Prop} {s t : State} (h : RearmsOnly c s t) (d : Detector) :
    t.rearmDue d = s.rearmDue d := State.rearmDue_congr h.places h.stations d

/-- What a change of a record finds due, it finds due still. -/
theorem Rearmed.congr {c : Nat → Prop} {s t : State} {d : Detector} (hdue : t.rearmDue d = s.rearmDue d) :
    Rearmed c t d ↔ Rearmed c s d := by
  unfold Rearmed
  rw [hdue]

/-- A due detector is in its re-arm set after its test (R97). -/
theorem State.rearmTest_joins {s : State} {i : Nat} {x : Detector} (hx : s.detector i = some x)
    (hlatching : x.latching = true) (htripped : x.state = .tripped) (hdue : s.rearmDue x = true) :
    (s.rearmTest i).detector i = some { x with inRearmSet := true } := by
  by_cases hin : x.inRearmSet = true
  · have hsame : s.rearmTest i = s := by
      simp only [State.rearmTest, hx]
      rw [if_neg fun h => by rw [hin] at h; cases h.2.2.1]
    rw [hsame, hx, ← hin]
  · have hlookup := s.detector_modDetector i i (fun y => { y with inRearmSet := true }) fun _ => rfl
    rw [hx, Option.map_some, if_pos (State.detector_num hx)] at hlookup
    simp only [State.rearmTest, hx]
    rw [if_pos ⟨hlatching, htripped, Bool.eq_false_iff.2 hin, hdue⟩, State.detector, State.updDetector_detectors]
    exact hlookup

/-- Every due detector that awaits the record joins its re-arm set (R97). -/
theorem State.rearmAwaiting_joins {s : State} (hrise : Rising (s.detectors.map Detector.num)) {tag : Nat} {d : Detector}
    (hd : d ∈ s.detectors) (hrearmed : Rearmed (· = tag) s d) :
    (s.rearmAwaiting tag).detector d.num = some { d with inRearmSet := true } := by
  obtain ⟨hlatching, htripped, hdue, u, rfl, hawaited⟩ := hrearmed
  have hmem : d.num ∈ (s.detectors.filter fun e => e.awaited == some u).map Detector.num :=
    List.mem_map_of_mem (List.mem_filter.2 ⟨hd, beq_iff_eq.2 hawaited⟩)
  have hawait : ∀ i ∈ (s.detectors.filter fun e => e.awaited == some u).map Detector.num,
      ∀ e, s.detector i = some e → ∃ w, w = u ∧ e.awaited = some w := by
    intro i hi e he
    obtain ⟨f, hf, rfl⟩ := List.mem_map.1 hi
    obtain ⟨hmem, hfawaited⟩ := List.mem_filter.1 hf
    cases he.symm.trans (find?_of_rising Detector.num _ hrise f hmem)
    exact ⟨u, rfl, beq_iff_eq.1 hfawaited⟩
  have hfind : s.detector d.num = some d := find?_of_rising Detector.num _ hrise d hd
  have hinv : ∀ (l : List Nat) (v : State), (∀ i ∈ l, i ∈ (s.detectors.filter fun e => e.awaited == some u).map Detector.num) →
      RearmsOnly (· = u) s v → (d.num ∈ l ∨ v.detector d.num = some { d with inRearmSet := true }) →
      (l.foldl State.rearmTest v).detector d.num = some { d with inRearmSet := true } := by
    intro l
    induction l with
    | nil => exact fun v _ _ h => h.resolve_left List.not_mem_nil
    | cons i l ih =>
      intro v hl hv hin
      have hstep : RearmsOnly (· = u) v (v.rearmTest i) := .rearmTest (by rwa [hv.nums]) i fun e he => by
        obtain ⟨f, hf, hsame⟩ := hv.awaited he hrise
        obtain ⟨w, hw, hfw⟩ := hawait i (hl i (List.mem_cons_self ..)) f hf
        exact ⟨w, hw, hsame ▸ hfw⟩
      refine ih _ (fun j hj => hl j (List.mem_cons_of_mem _ hj)) (hv.trans hstep) ?_
      have hafter : v.detector d.num = some { d with inRearmSet := true } →
          (v.rearmTest i).detector d.num = some { d with inRearmSet := true } := fun h =>
        (hstep.detectors _ (State.detector_mem h)).elim id And.right
      rcases hin with hin | hjoined
      · rcases List.mem_cons.1 hin with rfl | hin
        · refine .inr ?_
          obtain hsame | ⟨-, hjoined⟩ := hv.detectors d hd
          · exact State.rearmTest_joins hsame hlatching htripped ((hv.rearmDue d).trans hdue)
          · exact hafter hjoined
        · exact .inl hin
      · exact .inr (hafter hjoined)
  exact hinv _ s (fun _ h => h) (.of_sitesStand hrise (.refl s) (.refl s)) (.inl hmem)

end Sys2Proof.Machine
end

section
/-! SUPPORT. What the handing on of a record's change leaves as it was (R29): the record in a launcher, and a station of whose
detectors none is found due and whose receive stands. -/

namespace Sys2Proof.Machine

/-! ### A record that no valve counts -/

theorem State.pig_strikeRecords_of_not_mem {u : Nat} {l : List Nat} (hl : u ∉ l) (s : State) :
    (s.strikeRecords l).pig u = s.pig u := by
  unfold State.strikeRecords
  induction l generalizing s with
  | nil => rfl
  | cons w l ih =>
    rw [List.foldl_cons, ih (List.not_mem_of_not_mem_cons hl)]
    exact State.pig_modPig_ne (fun _ h => h) (List.ne_of_not_mem_cons hl)

/-- Storing a hold strikes no record that it does not count (R122). -/
theorem State.pig_applyHold_of_not_mem {u : Nat} (s : State) (v : Valve) {holders : List Nat} (hout : u ∉ holders) :
    (s.applyHold v holders).pig u = s.pig u := by
  unfold State.applyHold
  extract_lets struck joined s1
  have hjoined : u ∉ joined := fun h => hout <| by
    unfold joined at h
    split at h
    · exact (List.mem_filter.1 h).1
    · exact h
  have hs1 : s1.pig u = s.pig u := by rw [State.pig, State.updValve_pigs, State.pig]
  split
  · exact (State.pig_strikeRecords_of_not_mem hjoined s1).trans hs1
  · exact hs1

/-- A valve counts no record without a hold interval (R119). -/
theorem State.not_mem_holdersNow {s : State} {u : Nat} {p : Pig} (hp : s.pig u = some p) (hnone : s.holdInterval p = none)
    (v : Valve) : u ∉ s.holdersNow v := fun h => by
  unfold State.holdersNow at h
  split at h
  · have hcounted := (List.mem_filter.1 h).2
    simp [State.countedAt, hp, hnone] at hcounted
  · cases h

theorem State.pig_reevalValve_of_none {s : State} {u : Nat} {p : Pig} (hp : s.pig u = some p)
    (hnone : s.holdInterval p = none) (v : Nat) : (s.reevalValve v).pig u = s.pig u := by
  unfold State.reevalValve
  split
  · rfl
  · split
    · exact State.pig_applyHold_of_not_mem s _ (State.not_mem_holdersNow hp hnone _)
    · rfl

/-! ### A record in a launcher -/

/-- The record, while it is in a launcher, is as it was: it has no hold interval by which a valve could strike it (R21,
R122). -/
def Unstruck (u : Nat) (s t : State) : Prop := ∀ p, s.pig u = some p → p.inLauncher = true → t.pig u = some p

namespace Unstruck

variable {u : Nat}

theorem of_pig {s t : State} (h : t.pig u = s.pig u) : Unstruck u s t := fun _ hp _ => h.trans hp

theorem of_pigs {s t : State} (h : t.pigs = s.pigs) : Unstruck u s t := of_pig (by rw [State.pig, h, State.pig])

theorem trans {s t v : State} (h : Unstruck u s t) (g : Unstruck u t v) : Unstruck u s v := fun p hp hin =>
  g p (h p hp hin) hin

theorem reevalValve (s : State) (v : Nat) : Unstruck u s (s.reevalValve v) := fun _ hp hin =>
  (State.pig_reevalValve_of_none hp (s.holdInterval_inLauncher hin) v).trans hp

theorem foldl {α : Type} (f : State → α → State) (hf : ∀ s a, Unstruck u s (f s a)) (l : List α) (s : State) :
    Unstruck u s (l.foldl f s) := by
  induction l generalizing s with
  | nil => exact of_pigs rfl
  | cons a l ih => exact (hf s a).trans (ih _)

theorem stationKeeps (u k : Nat) : StationKeeps k (Unstruck u) where
  refl _ := of_pigs rfl
  trans := trans
  reevalStation s := foldl _ reevalValve _ s
  offerStep s p := by
    unfold State.offerStep
    split
    · exact of_pigs rfl
    · split
      · exact of_pigs rfl
      · rename_i a _ _ v _
        obtain ⟨o, -, heq⟩ | ⟨-, heq⟩ := s.offer_cases v a.2 <;> rw [heq]
        · exact of_pigs rfl
        · exact of_pigs rfl
  endCommand _ _ _ _ _ := of_pigs rfl
  updSlot s f := of_pigs (State.updSlot_pigs ..)
  storeClosing _ _ := of_pigs rfl
  writeFault _ _ _ := of_pigs rfl
  raise _ _ := of_pigs rfl
  note _ _ := of_pigs rfl

theorem rearmTest (s : State) (d : Nat) : Unstruck u s (s.rearmTest d) := by
  unfold State.rearmTest
  split
  · exact of_pigs rfl
  · split
    · exact of_pigs (s.updDetector_pigs ..)
    · exact of_pigs rfl

theorem handAside (s : State) (tag : Nat) : Unstruck u s (s.handAside tag) :=
  (foldl _ rearmTest _ s).trans (foldl _ (fun s j => (stationKeeps u j).reviewReceive s) _ _)

end Unstruck

/-! ### A station that nothing disturbs -/

/-- No detector of the station that awaits such a record is found due (R97). -/
def Quiet (changed : Nat → Prop) (s : State) (j : Nat) : Prop :=
  ∀ d ∈ s.detectors, d.station = j → ¬ Rearmed changed s d

theorem Quiet.of_rearmsOnly {c : Nat → Prop} {s t : State} (h : RearmsOnly c s t) (hrise : Rising (s.detectors.map Detector.num))
    {j : Nat} (hquiet : Quiet c s j) : Quiet c t j := fun e he hstation hdue => by
  have hlookup : t.detector e.num = some e := find?_of_rising Detector.num _ (by rwa [h.nums]) e he
  have hnum : e.num ∈ s.detectors.map Detector.num := h.nums ▸ List.mem_map_of_mem he
  obtain ⟨d, hd, hsame⟩ := List.mem_map.1 hnum
  rw [← hsame] at hlookup
  obtain hstill | ⟨hrearmed, hjoined⟩ := h.detectors d hd
  · have heq : e = d := Option.some.inj (hlookup.symm.trans hstill)
    rw [heq] at hstation hdue
    exact hquiet d hd hstation ((Rearmed.congr (h.rearmDue d)).1 hdue)
  · have heq : e = _ := Option.some.inj (hlookup.symm.trans hjoined)
    rw [heq] at hstation
    exact hquiet d hd hstation ((Rearmed.congr (h.rearmDue d)).1 hrearmed)

/-- The re-arm tests touch no station of which no detector is due. -/
theorem Quiet.rearmAwaiting {s : State} {tag j : Nat} (hquiet : Quiet (· = tag) s j)
    (hrise : Rising (s.detectors.map Detector.num)) : (s.rearmAwaiting tag).station j = s.station j := by
  have hawait : ∀ i ∈ (s.detectors.filter fun e => e.awaited == some tag).map Detector.num,
      ∀ e, s.detector i = some e → ∃ w, w = tag ∧ e.awaited = some w := by
    intro i hi e he
    obtain ⟨f, hf, rfl⟩ := List.mem_map.1 hi
    obtain ⟨hmem, hfawaited⟩ := List.mem_filter.1 hf
    cases he.symm.trans (find?_of_rising Detector.num _ hrise f hmem)
    exact ⟨tag, rfl, beq_iff_eq.1 hfawaited⟩
  unfold State.rearmAwaiting
  generalize (s.detectors.filter fun e => e.awaited == some tag).map Detector.num = l at hawait
  induction l generalizing s with
  | nil => rfl
  | cons i l ih =>
    have hfirst : RearmsOnly (· = tag) s (s.rearmTest i) := .rearmTest hrise i fun d hd =>
      hawait i (List.mem_cons_self ..) d hd
    refine (ih (hquiet.of_rearmsOnly hfirst hrise) (by rwa [hfirst.nums]) fun m hm e he => ?_).trans ?_
    · obtain ⟨d, hd, hsame⟩ := hfirst.awaited he hrise
      obtain ⟨w, hw, hawaited⟩ := hawait m (List.mem_cons_of_mem _ hm) d hd
      exact ⟨w, hw, hsame ▸ hawaited⟩
    · obtain hsame | ⟨x, hx, hlatching, htripped, hdue, heq⟩ := s.rearmTest_cases i
      · rw [hsame]
      · have hne : j ≠ x.station := fun h => hquiet x (State.detector_mem hx) h.symm
          ⟨hlatching, htripped, hdue, hawait i (List.mem_cons_self ..) x hx⟩
        rw [heq]
        exact State.station_modStation_ne _ (fun y => { y with changed := true }) (fun _ => rfl) hne

/-- The handing on of a record's change leaves a station whose detectors are quiet and whose receive stands (R29). -/
theorem State.station_handAside_of_quiet {s : State} (hrise : TablesRise s) {tag j : Nat} (hquiet : Quiet (· = tag) s j)
    (hstands : ReceiveStands s j) : (s.handAside tag).station j = s.station j := by
  have hstation := hquiet.rearmAwaiting hrise.detectors
  have hstanding := hstands.congr (SameSights.engineKeeps.rearmAwaiting s tag) hstation hrise.pigs
  have hrise1 : TablesRise (s.rearmAwaiting tag) := (SameLine.of_runs (Runs.rearmAwaiting s tag)).tablesRise hrise
  exact ((Aside.reviewReceives hrise1 hstanding _).same (by rw [(s.rearmAwaiting_leaves tag).2]; exact hrise.valves)).1.trans hstation

end Sys2Proof.Machine
end

section
/-! SUPPORT. A record placed in a launcher (R32, R33): a re-examination sees nothing of it, and the launch it begins. -/

namespace Sys2Proof.Machine

/-! ### What a re-examination reads, but for one record in a launcher -/

theorem takeWhile_congr_of_mem {α : Type} {p q : α → Bool} {l : List α} (h : ∀ a ∈ l, p a = q a) :
    l.takeWhile p = l.takeWhile q := by
  induction l with
  | nil => rfl
  | cons a l ih =>
    obtain ⟨ha, hl⟩ := List.forall_mem_cons.1 h
    rw [List.takeWhile_cons, List.takeWhile_cons, ha, ih hl]

/-- One record is put into, or changed in, a launcher; every other record stands. -/
structure LauncherPlaced (tag : Nat) (s : State) (pigs : List Pig) : Prop where
  before : ∀ p, s.pig tag = some p → p.inLauncher = true
  after : ∃ p, ({ s with pigs := pigs } : State).pig tag = some p ∧ p.inLauncher = true
  others : pigs.filter (fun p => decide (p.tag ≠ tag)) = s.pigs.filter fun p => decide (p.tag ≠ tag)
  rise : Rising (pigs.map Pig.tag)

namespace LauncherPlaced

variable {tag : Nat} {s : State} {pigs : List Pig} (h : LauncherPlaced tag s pigs)

include h

theorem tablesRise (hrise : TablesRise s) : TablesRise { s with pigs := pigs } :=
  ⟨hrise.stations, hrise.detectors, hrise.valves, hrise.meters, h.rise⟩

theorem pig {u : Nat} (hu : u ≠ tag) : ({ s with pigs := pigs } : State).pig u = s.pig u := by
  have hread : ∀ l : List Pig, (l.find? fun p => p.tag == u) =
      (l.filter fun p => decide (p.tag ≠ tag)).find? fun p => p.tag == u := fun l => by
    rw [List.find?_filter]
    refine congrArg (List.find? · l) (funext fun p => ?_)
    by_cases hp : p.tag = u
    · simp [hp, hu]
    · simp [hp]
  exact (hread pigs).trans ((congrArg (List.find? fun p => p.tag == u) h.others).trans (hread s.pigs).symm)

theorem pigPos {u : Nat} (hu : u ≠ tag) : ({ s with pigs := pigs } : State).pigPos u = s.pigPos u :=
  congrArg (fun o => (Option.map Pig.position o).getD 0) (h.pig hu)

theorem not_mem_train (horder : TrainInOrder s) : tag ∉ s.train := fun hmem => by
  obtain ⟨p, hp, htracked⟩ := (Option.any_eq_true ..).1 (horder.members tag hmem)
  rw [Pig.tracked_of_inLauncher (h.before p hp)] at htracked
  cases htracked

theorem membersAhead (hout : tag ∉ s.train) (x : Nat) :
    ({ s with pigs := pigs } : State).membersAhead x = s.membersAhead x :=
  takeWhile_congr_of_mem fun _ hu => congrArg (decide <| x ≤ ·) (h.pigPos fun heq => hout (heq ▸ hu))

theorem membersBehind (hout : tag ∉ s.train) (x : Nat) :
    ({ s with pigs := pigs } : State).membersBehind x = s.membersBehind x := by
  have hsplit := (({ s with pigs := pigs } : State).members_append x).trans (s.members_append x).symm
  rw [h.membersAhead hout] at hsplit
  exact List.append_cancel_left hsplit

theorem closingNow (hrise : TablesRise s) (j : Nat) : ({ s with pigs := pigs } : State).closingNow j = s.closingNow j := by
  have hread : ∀ l : List Pig, Rising (l.map Pig.tag) →
      (∀ p, ({ s with pigs := l } : State).pig tag = some p → p.inLauncher = true) →
      ({ s with pigs := l } : State).closingNow j = ((l.filter fun p => decide (p.tag ≠ tag)).filter fun p =>
        decide ((s.slotOf j).bound ≠ some p.tag) && (s.holdFront p).any (s.atDeadline j)).map Pig.tag := fun l hl hin => by
    rw [List.filter_filter]
    refine congrArg (List.map Pig.tag) (List.filter_congr fun p hp => ?_)
    have hfront : ({ s with pigs := l } : State).holdFront p = s.holdFront p := rfl
    by_cases htag : p.tag = tag
    · have hnone : s.holdFront p = none := by
        rw [State.holdFront, s.holdInterval_inLauncher (hin p (htag ▸ find?_of_rising Pig.tag _ hl p hp)), Option.map_none]
      simp [htag, hfront, hnone]
    · rw [decide_eq_true htag, Bool.and_true, hfront]
      refine congrArg (decide _ && ·) ?_
      cases s.holdFront p <;> rfl
  obtain ⟨q, hq, hin⟩ := h.after
  rw [hread pigs h.rise fun p hp => Option.some.inj (hq.symm.trans hp) ▸ hin, h.others]
  exact (hread s.pigs hrise.pigs h.before).symm

/-- A receive not bound to the record stands as it stood. -/
theorem receiveStands (hrise : TablesRise s) (horder : TrainInOrder s) {j : Nat} (hbound : (s.slotOf j).bound ≠ some tag)
    (hstands : ReceiveStands s j) : ReceiveStands { s with pigs := pigs } j := by
  have hout := h.not_mem_train horder
  have hread : ∀ o : Option Nat, o ≠ some tag → o.bind ({ s with pigs := pigs } : State).pig = o.bind s.pig := fun o ho => by
    cases o with
    | none => rfl
    | some u => exact h.pig fun heq => ho (congrArg some heq)
  have hpig : ({ s with pigs := pigs } : State).boundPig j = s.boundPig j := hread _ hbound
  have hmember : ∀ {u : Nat}, u ∈ s.train → u ≠ tag := fun hu heq => hout (heq ▸ hu)
  have hdeadline : ({ s with pigs := pigs } : State).deadlineReached j = s.deadlineReached j := by
    rw [State.deadlineReached_eq, State.deadlineReached_eq, hpig]
    rfl
  have hopen : ({ s with pigs := pigs } : State).clearanceOpen j = s.clearanceOpen j := by
    rw [State.clearanceOpen_eq, State.clearanceOpen_eq, hpig]
    cases s.boundPig j with
    | none => rfl
    | some p =>
      have hneighbours : ({ s with pigs := pigs } : State).boundNeighbours p = s.boundNeighbours p := by
        simp only [State.boundNeighbours, h.membersAhead hout, h.membersBehind hout]
      have hahead : ∀ u, (s.boundNeighbours p).1 = some u → u ∈ s.train := fun u hu => by
        unfold State.boundNeighbours at hu
        split at hu
        · exact State.mem_train_of_ahead (List.mem_of_getLast? hu)
        · exact mem_of_aheadOf hu
      have hbehind : ∀ u, (s.boundNeighbours p).2 = some u → u ∈ s.train := fun u hu => by
        unfold State.boundNeighbours at hu
        split at hu
        · exact State.mem_train_of_behind (List.mem_of_head? hu)
        · exact mem_of_behindOf hu
      simp only [Option.all_some, hneighbours]
      refine congrArg₂ (· && ·) ?_ ?_
      · rw [State.clearAhead_eq, State.clearAhead_eq]
        cases hu : (s.boundNeighbours p).1 with
        | none => rfl
        | some u =>
          rw [Option.all_some, Option.all_some, h.pigPos (hmember (hahead u hu))]
          rfl
      · rw [State.clearBehind_eq, State.clearBehind_eq, hread _ fun heq => hmember (hbehind tag heq) rfl]
        rfl
  unfold ReceiveStands at hstands ⊢
  rw [hdeadline, hopen, h.closingNow hrise j]
  exact hstands

end LauncherPlaced

end Sys2Proof.Machine
end

section
/-! SUPPORT. LAUNCH (R31 to R33, R127, R130, R145). -/

namespace Sys2Proof.Machine

/-! ### How a launch begins -/

/-- A launch just started. -/
abbrev Station.launching (x : Station) (tag : Nat) (trip : Bool) : Slot :=
  x.slot.started .launch .l1 tag x.slot.barred trip

theorem State.startLaunch_eq (s : State) (k tag : Nat) : s.startLaunch k tag =
    let s1 := s.seated k fun x => x.started .launch .l1 tag x.barred s.lineTrip
    if s1.launcherSecure k then State.runForward k launchSteps s1 else s1.endSequence k .notSecure none := rfl

/-- A launch has no readiness deadline (R136). -/
theorem State.deadlineReached_of_launch {s : State} {k : Nat} (h : (s.slotOf k).kind = some .launch) :
    s.deadlineReached k = false := by
  rw [State.deadlineReached_eq, Slot.deadlineStands, h]
  rfl

theorem Pig.inLauncher_of_staged {p : Pig} (h : p.state = .staged) : p.inLauncher = true := by
  simp [Pig.inLauncher, h]

theorem Unstruck.seated (u : Nat) (s : State) (k : Nat) (f : Slot → Slot) : Unstruck u s (s.seated k f) :=
  Unstruck.trans ((Unstruck.stationKeeps u k).updSlot s f) ((Unstruck.stationKeeps u k).reevalStation _)

/-- A launch whose launcher is not secure has ended at once (R130, R148, R150). -/
theorem State.launch_notSecure {s : State} (hrise : TablesRise s) {k : Nat} {x : Station} (hx : s.station k = some x) (tag : Nat)
    (hunsafe : s.launcherSecure k = false) :
    (s.startLaunch k tag).slotOf k = { Slot.idle with lastOutcome := some .notSecure, barred := x.slot.barred } ∧
      ((s.startLaunch k tag).station k).map Station.fault = some (some
        { outcome := .notSecure, cause := .notSecure, kind := .launch, tag := tag, failStep := some .l1,
          failValve := none, restore := none, unrestored := [], time := s.clock }) ∧
      (s.startLaunch k tag).alertSet .sequenceFailed = true ∧ (s.startLaunch k tag).noteSet .sequenceDone = true := by
  have hstart := s.startLaunch_eq k tag
  extract_lets s1 at hstart
  obtain ⟨y, hy, hunflagged⟩ : ∃ y, s1.station k = some y ∧ y.unflagged = _ := State.station_seated hx _
  have hslot : y.slot = x.launching tag s.lineTrip := (congrArg Station.slot hunflagged : y.unflagged.slot = _)
  have hsecure : s1.launcherSecure k = false := (State.launcherSecure_seated _ _).trans hunsafe
  have hrise1 : TablesRise s1 := (SameLine.of_runs (Runs.started s k .launch .l1 tag Slot.barred).1).tablesRise hrise
  have hclock : s1.clock = s.clock := State.clock_seated _
  rw [if_neg (by rw [hsecure]; decide)] at hstart
  rw [hstart]
  refine ⟨?_, ?_, State.alertSet_endSequence _ _ _ rfl, State.noteSet_endSequence ..⟩
  · rw [State.slotOf_endSequence hrise1 hy, hslot]
    rfl
  · have hfault := congrArg (Option.map Prod.snd) (State.faults_endSequence hrise1 hy .notSecure none)
    rw [Option.map_map] at hfault
    refine hfault.trans ?_
    rw [hslot, hclock]
    rfl

/-- A launch whose launcher is secure has its first command queued, or, under LINE_TRIP, is PAUSED there (R130, R145). -/
theorem State.launch_secure {s : State} (hrise : TablesRise s) {k : Nat} {x : Station} (hx : s.station k = some x) (tag : Nat)
    (hactive : x.link.state = .active) (hsafe : s.launcherSecure k = true) :
    let t := s.startLaunch k tag
    let running : Slot :=
      { Slot.idle with kind := some .launch, state := .stepping, bound := some tag, step := some .l2,
                       lastOutcome := x.slot.lastOutcome, barred := x.slot.barred }
    t = State.runForwardBy State.endSlot k launchSteps (s.seated k fun x => x.started .launch .l1 tag x.barred s.lineTrip) ∧
    (s.lineTrip = true → t.slotOf k = { running with state := .paused, pauseCause := some .trip, resume := some .l2 }) ∧
    (s.lineTrip = false → t.slotOf k = running ∧
      ∃ v, s.roleValve k .launchOutlet = some v ∧
        (t.valve v.num).bind Valve.command = some (Command.fresh .toOpen .sequence s.clock) ∧
        (t.station k).map Station.queue = some (x.queue ++ [v.num])) := by
  have hstart := s.startLaunch_eq k tag
  extract_lets s1 at hstart
  obtain ⟨y, hy, hunflagged⟩ : ∃ y, s1.station k = some y ∧ y.unflagged = _ := State.station_seated hx _
  have hslot : y.slot = x.launching tag s.lineTrip := (congrArg Station.slot hunflagged : y.unflagged.slot = _)
  have hslotOf : s1.slotOf k = x.launching tag s.lineTrip := (State.slotOf_of_some hy).trans hslot
  have hsecure : s1.launcherSecure k = true := (State.launcherSecure_seated _ _).trans hsafe
  have hrise1 : TablesRise s1 := (SameLine.of_runs (Runs.started s k .launch .l1 tag Slot.barred).1).tablesRise hrise
  have hclock : s1.clock = s.clock := State.clock_seated _
  have htrip : s1.lineTrip = s.lineTrip := State.lineTrip_seated _
  have hbefore : s1.deadlineReached k = false := State.deadlineReached_of_launch (congrArg Slot.kind hslotOf)
  rw [if_pos hsecure] at hstart
  intro t running
  rcases Bool.eq_false_or_eq_true s.lineTrip with htripped | htripped
  · rw [htripped] at hslot hslotOf
    have hpaused : t = _ := hstart.trans (State.runForwardBy_paused hbefore (congrArg Slot.pausePending hslotOf))
    refine ⟨hpaused.trans (State.runForwardBy_paused hbefore (congrArg Slot.pausePending hslotOf)).symm, ?_⟩
    rw [hpaused]
    refine ⟨fun _ => ?_, fun h => by rw [htripped] at h; cases h⟩
    rw [State.slotOf_updSlot_self _ hy, hslot]
    rfl
  · rw [htripped] at hslot hslotOf
    have hclosed : s1.roleIs k .launchOutlet .closed = true := by
      rw [State.launcherSecure_eq] at hsecure
      obtain ⟨l, -, hl⟩ := Option.any_eq_true _ _ |>.1 hsecure
      simp only [Bool.and_eq_true] at hl
      exact hl.1.1.2
    obtain ⟨v, hv, hdebounced⟩ := State.roleValve_of_roleIs hclosed
    obtain ⟨w, hw, hsame⟩ := State.roleValve_seated hv
    have hnum : v.num = w.num := (congrArg Valve.num hsame : v.unheld.num = w.unheld.num)
    obtain ⟨hmem, hstation, -⟩ := State.roleValve_mem hv
    have hlink : y.link.state = .active :=
      (congrArg (fun z : Station => z.link.state) hunflagged : y.unflagged.link.state = _).trans hactive
    have hqueue : y.queue = x.queue := (congrArg Station.queue hunflagged : y.unflagged.queue = _)
    have hoffer := State.offerEnds_open (htrip.trans htripped) (hstation ▸ hy) hlink hdebounced
    have hqueued : t = _ :=
      hstart.trans (State.runForwardBy_queued hbefore (congrArg Slot.pausePending hslotOf) rfl rfl hv hoffer)
    refine ⟨hqueued.trans
      (State.runForwardBy_queued hbefore (congrArg Slot.pausePending hslotOf) rfl rfl hv hoffer).symm, ?_⟩
    rw [hqueued]
    refine ⟨fun h => (by rw [htripped] at h; cases h), fun _ => ⟨(State.slotOf_queuedBy hy _ _).trans ?_, w, hw, ?_, ?_⟩⟩
    · rw [hslot]
      rfl
    · rw [← hnum, State.command_queuedBy (hrise1.valve_of_mem hmem), hclock]
    · rw [← hnum, State.queue_queuedBy hy hstation, hqueue]

/-! ### What the start of a launch leaves -/

theorem State.endSequence_of_givenUp {s : State} {k u : Nat} {o : SeqOutcome} (h : s.givenUp k o = some u)
    (r : Option (SeqStep × Role × ValveOutcome)) :
    s.endSequence k o r = ((s.recordAtEnd u).handAside u).endSlot k o r := by
  simp only [State.endSequence, h]

section

variable {s : State} (hrise : TablesRise s) {k : Nat} {x : Station} (hx : s.station k = some x) {tag : Nat} {p : Pig}
  (hp : s.pig tag = some p) (hstaged : p.state = .staged) (hactive : x.link.state = .active)

include hrise hx hp hstaged hactive

/-- The launch runs its first step with no record given up, or gives its STAGED record up at once (R35). -/
theorem State.startLaunch_cases :
    let s1 := s.seated k fun x => x.started .launch .l1 tag x.barred s.lineTrip
    s.launcherSecure k = true ∧ s.startLaunch k tag = State.runForwardBy State.endSlot k launchSteps s1 ∨
      s.launcherSecure k = false ∧ s1.givenUp k .notSecure = some tag ∧
        s.startLaunch k tag = ((s1.recordAtEnd tag).handAside tag).endSlot k .notSecure none := by
  intro s1
  cases hsecure : s.launcherSecure k with
  | true => exact .inl ⟨rfl, (State.launch_secure hrise hx tag hactive hsecure).1⟩
  | false =>
    have hstart := s.startLaunch_eq k tag
    have hunsafe : ¬ s1.launcherSecure k = true := by
      rw [State.launcherSecure_seated, hsecure]
      decide
    have hslot : s1.slotOf k = x.launching tag s.lineTrip := State.slotOf_seated hx _
    have hseated : s1.pig tag = some p := Unstruck.seated tag s k _ p hp (Pig.inLauncher_of_staged hstaged)
    have hgiven : s1.givenUp k .notSecure = some tag := by
      have hbound : s1.boundPig k = some p := by
        rw [State.boundPig, hslot]
        exact hseated
      have hkind : (s1.slotOf k).kind = some .launch := congrArg Slot.kind hslot
      simp only [State.givenUp, hkind, hbound, hstaged, State.pig_tag hp, ne_eq, reduceCtorEq, not_false_eq_true, and_self,
        if_true]
    refine .inr ⟨rfl, hgiven, hstart.trans ?_⟩
    exact (if_neg hunsafe).trans (State.endSequence_of_givenUp hgiven none)

/-- The launched record stays as it is, or is given up at once (R35). -/
theorem State.pig_startLaunch : (s.startLaunch k tag).pig tag =
    some (if s.launcherSecure k then p else { p.markChanged with state := .launchFailed }) := by
  have hin := Pig.inLauncher_of_staged hstaged
  have hseated := Unstruck.seated tag s k (fun x => x.started .launch .l1 tag x.barred s.lineTrip) p hp hin
  have hkeeps := Unstruck.stationKeeps tag k
  have hcases := State.startLaunch_cases hrise hx hp hstaged hactive
  extract_lets s1 at hcases
  obtain ⟨hsecure, heq⟩ | ⟨hsecure, -, heq⟩ := hcases <;> rw [heq, hsecure]
  · exact hkeeps.runForwardBy hkeeps.endSlot _ _ p hseated hin
  · have hfailed : (s1.recordAtEnd tag).pig tag = some { p.markChanged with state := .launchFailed } :=
      State.pig_modPig_self (f := fun q => { q.markChanged with state := .launchFailed }) (fun _ h => h) hseated
    exact hkeeps.endSlot _ _ _ _ (Unstruck.handAside _ tag _ hfailed rfl) rfl

/-- Of the detectors only those that await the launched record are tested (R97). -/
theorem State.startLaunch_rearmsOnly : RearmsOnly (· = tag) s (s.startLaunch k tag) := by
  have hplaces : RecordsKeepPlace s (s.seated k fun x => x.started .launch .l1 tag x.barred s.lineTrip) :=
    (RecordsKeepPlace.engineKeeps.updSlot ..).trans (RecordsKeepPlace.engineKeeps.reevalStation ..)
  have hkeeps := SitesStand.stationKeeps k
  have hseated : SitesStand s (s.seated k fun x => x.started .launch .l1 tag x.barred s.lineTrip) :=
    (hkeeps.updSlot ..).trans (hkeeps.reevalStation _)
  have hcases := State.startLaunch_cases hrise hx hp hstaged hactive
  extract_lets s1 at hcases
  have hfirst : RearmsOnly (· = tag) s s1 := .of_sitesStand hrise.detectors hplaces hseated
  have hrise1 : Rising (s1.detectors.map Detector.num) := by rw [hfirst.nums]; exact hrise.detectors
  obtain ⟨-, heq⟩ | ⟨-, hgiven, heq⟩ := hcases <;> rw [heq] <;> refine hfirst.trans ?_
  · exact .of_sitesStand hrise1 (RecordsKeepPlace.engineKeeps.runForwardBy RecordsKeepPlace.engineKeeps.endSlot ..)
      (hkeeps.runForwardBy hkeeps.endSlot ..)
  · have hrecord : RearmsOnly (· = tag) s1 (s1.recordAtEnd tag) :=
      .of_sitesStand hrise1 (RecordsKeepPlace.engineKeeps.giveUp s1 k .notSecure tag hgiven) (.of_same rfl rfl)
    have hhanded := hrecord.trans (RearmsOnly.handAside (s := s1.recordAtEnd tag) hrise1 tag)
    exact hhanded.trans (.of_sitesStand (by rwa [hhanded.nums]) (RecordsKeepPlace.engineKeeps.endSlot ..) (hkeeps.endSlot ..))

/-- Another station is left alone, if its detectors are quiet and its receive stands (R29). -/
theorem State.station_startLaunch {j : Nat} (hj : k ≠ j) (hquiet : Quiet (· = tag) s j) (hstands : ReceiveStands s j) :
    (s.startLaunch k tag).station j = s.station j := by
  have hkeeps : StationKeeps k (Aside j) := Aside.stationKeeps hj
  have hcases := State.startLaunch_cases hrise hx hp hstaged hactive
  extract_lets s1 at hcases
  have hseated : Aside j s s1 := (hkeeps.updSlot ..).trans (hkeeps.reevalStation _)
  have hrise1 : TablesRise s1 := (SameLine.of_runs (Runs.started s k .launch .l1 tag Slot.barred).1).tablesRise hrise
  have hfirst := (hseated.same hrise.valves).1
  obtain ⟨-, heq⟩ | ⟨-, hgiven, heq⟩ := hcases <;> rw [heq]
  · exact ((hkeeps.runForwardBy hkeeps.endSlot ..).same hrise1.valves).1.trans hfirst
  · have hsights : SameSights s (s1.recordAtEnd tag) :=
      (SameSights.engineKeeps.updSlot ..).trans ((SameSights.engineKeeps.reevalStation ..).trans
        (SameSights.engineKeeps.giveUp s1 k .notSecure tag hgiven))
    have hrise2 : TablesRise (s1.recordAtEnd tag) := hrise1.recordAtEnd tag
    have hsites : SitesStand s (s1.recordAtEnd tag) :=
      ((SitesStand.stationKeeps k).updSlot ..).trans (((SitesStand.stationKeeps k).reevalStation _).trans (.of_same rfl rfl))
    have hplaces : RecordsKeepPlace s (s1.recordAtEnd tag) :=
      (RecordsKeepPlace.engineKeeps.updSlot ..).trans ((RecordsKeepPlace.engineKeeps.reevalStation ..).trans
        (RecordsKeepPlace.engineKeeps.giveUp s1 k .notSecure tag hgiven))
    have hhanded := State.station_handAside_of_quiet hrise2
      (hquiet.of_rearmsOnly (.of_sitesStand hrise.detectors hplaces hsites) hrise.detectors)
      (hstands.congr hsights hfirst hrise.pigs)
    have hrise3 : TablesRise ((s1.recordAtEnd tag).handAside tag) :=
      (SameLine.of_runs (Runs.handAside _ tag)).tablesRise hrise2
    exact ((hkeeps.endSlot ..).same hrise3.valves).1.trans (hhanded.trans hfirst)

end

end Sys2Proof.Machine
end

section
/-! SUPPORT. LAUNCH (R31 to R33). -/

namespace Sys2Proof.Machine

/-! ### Its checks -/

/-- The checks of LAUNCH with the seventh asked of OUT and PROVING alone: SILENT has failed the sixth. -/
def State.launchChecksAny (s : State) (f : LaunchFrame) : List (Bool × Status) :=
  let t := f.tag.toNat
  let k := f.launch.toNat
  let e := f.destination.toNat
  [(!s.ready, .notConfigured),
   (badTag f.tag || badStation f.launch || badStation f.destination || above f.learning 1 || nonzero f.reserved,
      .badField),
   ((s.station k).isNone || (s.station e).isNone, .noSuch),
   (!((s.station k).map Station.hasLauncher).getD false || s.noReceiver e || decide (s.stationPos e ≤ s.stationPos k),
      .badField),
   ((s.pig t).isSome && !s.reuses t k, .existing),
   (decide (s.linkStateOf k = .silent), .silent)] ++
  (decide (s.linkStateOf k = .out ∨ s.linkStateOf k = .proving), .wrongState) ::
    [(s.trapFaultOf k, .trapFault), (s.seqActive k, .seqActive), (s.launcherTaken k t, .trapOccupied),
     (s.claimedBusy k, .busyValve), (s.tableFull && !s.reuses t k, .full), (s.guardMet k, .guard)]

theorem exec_launch_eq_ask (f : LaunchFrame) (s : State) : exec (.launch f) s = s.ask (s.launchChecksAny f)
    (.clamped (decide (slipInRange f.slip.toNat ≠ f.slip.toNat)) ((s.stage f).startLaunch f.launch.toNat f.tag.toNat)) :=
  s.ask_congr _ (firstRefusal_append_congr [_, _, _, _, _] (firstRefusal_silent_or_inactive ..))

theorem State.reuses_eq (s : State) (t k : Nat) :
    s.reuses t k = (s.pig t).any fun p => decide (p.state = .launchFailed ∧ p.launchStation = some k) := by
  unfold State.reuses
  cases s.pig t with
  | none => rfl
  | some p => rw [Option.any_some, Bool.decide_and]

theorem State.launcherTaken_iff (s : State) (k t : Nat) : s.launcherTaken k t = true ↔
    ∃ p ∈ s.pigs, p.state = .launchFailed ∧ p.launchStation = some k ∧ p.tag ≠ t := by
  simp only [State.launcherTaken, List.any_eq_true, Bool.and_eq_true, beq_iff_eq, bne_iff_ne, and_assoc]

theorem State.guardMet_iff (s : State) (k : Nat) : s.guardMet k = true ↔
    ∃ p ∈ s.pigs, (s.holdInterval p).any (fun iv => (s.station k).any fun x =>
      decide (iv.1 ≤ x.position + x.tuning.guardVol ∧ x.position - x.tuning.guardVol ≤ iv.2)) = true := by
  unfold State.guardMet
  cases hk : s.station k with
  | none => simp
  | some x =>
    rw [List.any_eq_true]
    refine exists_congr fun p => and_congr_right fun _ => ?_
    cases s.holdInterval p with
    | none => rfl
    | some iv => simp [meets, Bool.decide_and]

theorem State.launchChecks_eq (s : State) (f : LaunchFrame) :
    let tag := f.tag.toNat
    let k := f.launch.toNat
    let e := f.destination.toNat
    let reused := (s.pig tag).any fun p => decide (p.state = .launchFailed ∧ p.launchStation = some k)
    (s.launchChecksAny f).map (fun x => (x.1 = true, x.2)) =
      [(s.lineState = .unconfigured, .notConfigured),
       (f.tag = 0 ∨ k < 1 ∨ 24 < k ∨ e < 1 ∨ 24 < e ∨ 1 < f.learning.toNat ∨ f.reserved ≠ 0, .badField),
       (s.station k = none ∨ s.station e = none, .noSuch),
       ((s.station k).any Station.hasLauncher = false ∨ (s.station e).any Station.hasReceiver = false ∨
          s.stationPos e ≤ s.stationPos k, .badField),
       (s.pig tag ≠ none ∧ reused = false, .existing),
       (s.linkStateOf k = .silent, .silent),
       (s.linkStateOf k = .out ∨ s.linkStateOf k = .proving, .wrongState),
       ((s.station k).any Station.trapFault = true, .trapFault),
       ((s.slotOf k).state ≠ .idle, .seqActive),
       (∃ p ∈ s.pigs, p.state = .launchFailed ∧ p.launchStation = some k ∧ p.tag ≠ tag, .trapOccupied),
       (∃ v ∈ s.valves, v.station = k ∧ v.command ≠ none, .busyValve),
       (32 ≤ s.pigs.length ∧ reused = false, .full),
       (∃ p ∈ s.pigs, (s.holdInterval p).any (fun iv => (s.station k).any fun x =>
          decide (iv.1 ≤ x.position + x.tuning.guardVol ∧ x.position - x.tuning.guardVol ≤ iv.2)) = true, .guard)] := by
  intro tag k e reused
  simp only [State.launchChecksAny, List.cons_append, List.nil_append, List.map_cons, List.map_nil, s.not_ready_iff,
    Bool.or_eq_true, Bool.and_eq_true, badTag_iff, badStation_iff, above_iff, nonzero_iff, Option.isNone_iff_eq_none,
    getD_map_false, State.noReceiver_iff, decide_eq_true_eq, Option.isSome_iff_ne_none, State.reuses_eq,
    Bool.not_eq_true', s.trapFaultOf_eq_any, State.seqActive, s.launcherTaken_iff, s.claimedBusy_iff, State.tableFull,
    s.guardMet_iff, or_assoc]
  rfl

/-! ### The record -/

/-- The Pig Table with the launched record (R32, R33). -/
def State.pigsStaged (s : State) (f : LaunchFrame) : List Pig :=
  if s.reuses f.tag.toNat f.launch.toNat then (s.modPig f.tag.toNat (s.relaunchedPig f)).pigs
  else insertByKey Pig.tag (s.launchedPig f) s.pigs

theorem State.stage_eq (s : State) (f : LaunchFrame) :
    s.stage f = ({ s with pigs := s.pigsStaged f } : State).handAside f.tag.toNat := by
  unfold State.stage State.pigsStaged
  by_cases h : s.reuses f.tag.toNat f.launch.toNat = true
  · rw [if_pos h, if_pos h]
    rfl
  · rw [if_neg h, if_neg h]

/-- Past the checks, a launch places its STAGED record in the launcher. -/
theorem State.launcherPlaced {s : State} (hrise : TablesRise s) (f : LaunchFrame)
    (hpass : s.pig f.tag.toNat = none ∨ s.reuses f.tag.toNat f.launch.toNat = true) :
    LauncherPlaced f.tag.toNat s (s.pigsStaged f) ∧ ∃ q, ({ s with pigs := s.pigsStaged f } : State).pig f.tag.toNat = some q ∧
      q.state = .staged ∧ q.flags = PigFlags.created ∧ (s.reuses f.tag.toNat f.launch.toNat = false → q = s.launchedPig f) ∧
      { q with position := s.stationPos f.launch.toNat, residue := 0, fixPosition := none, fixKind := none,
               fixDetector := none, fixTime := none, pointer := none, overdue := false } = s.launchedPig f := by
  unfold State.pigsStaged
  by_cases hreuses : s.reuses f.tag.toNat f.launch.toNat = true
  · rw [if_pos hreuses]
    rw [State.reuses_eq, Option.any_eq_true] at hreuses
    obtain ⟨p, hp, hfailed⟩ := hreuses
    obtain ⟨hfailed, hlauncher⟩ := of_decide_eq_true hfailed
    have hkeepsTag : ∀ q : Pig, (s.relaunchedPig f q).tag = q.tag := fun _ => rfl
    have hself : (s.modPig f.tag.toNat (s.relaunchedPig f)).pig f.tag.toNat = some (s.relaunchedPig f p) :=
      State.pig_modPig_self (f := s.relaunchedPig f) (fun _ h => h) hp
    have htag := State.pig_tag hp
    refine ⟨⟨fun q hq => ?_, ⟨_, hself, rfl⟩, ?_, ?_⟩, _, hself, rfl, rfl, fun h => ?_, ?_⟩
    · cases hp.symm.trans hq
      simp [Pig.inLauncher, hfailed]
    · have hfilter : ∀ l : List Pig, (l.map fun q => if q.tag = f.tag.toNat then s.relaunchedPig f q else q).filter
          (fun q => decide (q.tag ≠ f.tag.toNat)) = l.filter fun q => decide (q.tag ≠ f.tag.toNat) := fun l => by
        induction l with
        | nil => rfl
        | cons q l ih =>
          rw [List.map_cons]
          by_cases hq : q.tag = f.tag.toNat
          · rw [if_pos hq, List.filter_cons_of_neg (by simp [hkeepsTag, hq]), List.filter_cons_of_neg (by simp [hq]), ih]
          · rw [if_neg hq, List.filter_cons_of_pos (by simp [hq]), List.filter_cons_of_pos (by simp [hq]), ih]
      exact hfilter s.pigs
    · exact (map_mod_of_same Pig.tag f.tag.toNat (s.relaunchedPig f) Pig.tag (fun _ _ => rfl) s.pigs) ▸ hrise.pigs
    · rw [State.reuses_eq, hp, Option.any_some, decide_eq_false_iff_not] at h
      exact absurd ⟨hfailed, hlauncher⟩ h
    · simp only [State.relaunchedPig, State.launchedPig, htag, hlauncher]
  · rw [if_neg hreuses]
    have hfresh := hpass.resolve_right hreuses
    have hself := (State.pig_insertPig hrise (p := s.launchedPig f) hfresh).1
    refine ⟨⟨fun q hq => ?_, ⟨_, hself, rfl⟩, ?_, ?_⟩, _, hself, rfl, rfl, fun _ => rfl, rfl⟩
    · rw [hfresh] at hq
      cases hq
    · exact filter_insertByKey_of_neg Pig.tag _ (by simp [State.launchedPig]) s.pigs
    · exact (hrise.insertPig (p := s.launchedPig f) hfresh).pigs

/-! ### What the handing on leaves of the launching station -/

theorem Aside.roleValve {k : Nat} {s t : State} (h : Aside k s t) (hrise : Rising (s.valves.map Valve.num)) (r : Role) :
    t.roleValve k r = s.roleValve k r := by
  have hread : ∀ u : State, u.roleValve k r = (u.valves.map (Valve.seenAt k)).find? fun v => v.station == k && v.role == r := fun u => by
    unfold State.roleValve
    rw [List.find?_map]
    have hsame : ((fun v : Valve => v.station == k && v.role == r) ∘ Valve.seenAt k) = fun v => v.station == k && v.role == r :=
      funext fun v => by
        rw [Function.comp_apply, Valve.seenAt]
        split <;> rfl
    rw [hsame]
    cases hv : u.valves.find? fun v => v.station == k && v.role == r with
    | none => rfl
    | some v =>
      have hstation := List.find?_some hv
      simp only [Bool.and_eq_true, beq_iff_eq] at hstation
      rw [Option.map_some, Valve.seenAt, if_pos hstation.1]
  rw [hread, hread, (h.same hrise).2]

/-- An idle slot has no deadline, gate or watch. -/
theorem ReceiveStands.of_idle {s : State} {k : Nat} (h : (s.slotOf k).state = .idle) : ReceiveStands s k := fun _ => by
  refine ⟨?_, fun hwaits => ?_, fun hwatches => ?_⟩
  · rw [State.deadlineReached_eq, Slot.deadlineStands, h]
    simp
  · rw [h] at hwaits
    cases hwaits
  · rw [Slot.watching, h] at hwatches
    simp at hwatches

/-- What a change's handing on leaves of a station with an idle slot: all but its changed flag, and its valves whole. -/
theorem State.handAside_of_idle {s : State} (hrise : TablesRise s) {k : Nat} {x : Station} (hx : s.station k = some x)
    (hidle : (s.slotOf k).state = .idle) (tag : Nat) :
    (∃ y, (s.handAside tag).station k = some y ∧ y.unflagged = x.unflagged) ∧
      ∀ r, (s.handAside tag).roleValve k r = s.roleValve k r := by
  have hunflagged := s.station_rearmAwaiting tag k
  rw [hx] at hunflagged
  obtain ⟨y, hy, hsame⟩ := Option.map_eq_some_iff.1 hunflagged
  have hslot : (s.rearmAwaiting tag).slotOf k = s.slotOf k := by
    rw [State.slotOf_of_some hy, State.slotOf_of_some hx]
    exact (congrArg Station.slot hsame : y.unflagged.slot = x.unflagged.slot)
  have hrise1 : TablesRise (s.rearmAwaiting tag) := (SameLine.of_runs (Runs.rearmAwaiting s tag)).tablesRise hrise
  have haside : Aside k (s.rearmAwaiting tag) (s.handAside tag) :=
    .reviewReceives hrise1 (.of_idle (by rw [hslot]; exact hidle)) _
  refine ⟨⟨y, (haside.same hrise1.valves).1.trans hy, hsame⟩, fun r => ?_⟩
  rw [haside.roleValve hrise1.valves, State.roleValve, (s.rearmAwaiting_leaves tag).2]
  rfl

end Sys2Proof.Machine
end

section
/-! SUPPORT. LAUNCH, settled. -/

namespace Sys2Proof.Machine

/-- The state with a record placed in its launcher, once that is handed on and the launch begins. -/
def State.launched (s : State) (k tag : Nat) : State := (s.handAside tag).startLaunch k tag

theorem State.reaches_launched (s : State) (k tag : Nat) : Reaches s (s.launched k tag) :=
  (Reaches.handAside ..).trans (Reaches.startLaunch ..)

theorem RecordsKeepPlace.launched (s : State) (k tag : Nat) : RecordsKeepPlace s (s.launched k tag) :=
  (RecordsKeepPlace.engineKeeps.handAside ..).trans (RecordsKeepPlace.engineKeeps.startLaunch ..)

section

variable {s : State} (hrise : TablesRise s) {k : Nat} {x : Station} (hx : s.station k = some x) (hidle : (s.slotOf k).state = .idle)
  (hactive : x.link.state = .active) {tag : Nat} {q : Pig} (hq : s.pig tag = some q) (hstaged : q.state = .staged)

include hrise

theorem TablesRise.handAside (tag : Nat) : TablesRise (s.handAside tag) :=
  (SameLine.of_runs (Runs.handAside s tag)).tablesRise hrise

include hx hidle

/-- The handing on leaves what the launch goes by: its station but for the changed flag, and its check L1. -/
theorem State.handAside_launcher (tag : Nat) :
    (∃ y, (s.handAside tag).station k = some y ∧ y.unflagged = x.unflagged) ∧
      (s.handAside tag).roleValve k .launchOutlet = s.roleValve k .launchOutlet ∧
      (s.handAside tag).launcherSecure k = s.launcherSecure k := by
  obtain ⟨⟨y, hy, hsame⟩, hvalves⟩ := State.handAside_of_idle hrise hx hidle tag
  refine ⟨⟨y, hy, hsame⟩, hvalves _, ?_⟩
  have hlink : y.link = x.link := (congrArg Station.link hsame : y.unflagged.link = x.unflagged.link)
  simp only [State.launcherSecure_eq, State.roleIs_eq, hvalves, hy, hx, Option.map_some, hlink]

include hactive

theorem State.launched_secure (tag : Nat) (hsafe : s.launcherSecure k = true) :
    let running : Slot :=
      { Slot.idle with kind := some .launch, state := .stepping, bound := some tag, step := some .l2,
                       lastOutcome := x.slot.lastOutcome, barred := x.slot.barred }
    (s.lineTrip = true →
      (s.launched k tag).slotOf k = { running with state := .paused, pauseCause := some .trip, resume := some .l2 }) ∧
    (s.lineTrip = false → (s.launched k tag).slotOf k = running ∧
      ∃ v, s.roleValve k .launchOutlet = some v ∧
        ((s.launched k tag).valve v.num).bind Valve.command = some (Command.fresh .toOpen .sequence s.clock) ∧
        ((s.launched k tag).station k).map Station.queue = some (x.queue ++ [v.num])) := by
  intro running
  obtain ⟨⟨y, hy, hsame⟩, houtlet, hsecure⟩ := State.handAside_launcher hrise hx hidle tag
  have hspreads : Spreads s (s.handAside tag) := (Reaches.handAside ..).spreads
  have hclock : (s.handAside tag).clock = s.clock := by rw [hspreads]
  have htrip : (s.handAside tag).lineTrip = s.lineTrip := by rw [hspreads]
  have hslot : y.slot = x.slot := (congrArg Station.slot hsame : y.unflagged.slot = x.unflagged.slot)
  have hqueue : y.queue = x.queue := (congrArg Station.queue hsame : y.unflagged.queue = x.unflagged.queue)
  have hlink : y.link = x.link := (congrArg Station.link hsame : y.unflagged.link = x.unflagged.link)
  have hbegun := (State.launch_secure (hrise.handAside tag) hy tag (hlink ▸ hactive) (hsecure.trans hsafe)).2
  rwa [hslot, hqueue, hclock, htrip, houtlet] at hbegun

omit hactive in
theorem State.launched_notSecure (tag : Nat) (hunsafe : s.launcherSecure k = false) :
    (s.launched k tag).slotOf k = { Slot.idle with lastOutcome := some .notSecure, barred := x.slot.barred } ∧
      ((s.launched k tag).station k).map Station.fault = some (some
        { outcome := .notSecure, cause := .notSecure, kind := .launch, tag := tag, failStep := some .l1,
          failValve := none, restore := none, unrestored := [], time := s.clock }) ∧
      (s.launched k tag).alertSet .sequenceFailed = true ∧ (s.launched k tag).noteSet .sequenceDone = true := by
  obtain ⟨⟨y, hy, hsame⟩, -, hsecure⟩ := State.handAside_launcher hrise hx hidle tag
  have hspreads : Spreads s (s.handAside tag) := (Reaches.handAside ..).spreads
  have hclock : (s.handAside tag).clock = s.clock := by rw [hspreads]
  have hslot : y.slot = x.slot := (congrArg Station.slot hsame : y.unflagged.slot = x.unflagged.slot)
  have hended := State.launch_notSecure (hrise.handAside tag) hy tag (hsecure.trans hunsafe)
  rwa [hslot, hclock] at hended

include hq hstaged

theorem State.pig_launched : (s.launched k tag).pig tag =
    some (if s.launcherSecure k then q else { q.markChanged with state := .launchFailed }) := by
  obtain ⟨⟨y, hy, hsame⟩, -, hsecure⟩ := State.handAside_launcher hrise hx hidle tag
  have hlink : y.link = x.link := (congrArg Station.link hsame : y.unflagged.link = x.unflagged.link)
  rw [← hsecure]
  exact State.pig_startLaunch (hrise.handAside tag) hy (Unstruck.handAside s tag q hq (Pig.inLauncher_of_staged hstaged))
    hstaged (hlink ▸ hactive)

theorem State.launched_rearmsOnly : RearmsOnly (· = tag) (s.handAside tag) (s.launched k tag) := by
  obtain ⟨⟨y, hy, hsame⟩, -, -⟩ := State.handAside_launcher hrise hx hidle tag
  have hlink : y.link = x.link := (congrArg Station.link hsame : y.unflagged.link = x.unflagged.link)
  exact State.startLaunch_rearmsOnly (hrise.handAside tag) hy
    (Unstruck.handAside s tag q hq (Pig.inLauncher_of_staged hstaged)) hstaged (hlink ▸ hactive)

/-- A TRIPPED latching detector that awaits the record joins its re-arm set where it is due, and no other does (R97). -/
theorem State.detector_launched {d : Detector} (hd : d ∈ s.detectors) :
    (Rearmed (· = tag) (s.launched k tag) d → (s.launched k tag).detector d.num = some { d with inRearmSet := true }) ∧
      (¬ Rearmed (· = tag) (s.launched k tag) d → (s.launched k tag).detector d.num = some d) := by
  have hlaunch := State.launched_rearmsOnly hrise hx hidle hactive hq hstaged
  have hrearms := (RearmsOnly.handAside hrise.detectors tag).trans hlaunch
  refine ⟨fun hdue => ?_, fun hno => (hrearms.detectors d hd).resolve_right fun h => hno h.1⟩
  have hjoined := State.rearmAwaiting_joins hrise.detectors hd ((Rearmed.congr (hrearms.rearmDue d)).1 hdue)
  rw [State.detector, ← (SitesStand.reviewReceives (s.rearmAwaiting tag).stationNums _).detectors] at hjoined
  exact (hlaunch.detectors _ (State.detector_mem hjoined)).elim id And.right

/-- Another station whose detectors are quiet and whose receive stands is left alone (R29). -/
theorem State.station_launched {j : Nat} (hj : k ≠ j)
    (hquiet : ∀ d ∈ s.detectors, d.station = j → ¬ Rearmed (· = tag) (s.launched k tag) d) (hstands : ReceiveStands s j) :
    (s.launched k tag).station j = s.station j := by
  have hhand := RearmsOnly.handAside hrise.detectors tag
  have hrearms := hhand.trans (State.launched_rearmsOnly hrise hx hidle hactive hq hstaged)
  have hbefore : Quiet (· = tag) s j := fun d hd hstation hdue =>
    hquiet d hd hstation ((Rearmed.congr (hrearms.rearmDue d)).2 hdue)
  have hhanded := State.station_handAside_of_quiet hrise hbefore hstands
  obtain ⟨⟨y, hy, hsame⟩, -, -⟩ := State.handAside_launcher hrise hx hidle tag
  have hlink : y.link = x.link := (congrArg Station.link hsame : y.unflagged.link = x.unflagged.link)
  exact (State.station_startLaunch (hrise.handAside tag) hy
    (Unstruck.handAside s tag q hq (Pig.inLauncher_of_staged hstaged)) hstaged (hlink ▸ hactive) hj
    (hbefore.of_rearmsOnly hhand hrise.detectors)
    (hstands.congr (SameSights.engineKeeps.handAside s tag) hhanded hrise.pigs)).trans hhanded

end

/-- Settles O34: the record stands in its launcher, so the handing on and the holds re-evaluated do not strike it; the slot is
idle, so nothing of its station is changed before the launch; a station whose receive stands is never reached. -/
theorem launchStartsItsSequence : Obligations.LaunchStartsItsSequence := by
  unfold Obligations.LaunchStartsItsSequence
  intro s f tag k e reused record
  refine .of_ask (t := .clamped _ _) (exec_launch_eq_ask f s) (s.launchChecks_eq f) fun hpass hexec hrise x hx => ?_
  have hreused : s.reuses tag k = reused := s.reuses_eq tag k
  have hidle : (s.slotOf k).state = .idle :=
    not_not.1 (hpass ((s.slotOf k).state ≠ .idle, .seqActive) (by simp [k]))
  have hactive : x.link.state = .active := by
    have hsilent := hpass (s.linkStateOf k = .silent, .silent) (by simp [k])
    have hinactive := hpass (s.linkStateOf k = .out ∨ s.linkStateOf k = .proving, .wrongState) (by simp [k])
    rw [State.linkStateOf_of_some hx] at hsilent hinactive
    cases hstate : x.link.state <;> simp [hstate] at hsilent hinactive ⊢
  have hfree : s.pig tag = none ∨ s.reuses tag k = true := by
    have hexisting := hpass (s.pig tag ≠ none ∧ reused = false, .existing) (by simp [tag, reused, k])
    rw [hreused]
    by_cases hnone : s.pig tag = none
    · exact .inl hnone
    · exact .inr (by simpa [hnone] using hexisting)
  obtain ⟨hplaced, q, hq, hstaged, hflags, hnew, hrecord⟩ := State.launcherPlaced hrise f hfree
  have hrise1 := hplaced.tablesRise hrise
  rw [s.stage_eq] at hexec
  have hcreated : s.launchedPig f = record := by
    rw [State.launchedPig, yes_eq]
    rfl
  have hpig : (({ s with pigs := s.pigsStaged f } : State).launched k tag).pig tag =
      some (if s.launcherSecure k then q else { q.markChanged with state := .launchFailed }) :=
    State.pig_launched hrise1 hx hidle hactive hq hstaged
  have hspreads : Spreads s (({ s with pigs := s.pigsStaged f } : State).launched k tag) :=
    Spreads.trans (t := { s with pigs := s.pigsStaged f }) rfl (State.reaches_launched _ k tag).spreads
  have hplaces := RecordsKeepPlace.launched ({ s with pigs := s.pigsStaged f } : State) k tag
  have hunsafe := State.launched_notSecure hrise1 hx hidle tag
  have hsafe := State.launched_secure hrise1 hx hidle hactive tag
  have hdetectors := fun d hd => State.detector_launched hrise1 hx hidle hactive hq hstaged (d := d) hd
  have hstations := fun j hj => State.station_launched hrise1 hx hidle hactive hq hstaged (j := j) hj
  change exec _ s = .next ((Taken.clamped _ (({ s with pigs := s.pigsStaged f } : State).launched k tag)).state.respond _ _) at hexec
  generalize ({ s with pigs := s.pigsStaged f } : State).launched k tag = t at *
  refine answers_of_clamped hexec (slipInRange_ne_iff _) (ClockAndPortStand.spreads hspreads).2 fun st =>
    ⟨⟨_, hpig, ?_, fun hno => ?_, ?_⟩, fun u hu => (hplaces.pigPos u).trans (hplaced.pigPos hu), hunsafe, hsafe,
      .respond hspreads.besides st [], hplaces.train, hdetectors, fun horder y hy hne hquiet hbound hstands => ?_⟩
  · rw [← hcreated, ← hrecord]
    split
    · rw [hstaged]
    · simp only [Pig.markChanged, hflags, PigFlags.created]
      rw [hstaged]
  · have hq := hnew (hreused.trans hno)
    rw [← hcreated, hq]
    split
    · rfl
    · rfl
  · cases s.launcherSecure k with
    | true => exact hstaged
    | false => rfl
  · have hy' : s.station y.num = some y := find?_of_rising Station.num _ hrise.stations y hy
    have hbound' : (s.slotOf y.num).bound ≠ some tag := by rwa [State.slotOf_of_some hy']
    exact (hstations y.num (Ne.symm hne) hquiet (hplaced.receiveStands hrise horder hbound' hstands)).trans hy'

end Sys2Proof.Machine
end

section
/-! SUPPORT. The engine while LINE_TRIP is asserted (R145): no step offers its command, so a command that is carried or
TRAVELLING is left to its station (R123, R144). -/

namespace Sys2Proof.Machine

/-! ### A slot that goes no further -/

/-- The slot offers no command before it has been let go on: it is IDLE or PAUSED, or its next boundary pauses it. -/
def Slot.heldBack (x : Slot) : Prop := x.state = .idle ∨ x.state = .paused ∨ x.pausePending ≠ none

/-- LINE_TRIP is asserted, and every slot is held back (R145). -/
structure Tripped (s : State) : Prop where
  lineTrip : s.lineTrip = true
  slots : ∀ k, (s.slotOf k).heldBack
  valves : Rising (s.valves.map Valve.num)

/-- Under LINE_TRIP the valve keeps the command c, and its places in the queues. -/
structure CommandKept (v : Nat) (c : Command) (s t : State) : Prop where
  command : (t.valve v).bind Valve.command = some c
  queues : ∀ k, v ∈ t.queueOf k ↔ v ∈ s.queueOf k

/-- From a state with LINE_TRIP asserted and every slot held back, another such is reached, the command c kept. -/
structure TripKept (v : Nat) (c : Command) (s t : State) : Prop where
  keeps : Tripped s → Tripped t ∧ ((s.valve v).bind Valve.command = some c → CommandKept v c s t)

namespace TripKept

variable {v : Nat} {c : Command}

theorem refl (s : State) : TripKept v c s s := ⟨fun h => ⟨h, fun hc => ⟨hc, fun _ => Iff.rfl⟩⟩⟩

theorem trans {s t u : State} (h : TripKept v c s t) (g : TripKept v c t u) : TripKept v c s u := by
  refine ⟨fun hs => ?_⟩
  obtain ⟨ht, hkept⟩ := h.keeps hs
  obtain ⟨hu, hkept'⟩ := g.keeps ht
  refine ⟨hu, fun hc => ?_⟩
  have hfirst := hkept hc
  have hsecond := hkept' hfirst.command
  exact ⟨hsecond.command, fun k => (hsecond.queues k).trans (hfirst.queues k)⟩

theorem foldl {α : Type} (f : State → α → State) (hf : ∀ s a, TripKept v c s (f s a)) (l : List α) (s : State) :
    TripKept v c s (l.foldl f s) := by
  induction l generalizing s with
  | nil => exact refl s
  | cons a l ih => exact (hf s a).trans (ih _)

/-- Nothing of the slots, the queues and the valves' commands changes. -/
theorem of_reads {s t : State} (htrip : t.lineTrip = s.lineTrip)
    (hstations : ∀ k, (t.station k).map (fun x => (x.slot, x.queue)) = (s.station k).map fun x => (x.slot, x.queue))
    (hvalves : ∀ w, (t.valve w).bind Valve.command = (s.valve w).bind Valve.command)
    (hnums : t.valves.map Valve.num = s.valves.map Valve.num) : TripKept v c s t := by
  refine ⟨fun h => ?_⟩
  have hslot : ∀ k, t.slotOf k = s.slotOf k := fun k => by
    have hmap := congrArg (Option.map Prod.fst) (hstations k)
    simp only [Option.map_map] at hmap
    exact congrArg (Option.getD · Slot.idle) hmap
  have hqueue : ∀ k, t.queueOf k = s.queueOf k := fun k => by
    have hmap := congrArg (Option.map Prod.snd) (hstations k)
    simp only [Option.map_map] at hmap
    exact congrArg (Option.getD · []) hmap
  exact ⟨⟨htrip.trans h.lineTrip, fun k => by rw [hslot]; exact h.slots k, by rw [hnums]; exact h.valves⟩,
    fun hc => ⟨(hvalves v).trans hc, fun k => by rw [hqueue]⟩⟩

theorem of_same {s t : State} (htrip : t.lineTrip = s.lineTrip) (hstations : t.stations = s.stations)
    (hvalves : t.valves = s.valves) : TripKept v c s t :=
  of_reads htrip (fun k => by rw [State.station, hstations, State.station])
    (fun w => by rw [State.valve, hvalves, State.valve]) (by rw [hvalves])

theorem of_rehold {s t : State} (h : Rehold s t) : TripKept v c s t :=
  of_reads h.lineTrip (h.readStation _ fun _ => rfl)
    (fun w => by
      have hmap := congrArg (Option.bind · Valve.command) (h.valve w)
      simp only [Option.bind_map] at hmap
      exact hmap)
    (by
      have hmap := congrArg (List.map Valve.num) h.valves
      simp only [List.map_map] at hmap
      exact hmap)

theorem rearmTest (s : State) (d : Nat) : TripKept v c s (s.rearmTest d) := by
  obtain hsame | ⟨x, -, -, -, -, heq⟩ := s.rearmTest_cases d
  · rw [hsame]
    exact refl s
  · rw [heq]
    refine of_reads rfl (fun k => ?_) (fun _ => rfl) rfl
    rw [State.station_modStation (f := fun y => { y with changed := true }) (hf := fun _ => rfl), Option.map_map]
    refine Option.map_congr fun y _ => ?_
    rw [Function.comp_apply]
    split <;> rfl

/-- A slot changes, and is held back still. -/
theorem updSlot (s : State) (k : Nat) (f : Slot → Slot) (hf : Tripped s → ∀ x, s.station k = some x → (f x.slot).heldBack) :
    TripKept v c s (s.updSlot k f) := by
  refine ⟨fun h => ?_⟩
  cases hx : s.station k with
  | none =>
    rw [State.updSlot_of_none f hx]
    exact (refl s).keeps h
  | some x =>
    have hqueue : ∀ j, (s.updSlot k f).queueOf j = s.queueOf j := fun j => by
      by_cases hj : j = k
      · rw [hj, State.queueOf, State.station_updSlot_self f hx, State.queueOf, hx]
        rfl
      · rw [State.queueOf, State.station_updSlot_ne s f hj, State.queueOf]
    refine ⟨⟨(s.updSlot_lineTrip k f).trans h.lineTrip, fun j => ?_, by rw [s.valves_updSlot]; exact h.valves⟩, fun hc =>
      ⟨by rw [State.valve_updSlot]; exact hc, fun j => by rw [hqueue]⟩⟩
    by_cases hj : j = k
    · rw [hj, State.slotOf_updSlot_self f hx]
      exact hf h x hx
    · rw [State.slotOf, State.station_updSlot_ne s f hj]
      exact h.slots j

/-- Another command ends. -/
theorem endCommand (s : State) {y : Valve} (hne : Tripped s → (s.valve v).bind Valve.command = some c → v ≠ y.num)
    (o : ValveOutcome) : TripKept v c s (s.endCommand y o) := by
  refine ⟨fun h => ?_⟩
  refine ⟨⟨h.lineTrip, fun k => ?_, ?_⟩, fun hc => ?_⟩
  · have hslot : (s.endCommand y o).slotOf k = s.slotOf k := by
      rw [State.slotOf, State.station_endCommand, State.slotOf, Option.map_map]
      refine congrArg (Option.getD · Slot.idle) (Option.map_congr fun x _ => ?_)
      rw [Function.comp_apply]
      split <;> rfl
    rw [hslot]
    exact h.slots k
  · exact (map_mod_of_same Valve.num y.num (fun x => { x with command := none, lastOutcome := some o }) Valve.num
      (fun _ _ => rfl) s.valves) ▸ h.valves
  · have hne := hne h hc
    refine ⟨by rw [State.valve_endCommand_of_ne s y o hne]; exact hc, fun k => ?_⟩
    rw [State.queueOf, State.station_endCommand, State.queueOf]
    cases s.station k with
    | none => exact Iff.rfl
    | some x =>
      simp only [Option.map_some, Option.getD_some]
      split
      · simp [List.mem_filter, hne]
      · exact Iff.rfl

/-! ### The engine, function by function -/

theorem reevalStation (s : State) (k : Nat) : TripKept v c s (s.reevalStation k) := of_rehold (.reevalStation ..)

theorem modStation (s : State) (k : Nat) {f : Station → Station} (hf : ∀ x, (f x).num = x.num ∧ (f x).queue = x.queue)
    (hslot : ∀ x, ((f x).slot.heldBack ↔ x.slot.heldBack)) : TripKept v c s (s.modStation k f) := by
  refine ⟨fun h => ?_⟩
  have hstation : ∀ j, (s.modStation k f).station j = _ := fun j => State.station_modStation s k j f fun x => (hf x).1
  refine ⟨⟨h.lineTrip, fun j => ?_, h.valves⟩, fun hc => ⟨hc, fun j => ?_⟩⟩
  · have hj := h.slots j
    rw [State.slotOf] at hj ⊢
    rw [hstation]
    cases hx : s.station j with
    | none =>
      rw [hx] at hj
      exact hj
    | some x =>
      rw [hx] at hj
      simp only [Option.map_some, Option.getD_some] at hj ⊢
      split
      · exact (hslot x).2 hj
      · exact hj
  · rw [State.queueOf, hstation, State.queueOf]
    cases s.station j with
    | none => exact Iff.rfl
    | some x =>
      simp only [Option.map_some, Option.getD_some]
      split
      · rw [(hf x).2]
      · exact Iff.rfl

theorem followerLook (s : State) (k : Nat) (l : List Nat) : TripKept v c s (s.followerLook k l) := by
  unfold State.followerLook
  extract_lets now s1
  have hs1 : TripKept v c s s1 := modStation s k (fun _ => ⟨rfl, rfl⟩) fun _ => Iff.rfl
  split
  · exact hs1.trans (of_same rfl rfl rfl)
  · exact hs1

theorem followerWatch (s : State) (k : Nat) : TripKept v c s (s.followerWatch k) := by
  unfold State.followerWatch
  split
  · exact followerLook ..
  · exact refl s

theorem endSlot (s : State) (k : Nat) (o : SeqOutcome) (r : Option (SeqStep × Role × ValveOutcome)) :
    TripKept v c s (s.endSlot k o r) := by
  have hfreed : TripKept v c s ((s.updSlot k fun y => y.ended o).reevalStation k) :=
    (updSlot s k _ fun _ _ _ => .inl rfl).trans (reevalStation ..)
  unfold State.endSlot
  cases o.failed with
  | false => exact hfreed.trans (of_same rfl rfl rfl)
  | true =>
    refine hfreed.trans (trans (modStation _ k (f := fun y => { y with
      fault := some ((s.slotOf k).faultRecord o r s.clock),
      trapFault := y.trapFault || decide (o = .restoreFailed), changed := true }) (fun _ => ⟨rfl, rfl⟩) fun _ => Iff.rfl) ?_)
    exact of_same rfl rfl rfl

/-- A tail that is held back pauses at its first marked step, or ends. -/
theorem runRestoreBy {e : Ending} (he : ∀ s k o r, TripKept v c s (e s k o r)) (k : Nat) (l : List SeqStep) (s : State)
    (hpending : (s.slotOf k).pausePending ≠ none ∨ s.station k = none) : TripKept v c s (State.runRestoreBy e k l s) := by
  induction l with
  | nil => exact he ..
  | cons p l ih =>
    unfold State.runRestoreBy
    split
    · exact ih
    · rename_i hmarked
      split
      · exact updSlot _ _ _ fun _ _ _ => .inr (.inl rfl)
      · rename_i hnone
        refine absurd ?_ hmarked
        have hslot := hpending.resolve_left fun h => h hnone
        have hidle : s.slotOf k = Slot.idle := by rw [State.slotOf, hslot]; rfl
        rw [hidle]
        exact p.marked_clear

theorem beginTailBy {e : Ending} (he : ∀ s k o r, TripKept v c s (e s k o r)) (s : State) (k : Nat) (a : SeqOutcome)
    (f : Option (Role × ValveOutcome)) : TripKept v c s (s.beginTailBy e k a f) := by
  refine ⟨fun h => ?_⟩
  have hpending : ∀ x : Slot, (x.tail s.lineTrip a f).pausePending ≠ none := fun x => by
    rw [h.lineTrip]
    exact fun h => by cases h
  refine (trans (updSlot s k (fun x => x.tail s.lineTrip a f) fun _ x _ => .inr (.inr (hpending _)))
    (runRestoreBy he k restoreSteps _ ?_)).keeps h
  cases hx : s.station k with
  | none => exact .inr (by rw [State.updSlot_of_none _ hx]; exact hx)
  | some x =>
    rw [State.slotOf_updSlot_self _ hx]
    exact .inl (hpending _)

/-- A command still waiting is withdrawn, and one that is not is waited for (R144): c does not wait. -/
theorem cutShortBy {e : Ending} (he : ∀ s k o r, TripKept v c s (e s k o r)) (hc : ¬(c.phase = .queued ∧ c.carried = false))
    (s : State) (k : Nat) {y : Valve} (hy : y ∈ s.valves) (a : AbortCause) : TripKept v c s (s.cutShortBy e k y a) := by
  unfold State.cutShortBy
  split
  · exact refl s
  · rename_i d hd
    split
    · rename_i hwaits
      refine (endCommand s (fun h hkept heq => ?_) _).trans (beginTailBy he ..)
      have hlookup : s.valve v = some y := heq ▸ find?_of_rising Valve.num _ h.valves y hy
      rw [hlookup, Option.bind_some, hd] at hkept
      exact hc (Option.some.inj hkept ▸ hwaits)
    · exact updSlot _ _ _ fun h x hx => by
        have hheld := h.slots k
        rw [State.slotOf_of_some hx] at hheld
        exact hheld

theorem abandonBy {e : Ending} (he : ∀ s k o r, TripKept v c s (e s k o r)) (hc : ¬(c.phase = .queued ∧ c.carried = false))
    (s : State) (k : Nat) : TripKept v c s (s.abandonBy e k) := by
  have hraised : TripKept v c s (s.raise .notReady) := of_same rfl rfl rfl
  unfold State.abandonBy
  extract_lets s1 x
  refine hraised.trans ?_
  split
  · rename_i y hy
    split
    · exact cutShortBy he hc _ k (Runs.stepValve_mem hy).1 _
    · exact beginTailBy he ..
  · exact beginTailBy he ..

/-- Steps that are held back are abandoned, or pause at their first boundary. -/
theorem runForwardBy {e : Ending} (he : ∀ s k o r, TripKept v c s (e s k o r)) (hc : ¬(c.phase = .queued ∧ c.carried = false))
    (k : Nat) (l : List SeqStep) (s : State) (hpending : (s.slotOf k).pausePending ≠ none) :
    TripKept v c s (State.runForwardBy e k l s) := by
  cases l with
  | nil => exact he ..
  | cons p l =>
    unfold State.runForwardBy
    split
    · exact abandonBy he hc s k
    · split
      · exact updSlot _ _ _ fun _ _ _ => .inr (.inl rfl)
      · rename_i hnone
        exact absurd hnone hpending

theorem clearanceGateBy {e : Ending} (he : ∀ s k o r, TripKept v c s (e s k o r)) (hc : ¬(c.phase = .queued ∧ c.carried = false))
    (s : State) (k : Nat) : TripKept v c s (s.clearanceGateBy e k) := by
  refine ⟨fun h => ?_⟩
  refine (?_ : TripKept v c s (s.clearanceGateBy e k)).keeps h
  unfold State.clearanceGateBy
  split
  · rename_i p hstate hstep
    have hpending : (s.slotOf k).pausePending ≠ none :=
      ((h.slots k).resolve_left fun h => by rw [h] at hstate; cases hstate).resolve_left fun h => by
        rw [h] at hstate
        cases hstate
    split
    · unfold State.goOnAtBy
      split
      · exact runRestoreBy he k _ s (.inl hpending)
      · exact runForwardBy he hc k _ s hpending
    · exact refl s
  · exact refl s

theorem reviewReceive (hc : ¬(c.phase = .queued ∧ c.carried = false)) (s : State) (k : Nat) :
    TripKept v c s (s.reviewReceive k) := by
  unfold State.reviewReceive
  split
  · refine trans ?_ (followerWatch ..)
    split
    · exact abandonBy endSlot hc s k
    · exact clearanceGateBy endSlot hc s k
  · exact refl s

theorem endSequence (hc : ¬(c.phase = .queued ∧ c.carried = false)) (s : State) (k : Nat) (o : SeqOutcome)
    (r : Option (SeqStep × Role × ValveOutcome)) : TripKept v c s (s.endSequence k o r) := by
  unfold State.endSequence
  split
  · exact endSlot ..
  · rename_i u _
    have hrecord : TripKept v c s (s.recordAtEnd u) := of_same rfl rfl rfl
    refine (hrecord.trans ?_).trans (endSlot ..)
    exact (foldl _ rearmTest _ _).trans (foldl _ (reviewReceive hc) _ _)

/-- An INHIBITED command of a sequence ends its forward steps or its tail (R132, R147). -/
theorem slotOutcome (hc : ¬(c.phase = .queued ∧ c.carried = false)) (s : State) (k : Nat) :
    TripKept v c s (s.slotOutcome k .inhibited) := by
  have htail := beginTailBy (v := v) (c := c) (e := State.endSequence) (endSequence hc)
  unfold State.slotOutcome
  split
  · exact endSequence hc ..
  · unfold State.forwardOutcome
    split
    · exact htail ..
    · exact htail ..
  · exact refl s

/-- The withdrawal of another valve's command from its queue (R123). -/
theorem withdrawQueued (hc : ¬(c.phase = .queued ∧ c.carried = false)) (s : State) {w : Nat} (hw : w ≠ v) :
    TripKept v c s (s.withdrawQueued .lineTripped w) := by
  cases hy : (s.valve w).bind Valve.command with
  | none =>
    have hsame : s.withdrawQueued .lineTripped w = s := by simp only [State.withdrawQueued, hy]
    rw [hsame]
    exact refl s
  | some d =>
    obtain ⟨y, hy, hd⟩ := Option.bind_eq_some_iff.1 hy
    cases hcarried : d.carried with
    | true =>
      rw [State.withdrawQueued_carried hy hd hcarried]
      refine ⟨fun h => ⟨⟨h.lineTrip, h.slots, ?_⟩, fun hkept => ⟨?_, fun _ => Iff.rfl⟩⟩⟩
      · exact (map_mod_of_same Valve.num w (fun z => { z with command := some (d.mark .lineTripped) }) Valve.num
          (fun _ _ => rfl) s.valves) ▸ h.valves
      · rw [s.valve_modValve_of_ne (f := fun z => { z with command := some (d.mark .lineTripped) }) (fun _ => rfl) hw.symm]
        exact hkept
    | false =>
      have hends : TripKept v c s (s.endCommand y .inhibited) :=
        endCommand s (fun _ _ heq => hw ((State.valve_num hy).symm.trans heq.symm)) _
      rw [State.withdrawQueued_waiting hy hd hcarried]
      cases horigin : d.origin with
      | host =>
        rw [State.finishCommand_host hy hd horigin]
        exact hends
      | sequence =>
        rw [State.finishCommand_sequence hy hd horigin]
        exact hends.trans (slotOutcome hc ..)

end TripKept

end Sys2Proof.Machine
end

section
/-! SUPPORT. What LINE_TRIP does to the slots (R145), and to the commands carried and TRAVELLING (R123). -/

namespace Sys2Proof.Machine

/-! ### One change of every slot -/

/-- A station whose slot changes, with its changed flag set where the change tells. -/
def Station.reslotted (f : Slot → Slot) (x : Station) : Station := x.withSlot f (x.slot.tells (f x.slot))

theorem Slot.tells_self (x : Slot) : x.tells x = false := by simp [Slot.tells]

theorem Station.reslotted_reslotted {f : Slot → Slot} (hf : ∀ x, f (f x) = f x) (x : Station) :
    (x.reslotted f).reslotted f = x.reslotted f := by
  simp only [Station.reslotted, Station.withSlot, hf, Slot.tells_self, Bool.or_false]

theorem State.updSlot_reslotted {s : State} (hrise : Rising (s.stations.map Station.num)) (k : Nat) (f : Slot → Slot) :
    s.updSlot k f = { s with stations := s.stations.map fun x => if x.num = k then x.reslotted f else x } := by
  cases hx : s.station k with
  | none =>
    rw [State.updSlot_of_none f hx]
    have hsame : (s.stations.map fun x => if x.num = k then x.reslotted f else x) = s.stations :=
      (List.map_congr_left fun x hx' => if_neg fun h => by
        have hfound := find?_of_rising Station.num _ hrise x hx'
        rw [h] at hfound
        exact absurd (hx.symm.trans hfound) (by simp)).trans (List.map_id _)
    rw [hsame]
  | some y =>
    rw [State.updSlot_of_some f hx, State.modStation]
    refine congrArg (fun l => { s with stations := l }) (List.map_congr_left fun x hx' => ?_)
    split
    · rename_i h
      have hfound := find?_of_rising Station.num _ hrise x hx'
      rw [h] at hfound
      obtain rfl := Option.some.inj (hx.symm.trans hfound)
      rfl
    · rfl

/-- The same change made of every station's slot. -/
theorem State.foldl_updSlot {s : State} (hrise : Rising (s.stations.map Station.num)) {f : Slot → Slot}
    (hf : ∀ x, f (f x) = f x) :
    s.stationNums.foldl (fun s k => s.updSlot k f) s = { s with stations := s.stations.map (Station.reslotted f) } := by
  have hpass : ∀ (ks : List Nat) (u : State), Rising (u.stations.map Station.num) →
      ks.foldl (fun s k => s.updSlot k f) u =
        { u with stations := ks.foldl (fun m k => m.map fun x => if x.num = k then x.reslotted f else x) u.stations } := by
    intro ks
    induction ks with
    | nil => exact fun _ _ => rfl
    | cons k ks ih =>
      intro u hu
      have hnums : (u.stations.map fun x => if x.num = k then x.reslotted f else x).map Station.num = u.stations.map Station.num :=
        map_mod_of_same Station.num k (Station.reslotted f) Station.num (fun _ _ => rfl) _
      rw [List.foldl_cons, State.updSlot_reslotted hu, ih _ (hnums ▸ hu)]
      rfl
  refine (hpass s.stationNums s hrise).trans (congrArg (fun l => { s with stations := l }) ?_)
  rw [foldl_mod_eq_map Station.num (Station.reslotted f) (fun _ => rfl) (Station.reslotted_reslotted hf)]
  exact List.map_congr_left fun x hx => if_pos (List.mem_map_of_mem hx)

/-! ### LINE_TRIP released -/

theorem Slot.tripCleared_tripCleared (x : Slot) : x.tripCleared.tripCleared = x.tripCleared := by
  unfold Slot.tripCleared
  by_cases h : x.pausePending = some .trip
  · rw [if_pos h, if_neg (by simp)]
  · rw [if_neg h, if_neg h]

theorem State.releaseTrip_eq {s : State} (hrise : Rising (s.stations.map Station.num)) : s.releaseTrip =
    { s with
      lineTrip := false
      stations := s.stations.map fun x => if x.slot.pausePending = some .trip then
        { x with slot := { x.slot with pausePending := none }, changed := true } else x } := by
  refine (State.foldl_updSlot (s := { s with lineTrip := false }) hrise Slot.tripCleared_tripCleared).trans ?_
  refine congrArg (fun l => { s with lineTrip := false, stations := l }) (List.map_congr_left fun x _ => ?_)
  unfold Station.reslotted
  by_cases h : x.slot.pausePending = some .trip
  · rw [if_pos h]
    have hcleared : x.slot.tripCleared = { x.slot with pausePending := none } := if_pos h
    have htells : x.slot.tells x.slot.tripCleared = true := by rw [hcleared]; simp [Slot.tells, h]
    rw [htells, Station.withSlot, Bool.or_true, hcleared]
  · have hsame : x.slot.tripCleared = x.slot := if_neg h
    rw [if_neg h, hsame, Slot.tells_self, Station.withSlot, Bool.or_false, hsame]

/-! ### LINE_TRIP asserted: the slots -/

theorem Slot.tripPending_tripPending (x : Slot) : x.tripPending.tripPending = x.tripPending := by
  unfold Slot.tripPending
  by_cases h : x.state = .idle ∨ x.state = .paused
  · rw [if_pos h, if_pos h]
  · rw [if_neg h, if_neg h]

theorem Slot.heldBack_tripPending (x : Slot) : x.tripPending.heldBack := by
  unfold Slot.tripPending
  by_cases h : x.state = .idle ∨ x.state = .paused
  · rw [if_pos h]
    exact h.elim .inl fun h => .inr (.inl h)
  · rw [if_neg h]
    exact .inr (.inr fun h => by cases h)

/-- LINE_TRIP asserted, and every active slot that is not PAUSED pause-pending (R145). -/
def State.tripSlots (s : State) : State :=
  { s with lineTrip := true, stations := s.stations.map (Station.reslotted Slot.tripPending) }

theorem State.assertTrip_eq {s : State} (hrise : Rising (s.stations.map Station.num)) : s.assertTrip =
    (s.stationNums.foldl (State.withdrawQueue · .lineTripped ·) s.tripSlots).raise .lineTrip := by
  have hslots := State.foldl_updSlot (s := { s with lineTrip := true }) hrise Slot.tripPending_tripPending
  have hnums : s.tripSlots.stationNums = s.stationNums := by
    simp only [State.stationNums, State.tripSlots, List.map_map]
    rfl
  rw [← hnums]
  exact congrArg (fun u : State => (u.stationNums.foldl (State.withdrawQueue · .lineTripped ·) u).raise .lineTrip) hslots

theorem State.station_tripSlots (s : State) (k : Nat) :
    s.tripSlots.station k = (s.station k).map (Station.reslotted Slot.tripPending) := by
  simp only [State.station, State.tripSlots, List.find?_map]
  rfl

theorem State.slotOf_tripSlots (s : State) (k : Nat) : s.tripSlots.slotOf k = (s.slotOf k).tripPending := by
  rw [State.slotOf, State.station_tripSlots, State.slotOf]
  cases s.station k <;> rfl

theorem State.queueOf_tripSlots (s : State) (k : Nat) : s.tripSlots.queueOf k = s.queueOf k := by
  rw [State.queueOf, State.station_tripSlots, State.queueOf]
  cases s.station k <;> rfl

theorem TablesRise.tripSlots {s : State} (h : TablesRise s) : TablesRise s.tripSlots :=
  ⟨rising_map Station.num (Station.reslotted Slot.tripPending) (fun _ => rfl) h.stations, h.detectors, h.valves, h.meters, h.pigs⟩

theorem Tripped.tripSlots {s : State} (hrise : TablesRise s) : Tripped s.tripSlots :=
  ⟨rfl, fun k => by rw [State.slotOf_tripSlots]; exact Slot.heldBack_tripPending _, hrise.valves⟩

end Sys2Proof.Machine
end

section
/-! SUPPORT. What the withdrawals under LINE_TRIP leave of the commands carried and TRAVELLING (R123). -/

namespace Sys2Proof.Machine

/-- A fold over a list that meets an item comes to what the item brings about, if the rest keeps it. -/
theorem foldl_meets {α σ : Type} {f : σ → α → σ} {P Q : σ → Prop} {a : α} (hkeep : ∀ s b, P s → P (f s b))
    (hkeep' : ∀ s b, Q s → Q (f s b)) (hmeet : ∀ s, P s → Q (f s a)) {l : List α} (ha : a ∈ l) {s : σ} (hs : P s) :
    Q (l.foldl f s) := by
  have hstay : ∀ (m : List α) (u : σ), Q u → Q (m.foldl f u) := fun m => by
    induction m with
    | nil => exact fun _ h => h
    | cons b m ih => exact fun u h => ih _ (hkeep' u b h)
  induction l generalizing s with
  | nil => cases ha
  | cons b l ih =>
    rcases List.mem_cons.1 ha with rfl | ha
    · exact hstay l _ (hmeet s hs)
    · exact ih ha (hkeep s b hs)

theorem foldl_keeps {α σ : Type} {f : σ → α → σ} {P : σ → Prop} {l : List α} (hkeep : ∀ s, ∀ b ∈ l, P s → P (f s b)) {s : σ}
    (hs : P s) : P (l.foldl f s) := by
  induction l generalizing s with
  | nil => exact hs
  | cons b l ih => exact ih (fun s c hc => hkeep s c (List.mem_cons_of_mem _ hc)) (hkeep s b (List.mem_cons_self ..) hs)

/-! ### A TRAVELLING command -/

/-- Under LINE_TRIP the valve has the command c, in no queue. -/
structure Unqueued (v : Nat) (c : Command) (s : State) : Prop where
  tripped : Tripped s
  command : (s.valve v).bind Valve.command = some c
  queues : ∀ k, v ∉ s.queueOf k

theorem Unqueued.withdrawQueue {v : Nat} {c : Command} (hc : ¬(c.phase = .queued ∧ c.carried = false)) {s : State}
    (h : Unqueued v c s) (k : Nat) : Unqueued v c (s.withdrawQueue .lineTripped k) := by
  refine foldl_keeps (fun u w hw hu => ?_) h
  have hne : w ≠ v := fun heq => h.queues k (heq ▸ hw)
  obtain ⟨htripped, hkept⟩ := (TripKept.withdrawQueued hc u hne).keeps hu.tripped
  have hkept := hkept hu.command
  exact ⟨htripped, hkept.command, fun j hj => hu.queues j ((hkept.queues j).1 hj)⟩

/-! ### A command carried -/

theorem Command.mark_mark (c : Command) (m : LapseMark) : (c.mark m).mark m = c.mark m := by
  unfold Command.mark
  by_cases h : m ∈ c.marks
  · rw [if_pos h, if_pos h]
  · rw [if_neg h, if_pos (by simp)]

theorem Command.mark_carried (c : Command) (m : LapseMark) : (c.mark m).carried = c.carried := by
  unfold Command.mark
  split <;> rfl

theorem Command.mark_eq (c : Command) (m : LapseMark) :
    c.mark m = { c with marks := if m ∈ c.marks then c.marks else c.marks ++ [m] } := by
  unfold Command.mark
  split <;> rfl

/-- Under LINE_TRIP the valve has the command c in the station's queue, or has it marked. -/
structure CarriedAt (k v : Nat) (c : Command) (s : State) : Prop where
  tripped : Tripped s
  command : (s.valve v).bind Valve.command = some c ∧ v ∈ s.queueOf k ∨
    (s.valve v).bind Valve.command = some (c.mark .lineTripped)

/-- Under LINE_TRIP the valve has the command c marked. -/
structure MarkedAt (v : Nat) (c : Command) (s : State) : Prop where
  tripped : Tripped s
  command : (s.valve v).bind Valve.command = some (c.mark .lineTripped)

section

variable {k v : Nat} {c : Command} (hc : c.carried = true)

include hc

/-- A carried command withdrawn is marked (R123). -/
theorem markedAt_of_withdrawn {s : State} (htripped : Tripped s) (hcommand : (s.valve v).bind Valve.command = some c) :
    MarkedAt v c (s.withdrawQueued .lineTripped v) := by
  obtain ⟨y, hy, hd⟩ := Option.bind_eq_some_iff.1 hcommand
  rw [State.withdrawQueued_carried hy hd hc]
  refine ⟨⟨htripped.lineTrip, htripped.slots, ?_⟩, ?_⟩
  · exact (map_mod_of_same Valve.num v (fun z => { z with command := some (c.mark .lineTripped) }) Valve.num
      (fun _ _ => rfl) s.valves) ▸ htripped.valves
  · rw [State.valve_modValve_self (f := fun z => { z with command := some (c.mark .lineTripped) }) hy fun _ => rfl,
      Option.bind_some]

theorem MarkedAt.withdrawQueued {s : State} (h : MarkedAt v c s) (w : Nat) : MarkedAt v c (s.withdrawQueued .lineTripped w) := by
  have hmarked := (c.mark_carried .lineTripped).trans hc
  by_cases hw : w = v
  · rw [hw]
    have hagain := markedAt_of_withdrawn hmarked h.tripped h.command
    exact ⟨hagain.tripped, by rw [← c.mark_mark]; exact hagain.command⟩
  · obtain ⟨htripped, hkept⟩ := (TripKept.withdrawQueued (v := v) (c := c.mark .lineTripped)
      (fun h => by rw [hmarked] at h; cases h.2) s hw).keeps h.tripped
    exact ⟨htripped, (hkept h.command).command⟩

theorem CarriedAt.withdrawQueued {s : State} (h : CarriedAt k v c s) (w : Nat) :
    CarriedAt k v c (s.withdrawQueued .lineTripped w) := by
  obtain ⟨htripped, ⟨hcommand, hqueue⟩ | hmarked⟩ := h
  · by_cases hw : w = v
    · obtain ⟨htripped, hmarked⟩ := markedAt_of_withdrawn hc htripped hcommand
      rw [hw]
      exact ⟨htripped, .inr hmarked⟩
    · obtain ⟨htripped, hkept⟩ :=
        (TripKept.withdrawQueued (v := v) (c := c) (fun h => by rw [hc] at h; cases h.2) s hw).keeps htripped
      have hkept := hkept hcommand
      exact ⟨htripped, .inl ⟨hkept.command, (hkept.queues k).2 hqueue⟩⟩
  · obtain ⟨htripped, hmarked⟩ := MarkedAt.withdrawQueued hc ⟨htripped, hmarked⟩ w
    exact ⟨htripped, .inr hmarked⟩

theorem CarriedAt.withdrawQueue {s : State} (h : CarriedAt k v c s) (j : Nat) :
    CarriedAt k v c (s.withdrawQueue .lineTripped j) := foldl_keeps (fun _ w _ hu => hu.withdrawQueued hc w) h

theorem MarkedAt.withdrawQueue {s : State} (h : MarkedAt v c s) (j : Nat) : MarkedAt v c (s.withdrawQueue .lineTripped j) :=
  foldl_keeps (fun _ w _ hu => hu.withdrawQueued hc w) h

/-- The withdrawal of the queue that has the carried command marks it. -/
theorem CarriedAt.marked {s : State} (h : CarriedAt k v c s) : MarkedAt v c (s.withdrawQueue .lineTripped k) := by
  obtain ⟨htripped, ⟨hcommand, hqueue⟩ | hmarked⟩ := h
  · have hwithdraw : ∀ u, CarriedAt k v c u → MarkedAt v c (u.withdrawQueued .lineTripped v) := fun u hu => by
      obtain ⟨htripped, ⟨hcommand, -⟩ | hmarked⟩ := hu
      · exact markedAt_of_withdrawn hc htripped hcommand
      · exact MarkedAt.withdrawQueued hc ⟨htripped, hmarked⟩ v
    exact foldl_meets (f := fun u w => State.withdrawQueued u .lineTripped w) (P := CarriedAt k v c) (Q := MarkedAt v c)
      (fun u w hu => CarriedAt.withdrawQueued hc hu w)
      (fun u w hu => MarkedAt.withdrawQueued hc hu w) hwithdraw hqueue (s := s) ⟨htripped, .inl ⟨hcommand, hqueue⟩⟩
  · exact MarkedAt.withdrawQueue hc ⟨htripped, hmarked⟩ k

end

/-- Under LINE_TRIP a carried command ends up marked, once its station's queue has been withdrawn. -/
theorem State.assertTrip_carried {s : State} (hrise : TablesRise s) {x : Station} (hx : x ∈ s.stations) {v : Nat}
    (hv : v ∈ x.queue) {c : Command} (hcommand : (s.valve v).bind Valve.command = some c) (hc : c.carried = true) :
    (s.assertTrip.valve v).bind Valve.command = some (c.mark .lineTripped) := by
  have hqueue : v ∈ s.tripSlots.queueOf x.num := by
    rw [State.queueOf_tripSlots, State.queueOf_of_some (find?_of_rising Station.num _ hrise.stations x hx)]
    exact hv
  rw [State.assertTrip_eq hrise.stations]
  exact (foldl_meets (f := fun u k => State.withdrawQueue u .lineTripped k) (a := x.num)
    (P := CarriedAt x.num v c) (Q := MarkedAt v c)
    (fun u j hu => CarriedAt.withdrawQueue (k := x.num) (v := v) hc hu j) (fun u j hu => MarkedAt.withdrawQueue hc hu j)
    (fun u hu => CarriedAt.marked hc hu) (List.mem_map_of_mem hx) (s := s.tripSlots)
    ⟨.tripSlots hrise, .inl ⟨hcommand, hqueue⟩⟩).command

/-- Under LINE_TRIP a command in no queue, and TRAVELLING, goes on (R123). -/
theorem State.assertTrip_travelling {s : State} (hrise : TablesRise s) (hqueues : QueuesHoldQueued s) {y : Valve}
    (hy : y ∈ s.valves) {c : Command} (hcommand : y.command = some c) (hphase : c.phase = .travelling) :
    (s.assertTrip.valve y.num).bind Valve.command = some c := by
  have hlookup := hrise.valve_of_mem hy
  have hout : ∀ k, y.num ∉ s.tripSlots.queueOf k := fun k hmem => by
    rw [State.queueOf_tripSlots] at hmem
    cases hx : s.station k with
    | none =>
      rw [State.queueOf_of_none hx] at hmem
      cases hmem
    | some x =>
      rw [State.queueOf_of_some hx] at hmem
      have hok := hqueues x (State.station_mem hx) _ hmem
      simp [State.queueEntryOk, hlookup, hcommand, hphase] at hok
  rw [State.assertTrip_eq hrise.stations]
  exact (foldl_keeps (f := fun u k => State.withdrawQueue u .lineTripped k) (P := Unqueued y.num c)
    (fun u k _ hu => Unqueued.withdrawQueue (fun h => by rw [hphase] at h; cases h.1) hu k) (s := s.tripSlots)
    ⟨.tripSlots hrise, hlookup ▸ hcommand, hout⟩).command

end Sys2Proof.Machine
end

section
/-! SUPPORT. What LINE_TRIP's withdrawals leave of a station whose receive stands, or while no record is STAGED (R29, R123). -/

namespace Sys2Proof.Machine

/-! ### A receive stands whatever the changed flag -/

theorem State.closingNow_eq (s : State) (k : Nat) : s.closingNow k = (s.pigs.filter fun p =>
    decide ((s.slotOf k).bound ≠ some p.tag) && (s.holdFront p).any (s.atDeadline k)).map Pig.tag := by
  unfold State.closingNow
  refine congrArg (List.map Pig.tag) (List.filter_congr fun p _ => congrArg (decide _ && ·) ?_)
  cases s.holdFront p <;> rfl

theorem State.queueOf_of_unflagged {s t : State} {k : Nat}
    (h : (t.station k).map Station.unflagged = (s.station k).map Station.unflagged) : t.queueOf k = s.queueOf k := by
  have hmap := congrArg (Option.map Station.queue) h
  simp only [Option.map_map] at hmap
  exact congrArg (Option.getD · []) hmap

/-- A slot, but for the pause that is pending. -/
def Slot.unpended (x : Slot) : Slot := { x with pausePending := none }

/-- What a re-examination reads of its station. -/
def Station.seen (x : Station) : Slot × Nat × Tuning := (x.slot.unpended, x.position, x.tuning)

theorem State.seen_of_unflagged {s t : State} {k : Nat}
    (h : (t.station k).map Station.unflagged = (s.station k).map Station.unflagged) :
    (t.station k).map Station.seen = (s.station k).map Station.seen := by
  have hmap := congrArg (Option.map Station.seen) h
  simp only [Option.map_map] at hmap
  exact hmap

theorem ReceiveStands.of_stations {s : State} {k : Nat} (h : ReceiveStands s k) {l : List Station}
    (hsame : (({ s with stations := l } : State).station k).map Station.seen = (s.station k).map Station.seen) :
    ReceiveStands { s with stations := l } k := by
  have hslot : (({ s with stations := l } : State).slotOf k).unpended = (s.slotOf k).unpended := by
    have hmap := congrArg (fun o => (Option.map Prod.fst o).getD Slot.idle) hsame
    simp only [Option.map_map] at hmap
    have hread : ∀ u : State, ((u.station k).map (Prod.fst ∘ Station.seen)).getD Slot.idle = (u.slotOf k).unpended := fun u => by
      rw [State.slotOf]
      cases u.station k <;> rfl
    rwa [hread, hread] at hmap
  have hreads : ∀ {α : Type} (g : Slot → α), (∀ x, g x.unpended = g x) →
      g (({ s with stations := l } : State).slotOf k) = g (s.slotOf k) := fun g hg =>
    (hg _).symm.trans ((congrArg g hslot).trans (hg _))
  have hkind := hreads Slot.kind fun _ => rfl
  have hstate := hreads Slot.state fun _ => rfl
  have htag := hreads Slot.bound fun _ => rfl
  have hstored := hreads Slot.closing fun _ => rfl
  have hwatches := hreads Slot.watching fun _ => rfl
  have hdue := hreads Slot.deadlineStands fun _ => rfl
  have hposition := congrArg (Option.map fun x : Slot × Nat × Tuning => (x.2.1, x.2.2.approach, x.2.2.clearance)) hsame
  simp only [Option.map_map] at hposition
  have hat : ({ s with stations := l } : State).atDeadline k = s.atDeadline k := funext fun front => by
    have hmap := congrArg (Option.map fun x : Nat × Nat × Nat => (x.1, x.2.1)) hposition
    simp only [Option.map_map] at hmap
    rw [State.atDeadline_eq, State.atDeadline_eq]
    exact congrArg (Option.any fun x : Nat × Nat => decide (x.1 ≤ front + x.2)) hmap
  have hbound : ({ s with stations := l } : State).boundPig k = s.boundPig k := by
    rw [State.boundPig, htag]
    rfl
  have hdeadline : ({ s with stations := l } : State).deadlineReached k = s.deadlineReached k := by
    rw [State.deadlineReached_eq, State.deadlineReached_eq, hdue, hbound, hat]
    rfl
  have hclosing : ({ s with stations := l } : State).closingNow k = s.closingNow k := by
    rw [State.closingNow_eq, State.closingNow_eq, htag, hat]
    rfl
  have hopen : ({ s with stations := l } : State).clearanceOpen k = s.clearanceOpen k := by
    have hbehind : ∀ p b, ({ s with stations := l } : State).clearBehind k p b = s.clearBehind k p b := fun p b => by
      rw [State.clearBehind_eq, State.clearBehind_eq]
      refine congrArg₂ (fun o q => Option.all q o) rfl (funext fun front => ?_)
      have hmap := congrArg (Option.all fun x : Nat × Nat × Nat => decide (front + x.2.2 < p.position)) hposition
      rw [Option.all_map, Option.all_map] at hmap
      exact hmap
    rw [State.clearanceOpen_eq, State.clearanceOpen_eq, hbound]
    simp only [hbehind]
    rfl
  unfold ReceiveStands at h ⊢
  rw [hkind, hstate, hwatches, hstored, hdeadline, hopen, hclosing]
  exact h

/-- A receive that stands still stands, whatever its station's changed flag and queue. -/
theorem ReceiveStands.spared {s t : State} (h : SameSights s t) {k : Nat}
    (hsame : (t.station k).map Station.seen = (s.station k).map Station.seen) (hrise : Rising (s.pigs.map Pig.tag))
    (hstands : ReceiveStands s k) : ReceiveStands t k := by
  have hbefore : ReceiveStands { t with stations := s.stations } k :=
    hstands.congr (t := { t with stations := s.stations }) ⟨⟨h.ledger.tags, h.ledger.train, h.ledger.gauge⟩, h.records, h.sites⟩
      rfl hrise
  exact hbefore.of_stations (s := { t with stations := s.stations }) (l := t.stations) hsame

/-! ### A station spared -/

/-- The station, but for its changed flag, and its valves, but for their holds, are as they were. -/
structure StationSpared (k : Nat) (s t : State) : Prop where
  station : (t.station k).map Station.unflagged = (s.station k).map Station.unflagged
  valves : ∀ {v y}, s.valve v = some y → y.station = k → (t.valve v).map Valve.unheld = some y.unheld

namespace StationSpared

variable {k : Nat}

theorem refl (s : State) : StationSpared k s s := ⟨rfl, fun hy _ => congrArg (Option.map Valve.unheld) hy⟩

theorem trans {s t u : State} (h : StationSpared k s t) (g : StationSpared k t u) : StationSpared k s u := by
  refine ⟨g.station.trans h.station, fun {v y} hy hk => ?_⟩
  obtain ⟨z, hz, hsame⟩ := Option.map_eq_some_iff.1 (h.valves hy hk)
  have hstation : z.station = k := (congrArg Valve.station hsame : z.unheld.station = y.unheld.station).trans hk
  rw [g.valves hz hstation, hsame]

theorem of_aside {s t : State} (hrise : Rising (s.valves.map Valve.num)) (h : Aside k s t) : StationSpared k s t :=
  ⟨by rw [(h.same hrise).1], fun hy hk => by rw [h.valve hrise hy hk, Option.map_some]⟩

end StationSpared

/-- No record is STAGED, or the station's receive stands: the end of another's launch does not reach the station (R29, R35). -/
def Undisturbed (k : Nat) (s : State) : Prop := (∀ u, ¬ s.stagedTag u) ∨ ReceiveStands s k

theorem Undisturbed.spared {k : Nat} {s t : State} (h : Undisturbed k s) (hsights : SameSights s t)
    (hplaces : RecordsKeepPlace s t) (hrise : Rising (s.pigs.map Pig.tag))
    (hsame : (t.station k).map Station.seen = (s.station k).map Station.seen) : Undisturbed k t :=
  h.imp (fun hno u hu => hno u (hplaces.stagedTag_of hu)) fun hstands => hstands.spared hsights hsame hrise

/-- The end of a sequence leaves an undisturbed station of another number. -/
theorem StationSpared.endSequence {s : State} (hrise : TablesRise s) {k j : Nat} (hj : j ≠ k) (h : Undisturbed k s)
    (o : SeqOutcome) (r : Option (SeqStep × Role × ValveOutcome)) : StationSpared k s (s.endSequence j o r) := by
  have hslot : ∀ {u : State}, TablesRise u → StationSpared k u (u.endSlot j o r) := fun hu =>
    .of_aside hu.valves ((Aside.stationKeeps hj).endSlot ..)
  cases hgiven : s.givenUp j o with
  | none =>
    have hsame : s.endSequence j o r = s.endSlot j o r := by simp only [State.endSequence, hgiven]
    rw [hsame]
    exact hslot hrise
  | some u =>
    obtain ⟨p, hp, hstaged⟩ := State.staged_of_givenUp hgiven
    have hstands : ReceiveStands s k := h.resolve_left fun hno => hno u ⟨p, hp, hstaged⟩
    rw [State.endSequence_of_givenUp hgiven]
    have hrise1 := hrise.recordAtEnd u
    have hsights : SameSights s (s.recordAtEnd u) := SameSights.engineKeeps.giveUp s j o u hgiven
    have hrise2 : TablesRise ((s.recordAtEnd u).rearmAwaiting u) :=
      (SameLine.of_runs (Runs.rearmAwaiting _ u)).tablesRise hrise1
    have hunflagged := State.station_rearmAwaiting (s.recordAtEnd u) u k
    have hstanding : ReceiveStands ((s.recordAtEnd u).rearmAwaiting u) k :=
      hstands.spared (hsights.trans (SameSights.engineKeeps.rearmAwaiting _ u)) (State.seen_of_unflagged hunflagged) hrise.pigs
    have hrearmed : StationSpared k s ((s.recordAtEnd u).rearmAwaiting u) :=
      ⟨hunflagged, fun hy _ => by
        rw [State.valve, (State.rearmAwaiting_leaves ..).2]
        exact congrArg (Option.map Valve.unheld) hy⟩
    exact (hrearmed.trans (.of_aside hrise2.valves (.reviewReceives hrise2 hstanding _))).trans
      (hslot ((SameLine.of_runs (Runs.handAside _ u)).tablesRise hrise1))

end Sys2Proof.Machine
end

section
/-! SUPPORT. The end of an INHIBITED command under LINE_TRIP: its sequence is PAUSED at its tail's first step, or ends (R145 to
R147). -/

namespace Sys2Proof.Machine

/-- A tail with a pause pending pauses at its first marked step, or has none and ends (R141, R146). -/
theorem State.runRestoreBy_pending {s : State} {e : Ending} {k : Nat} {c : PauseCause}
    (hpending : (s.slotOf k).pausePending = some c) (l : List SeqStep) :
    (∃ p, State.runRestoreBy e k l s = s.updSlot k fun x => x.pausedAt p c) ∨
      State.runRestoreBy e k l s = e s k (s.slotOf k).tailOutcome none := by
  induction l with
  | nil => exact .inr rfl
  | cons p l ih =>
    by_cases hmarked : p.marked (s.slotOf k).marks = true
    · exact .inl ⟨p, State.runRestoreBy_paused hmarked hpending⟩
    · have hskip : State.runRestoreBy e k (p :: l) s = State.runRestoreBy e k l s :=
        State.runRestoreBy_skip e l (before := [p]) fun q hq => by
          rw [List.mem_singleton.1 hq]
          exact Bool.eq_false_iff.2 hmarked
      rw [hskip]
      exact ih

/-- A slot PAUSED in its tail has no deadline, gate or watch. -/
theorem ReceiveStands.of_tail {s : State} {k : Nat} (hpaused : (s.slotOf k).state = .paused) (hcause : (s.slotOf k).cause ≠ none) :
    ReceiveStands s k := fun _ => by
  refine ⟨?_, fun hwaits => ?_, fun hwatches => ?_⟩
  · rw [State.deadlineReached_eq, Slot.deadlineStands]
    simp [hcause]
  · rw [hpaused] at hwaits
    cases hwaits
  · simp [Slot.watching, hcause] at hwatches

/-- What becomes of a slot under LINE_TRIP when its command ends INHIBITED: nothing, a PAUSED tail, or its end. -/
inductive TripOutcome (j : Nat) (s : State) : State → Prop
  | same : TripOutcome j s s
  | paused (f g : Slot → Slot) (h : ∀ x, (g (f x)).state = .paused ∧ (g (f x)).cause ≠ none) :
    TripOutcome j s ((s.updSlot j f).updSlot j g)
  | ended (o : SeqOutcome) (r : Option (SeqStep × Role × ValveOutcome)) : TripOutcome j s (s.endSequence j o r)
  | endedFrom (f : Slot → Slot) (o : SeqOutcome) : TripOutcome j s ((s.updSlot j f).endSequence j o none)

theorem TripOutcome.beginTail {s : State} (htrip : s.lineTrip = true) {j : Nat} {x : Station} (hx : s.station j = some x)
    (c : SeqOutcome) (f : Option (Role × ValveOutcome)) : TripOutcome j s (s.beginTail j c f) := by
  have hslot := State.slotOf_updSlot_self (fun y => y.tail s.lineTrip c f) hx
  have hpending : ((s.updSlot j fun y => y.tail s.lineTrip c f).slotOf j).pausePending = some .trip := by
    rw [hslot, htrip]
    rfl
  have hcases := State.runRestoreBy_pending (e := State.endSequence) hpending restoreSteps
  have htail : s.beginTail j c f =
      State.runRestoreBy State.endSequence j restoreSteps (s.updSlot j fun y => y.tail s.lineTrip c f) := rfl
  rw [htail]
  obtain ⟨p, heq⟩ | heq := hcases <;> rw [heq]
  · exact .paused _ _ fun y => ⟨rfl, fun h => (by cases h)⟩
  · exact .endedFrom ..

theorem TripOutcome.slotOutcome {s : State} (htrip : s.lineTrip = true) (j : Nat) :
    TripOutcome j s (s.slotOutcome j .inhibited) := by
  unfold State.slotOutcome
  split
  · exact .ended ..
  · rename_i hstate _
    obtain ⟨x, hx⟩ : ∃ x, s.station j = some x := by
      cases hx : s.station j with
      | none =>
        rw [State.slotOf, hx] at hstate
        cases hstate
      | some x => exact ⟨x, rfl⟩
    unfold State.forwardOutcome
    split
    · exact .beginTail htrip hx ..
    · exact .beginTail htrip hx ..
  · exact .same

section

variable {s t : State} {j : Nat} (h : TripOutcome j s t) (hrise : TablesRise s)

include h hrise

/-- It leaves an undisturbed station of another number. -/
theorem TripOutcome.spared {k : Nat} (hj : j ≠ k) (hrest : Undisturbed k s) : StationSpared k s t := by
  have hslot : ∀ (u : State) (f : Slot → Slot), TablesRise u → StationSpared k u (u.updSlot j f) := fun u f hu =>
    .of_aside hu.valves ((Aside.stationKeeps hj).updSlot u f)
  cases h with
  | same => exact .refl s
  | paused f g _ => exact (hslot s f hrise).trans (hslot _ g (hrise.updSlot j f))
  | ended o r => exact .endSequence hrise hj hrest o r
  | endedFrom f o =>
    have hfirst := hslot s f hrise
    exact hfirst.trans (.endSequence (hrise.updSlot j f) hj (hrest.spared (SameSights.engineKeeps.updSlot ..)
      (RecordsKeepPlace.engineKeeps.updSlot ..) hrise.pigs (State.seen_of_unflagged hfirst.station)) o none)

/-- Of its own station it leaves the valves, but for their holds. -/
theorem TripOutcome.valve {v : Nat} {y : Valve} (hy : s.valve v = some y) (hk : y.station = j) :
    (t.valve v).map Valve.unheld = some y.unheld := by
  cases h with
  | same => rw [hy, Option.map_some]
  | paused f g _ => rw [State.valve_updSlot, State.valve_updSlot, hy, Option.map_some]
  | ended o r => exact State.valve_endSequence hrise o r hy hk
  | endedFrom f o => exact State.valve_endSequence (hrise.updSlot j f) o none ((State.valve_updSlot ..).trans hy) hk

theorem TripOutcome.queue {x : Station} (hx : s.station j = some x) : t.queueOf j = x.queue := by
  have hslot : ∀ (u : State) (z : Station) (f : Slot → Slot), u.station j = some z → (u.updSlot j f).queueOf j = z.queue :=
    fun u z f hz => by
      rw [State.queueOf_of_some (State.station_updSlot_self f hz)]
      rfl
  have hend : ∀ (u : State) (z : Station) o r, TablesRise u → u.station j = some z → (u.endSequence j o r).queueOf j = z.queue :=
    fun u z o r hu hz => by
      have hqueue := congrArg (Option.map Station.queue) (State.station_endSequence hu hz o r)
      rw [Option.map_map] at hqueue
      exact congrArg (Option.getD · []) hqueue
  cases h with
  | same => exact State.queueOf_of_some hx
  | paused f g _ =>
    have hqueue := hslot _ _ g (State.station_updSlot_self f hx)
    exact hqueue
  | ended o r => exact hend s x o r hrise hx
  | endedFrom f o =>
    have hqueue := hend _ _ o none (hrise.updSlot j f) (State.station_updSlot_self f hx)
    exact hqueue

/-- Its own station is undisturbed after it, if it was so before. -/
theorem TripOutcome.undisturbed {x : Station} (hx : s.station j = some x) (hrest : Undisturbed j s) : Undisturbed j t := by
  have hend : ∀ (u : State) (z : Station) o r, TablesRise u → u.station j = some z → Undisturbed j (u.endSequence j o r) :=
    fun u z o r hu hz => .inr (.of_idle (by rw [State.slotOf_endSequence hu hz o r]; rfl))
  cases h with
  | same => exact hrest
  | paused f g hf =>
    have hslot : ((s.updSlot j f).updSlot j g).slotOf j = g (f x.slot) :=
      State.slotOf_updSlot_self g (State.station_updSlot_self f hx)
    obtain ⟨hpaused, hcause⟩ := hf x.slot
    exact .inr (.of_tail (by rw [hslot]; exact hpaused) (by rw [hslot]; exact hcause))
  | ended o r => exact hend s x o r hrise hx
  | endedFrom f o => exact hend _ _ o none (hrise.updSlot j f) (State.station_updSlot_self f hx)

end

end Sys2Proof.Machine
end

section
/-! SUPPORT. The withdrawal of a queue under LINE_TRIP (R123), command by command, of an undisturbed station. -/

namespace Sys2Proof.Machine

/-! ### One withdrawal -/

theorem SameSights.withdrawQueued (s : State) (m : LapseMark) (v : Nat) : SameSights s (s.withdrawQueued m v) :=
  SameSights.engineKeeps.withdrawQueued (fun s v c =>
    ⟨.of_pigs rfl rfl ⟨rfl, rfl⟩, .of_pigs s.sight_letsStrike rfl,
      map_mod_of_same Valve.num v (fun y => { y with command := some c }) Valve.site (fun _ _ => rfl) s.valves⟩) s m v

theorem RecordsKeepPlace.withdrawQueued (s : State) (m : LapseMark) (v : Nat) : RecordsKeepPlace s (s.withdrawQueued m v) :=
  RecordsKeepPlace.engineKeeps.withdrawQueued (fun s v _ => .modValve s v _) s m v

theorem Reaches.withdrawQueued_any (s : State) (m : LapseMark) (v : Nat) : Reaches s (s.withdrawQueued m v) :=
  engineKeeps_reaches.withdrawQueued (fun s v _ => Reaches.modValve s v _) s m v

/-- What withdraws a waiting command under LINE_TRIP does of its valve, its station's queue and its slot. -/
inductive Withdrawn (s : State) (w : Nat) : State → Prop
  | nothing (h : (s.valve w).bind Valve.command = none) : Withdrawn s w s
  | marked (y : Valve) (c : Command) (hy : s.valve w = some y) (hc : y.command = some c) (hcarried : c.carried = true) :
    Withdrawn s w (s.modValve w fun z => { z with command := some (c.mark .lineTripped) })
  | ended (y : Valve) (c : Command) (hy : s.valve w = some y) (hc : y.command = some c) (hcarried : c.carried = false) {t : State}
    (h : TripOutcome y.station (s.endCommand y .inhibited) t) : Withdrawn s w t

theorem State.withdrawn {s : State} (htrip : s.lineTrip = true) (w : Nat) : Withdrawn s w (s.withdrawQueued .lineTripped w) := by
  cases hy : (s.valve w).bind Valve.command with
  | none =>
    have hsame : s.withdrawQueued .lineTripped w = s := by simp only [State.withdrawQueued, hy]
    rw [hsame]
    exact .nothing hy
  | some c =>
    obtain ⟨y, hy, hc⟩ := Option.bind_eq_some_iff.1 hy
    cases hcarried : c.carried with
    | true =>
      rw [State.withdrawQueued_carried hy hc hcarried]
      exact .marked y c hy hc hcarried
    | false =>
      rw [State.withdrawQueued_waiting hy hc hcarried]
      refine .ended y c hy hc hcarried ?_
      cases horigin : c.origin with
      | host =>
        rw [State.finishCommand_host hy hc horigin]
        exact .same
      | sequence =>
        rw [State.finishCommand_sequence hy hc horigin]
        exact .slotOutcome (s := s.endCommand y .inhibited) htrip y.station

theorem TablesRise.endCommand {s : State} (h : TablesRise s) {y : Valve} (hy : y ∈ s.valves) (o : ValveOutcome) :
    TablesRise (s.endCommand y o) := (SameLine.of_runs (.change (.endCommand s y o hy))).tablesRise h

theorem State.seen_endCommand (s : State) (y : Valve) (o : ValveOutcome) (k : Nat) :
    ((s.endCommand y o).station k).map Station.seen = (s.station k).map Station.seen := by
  rw [State.station_endCommand, Option.map_map]
  refine Option.map_congr fun x _ => ?_
  rw [Function.comp_apply]
  split <;> rfl

/-- The station numbered k, in a state whose slots LINE_TRIP holds back, is undisturbed. -/
structure Resting (k : Nat) (s : State) : Prop where
  rise : TablesRise s
  lineTrip : s.lineTrip = true
  undisturbed : Undisturbed k s
  defined : ∃ x, s.station k = some x

section

variable {k w : Nat} {s t : State} (h : Resting k s)

include h

theorem Resting.endCommand {y : Valve} (hy : y ∈ s.valves) (o : ValveOutcome) : Resting k (s.endCommand y o) := by
  refine ⟨h.rise.endCommand hy o, h.lineTrip, h.undisturbed.spared (SameSights.engineKeeps.endCommand ..)
    (RecordsKeepPlace.engineKeeps.endCommand ..) h.rise.pigs (s.seen_endCommand y o k), ?_⟩
  obtain ⟨x, hx⟩ := h.defined
  rw [State.station_endCommand, hx]
  exact ⟨_, rfl⟩

/-- The withdrawal at another station leaves the station as it was. -/
theorem Resting.far (hw : Withdrawn s w t) (hfar : ∀ y, s.valve w = some y → y.station ≠ k) : StationSpared k s t := by
  cases hw with
  | nothing => exact .refl s
  | marked y c hy hc hcarried =>
    exact .of_aside h.rise.valves (.modValve hfar (f := fun z => { z with command := some (c.mark .lineTripped) }) fun _ => rfl)
  | ended y c hy hc hcarried hout =>
    have hmem := State.valve_mem hy
    have hends : StationSpared k s (s.endCommand y .inhibited) :=
      .of_aside h.rise.valves (.endCommand hmem (hfar y hy) _)
    have hresting := h.endCommand hmem .inhibited
    exact hends.trans (hout.spared hresting.rise (hfar y hy) hresting.undisturbed)

/-- The withdrawal of any other command leaves the valve its command and its place. -/
theorem Resting.other (hw : Withdrawn s w t) {v : Nat} {z : Valve} (hv : v ≠ w) (hz : s.valve v = some z) (hk : z.station = k) :
    (t.valve v).map Valve.unheld = some z.unheld ∧ (v ∈ s.queueOf k → v ∈ t.queueOf k) := by
  by_cases hfar : ∀ y, s.valve w = some y → y.station ≠ k
  · have hspared := h.far hw hfar
    exact ⟨hspared.valves hz hk, fun hq => by rw [State.queueOf_of_unflagged hspared.station]; exact hq⟩
  · cases hw with
    | nothing => exact ⟨congrArg (Option.map Valve.unheld) hz, id⟩
    | marked y c hy hc hcarried =>
      refine ⟨?_, id⟩
      rw [s.valve_modValve_of_ne (f := fun z => { z with command := some (c.mark .lineTripped) }) (fun _ => rfl) hv, hz,
        Option.map_some]
    | ended y c hy hc hcarried hout =>
      have hstation : y.station = k := not_not.1 fun hne => hfar fun y' hy' => by
        rwa [Option.some.inj (hy'.symm.trans hy)]
      have hmem := State.valve_mem hy
      have hresting := h.endCommand hmem .inhibited
      have hne : v ≠ y.num := fun heq => hv (heq.trans (State.valve_num hy))
      obtain ⟨x, hx⟩ := h.defined
      have hx1 : (s.endCommand y .inhibited).station y.station =
          some { x with queue := x.queue.filter (· ≠ y.num), changed := true } := by
        rw [State.station_endCommand, hstation, hx, Option.map_some, if_pos (State.station_num hx)]
      refine ⟨hout.valve hresting.rise ((s.valve_endCommand_of_ne y _ hne).trans hz) (hk.trans hstation.symm), fun hq => ?_⟩
      have hqueue := hout.queue hresting.rise hx1
      rw [hstation] at hqueue
      rw [hqueue]
      rw [State.queueOf_of_some hx] at hq
      exact List.mem_filter.2 ⟨hq, by simpa using hne⟩

theorem Resting.withdrawQueued (w : Nat) : Resting k (s.withdrawQueued .lineTripped w) := by
  have hw := State.withdrawn h.lineTrip w
  have hreaches : Spreads s (s.withdrawQueued .lineTripped w) := (Reaches.withdrawQueued_any s .lineTripped w).spreads
  have htrip : (s.withdrawQueued .lineTripped w).lineTrip = true := by
    rw [hreaches]
    exact h.lineTrip
  have hsights := SameSights.withdrawQueued s .lineTripped w
  have hplaces := RecordsKeepPlace.withdrawQueued s .lineTripped w
  have hrise : TablesRise (s.withdrawQueued .lineTripped w) :=
    (SameLine.of_runs (Runs.withdrawQueued s .lineTripped w)).tablesRise h.rise
  obtain ⟨x, hx⟩ := h.defined
  have hdefined : ∃ y, (s.withdrawQueued .lineTripped w).station k = some y := by
    have hline := find?_map_congr Station.num Station.definition (fun _ _ => Station.num_of_definition) k _ _
      (SameLine.of_runs (Runs.withdrawQueued s .lineTripped w)).stations
    have hx' : (s.stations.find? fun y => y.num == k) = some x := hx
    rw [hx', Option.map_some] at hline
    obtain ⟨y, hy, -⟩ := Option.map_eq_some_iff.1 hline
    exact ⟨y, hy⟩
  refine ⟨hrise, htrip, ?_, hdefined⟩
  by_cases hfar : ∀ y, s.valve w = some y → y.station ≠ k
  · exact h.undisturbed.spared hsights hplaces h.rise.pigs (State.seen_of_unflagged (h.far hw hfar).station)
  · generalize s.withdrawQueued .lineTripped w = t at hw hsights hplaces
    cases hw with
    | nothing => exact h.undisturbed
    | marked y c hy hc hcarried => exact h.undisturbed.spared hsights hplaces h.rise.pigs rfl
    | ended y c hy hc hcarried hout =>
      have hstation : y.station = k := not_not.1 fun hne => hfar fun y' hy' => by
        rwa [Option.some.inj (hy'.symm.trans hy)]
      have hresting := h.endCommand (State.valve_mem hy) .inhibited
      obtain ⟨z, hz⟩ := hresting.defined
      rw [hstation] at hout
      exact hout.undisturbed hresting.rise hz hresting.undisturbed

end

end Sys2Proof.Machine
end

section
/-! SUPPORT. LINE_TRIP (R123, R145), settled. -/

namespace Sys2Proof.Machine

/-! ### A waiting command -/

/-- The valve's command has ended INHIBITED. -/
def EndedAt (k v : Nat) (s : State) : Prop :=
  ∃ y, s.valve v = some y ∧ y.station = k ∧ y.command = none ∧ y.lastOutcome = some .inhibited

/-- The valve's command waits in its station's queue, uncarried. -/
def WaitsAt (k v : Nat) (s : State) : Prop :=
  ∃ y c, s.valve v = some y ∧ y.station = k ∧ y.command = some c ∧ c.carried = false ∧ v ∈ s.queueOf k

theorem EndedAt.of_unheld {k v : Nat} {t : State} {y : Valve} (hstation : y.station = k) (hcommand : y.command = none)
    (houtcome : y.lastOutcome = some .inhibited) (h : (t.valve v).map Valve.unheld = some y.unheld) : EndedAt k v t := by
  obtain ⟨z, hz, hsame⟩ := Option.map_eq_some_iff.1 h
  exact ⟨z, hz, (congrArg Valve.station hsame : z.unheld.station = y.unheld.station).trans hstation,
    (congrArg Valve.command hsame : z.unheld.command = y.unheld.command).trans hcommand,
    (congrArg Valve.lastOutcome hsame : z.unheld.lastOutcome = y.unheld.lastOutcome).trans houtcome⟩

section

variable {k v : Nat} {s : State} (h : Resting k s)

include h

theorem EndedAt.withdrawQueued (hended : EndedAt k v s) (w : Nat) : EndedAt k v (s.withdrawQueued .lineTripped w) := by
  obtain ⟨y, hy, hstation, hcommand, houtcome⟩ := hended
  have hw := State.withdrawn h.lineTrip w
  by_cases hv : v = w
  · subst hv
    generalize s.withdrawQueued .lineTripped v = t at hw
    cases hw with
    | nothing => exact ⟨y, hy, hstation, hcommand, houtcome⟩
    | marked z c hz hc => cases hy.symm.trans hz; cases hcommand.symm.trans hc
    | ended z c hz hc => cases hy.symm.trans hz; cases hcommand.symm.trans hc
  · exact .of_unheld hstation hcommand houtcome (h.other hw hv hy hstation).1

/-- The withdrawal of a waiting command ends it INHIBITED (R123). -/
theorem WaitsAt.ended (hwaits : WaitsAt k v s) : EndedAt k v (s.withdrawQueued .lineTripped v) := by
  obtain ⟨y, c, hy, hstation, hcommand, hcarried, -⟩ := hwaits
  have hw := State.withdrawn h.lineTrip v
  generalize s.withdrawQueued .lineTripped v = t at hw
  cases hw with
  | nothing hnone =>
    rw [hy, Option.bind_some, hcommand] at hnone
    cases hnone
  | marked z d hz hd hdcarried =>
    cases hy.symm.trans hz
    cases hcommand.symm.trans hd
    rw [hcarried] at hdcarried
    cases hdcarried
  | ended z d hz hd hdcarried hout =>
    cases hy.symm.trans hz
    have hself : (s.endCommand y .inhibited).valve v = some { y with command := none, lastOutcome := some .inhibited } := by
      rw [State.valve_endCommand, hy, Option.map_some, if_pos rfl]
    exact .of_unheld (y := { y with command := none, lastOutcome := some .inhibited }) hstation rfl rfl
      (hout.valve (h.endCommand (State.valve_mem hy) .inhibited).rise hself rfl)

theorem WaitsAt.withdrawQueued (hwaits : WaitsAt k v s ∨ EndedAt k v s) (w : Nat) :
    WaitsAt k v (s.withdrawQueued .lineTripped w) ∨ EndedAt k v (s.withdrawQueued .lineTripped w) := by
  rcases hwaits with hwaits | hended
  · by_cases hv : v = w
    · subst hv
      exact .inr (hwaits.ended h)
    · obtain ⟨y, c, hy, hstation, hcommand, hcarried, hqueue⟩ := hwaits
      obtain ⟨hunheld, hplace⟩ := h.other (State.withdrawn h.lineTrip w) hv hy hstation
      obtain ⟨z, hz, hsame⟩ := Option.map_eq_some_iff.1 hunheld
      exact .inl ⟨z, c, hz, (congrArg Valve.station hsame : z.unheld.station = y.unheld.station).trans hstation,
        (congrArg Valve.command hsame : z.unheld.command = y.unheld.command).trans hcommand, hcarried, hplace hqueue⟩
  · exact .inr (hended.withdrawQueued h w)

end

/-- The withdrawal of its station's queue ends a waiting command. -/
theorem WaitsAt.endedByQueue {k v : Nat} {s : State} (h : Resting k s) (hwaits : WaitsAt k v s ∨ EndedAt k v s) :
    Resting k (s.withdrawQueue .lineTripped k) ∧ EndedAt k v (s.withdrawQueue .lineTripped k) := by
  have hkeep : ∀ (u : State) w, Resting k u ∧ EndedAt k v u →
      Resting k (u.withdrawQueued .lineTripped w) ∧ EndedAt k v (u.withdrawQueued .lineTripped w) := fun u w hu =>
    ⟨hu.1.withdrawQueued w, hu.2.withdrawQueued hu.1 w⟩
  rcases hwaits with hwaits | hended
  · have hmem : v ∈ s.queueOf k := by
      obtain ⟨-, -, -, -, -, -, hmem⟩ := hwaits
      exact hmem
    exact foldl_meets (f := fun u w => State.withdrawQueued u .lineTripped w)
      (P := fun u => Resting k u ∧ (WaitsAt k v u ∨ EndedAt k v u)) (Q := fun u => Resting k u ∧ EndedAt k v u)
      (fun u w hu => ⟨hu.1.withdrawQueued w, WaitsAt.withdrawQueued hu.1 hu.2 w⟩) hkeep
      (fun u hu => ⟨hu.1.withdrawQueued v, hu.2.elim (fun hw => hw.ended hu.1) fun he => he.withdrawQueued hu.1 v⟩)
      hmem (s := s) ⟨h, .inl hwaits⟩
  · exact foldl_keeps (f := fun u w => State.withdrawQueued u .lineTripped w) (P := fun u => Resting k u ∧ EndedAt k v u)
      (fun u w _ hu => hkeep u w hu) (s := s) ⟨h, hended⟩

theorem WaitsAt.withdrawQueue {k v : Nat} {s : State} (h : Resting k s ∧ (WaitsAt k v s ∨ EndedAt k v s)) (j : Nat) :
    Resting k (s.withdrawQueue .lineTripped j) ∧
      (WaitsAt k v (s.withdrawQueue .lineTripped j) ∨ EndedAt k v (s.withdrawQueue .lineTripped j)) :=
  foldl_keeps (f := fun u w => State.withdrawQueued u .lineTripped w)
    (P := fun u => Resting k u ∧ (WaitsAt k v u ∨ EndedAt k v u))
    (fun _ w _ hu => ⟨hu.1.withdrawQueued w, WaitsAt.withdrawQueued hu.1 hu.2 w⟩) h

theorem EndedAt.withdrawQueue {k v : Nat} {s : State} (h : Resting k s ∧ EndedAt k v s) (j : Nat) :
    Resting k (s.withdrawQueue .lineTripped j) ∧ EndedAt k v (s.withdrawQueue .lineTripped j) :=
  foldl_keeps (f := fun u w => State.withdrawQueued u .lineTripped w) (P := fun u => Resting k u ∧ EndedAt k v u)
    (fun _ w _ hu => ⟨hu.1.withdrawQueued w, hu.2.withdrawQueued hu.1 w⟩) h

/-! ### A station with an empty queue -/

/-- The withdrawal of another station's queue leaves a resting station as it was. -/
theorem StationSpared.withdrawQueue {k j : Nat} (hj : j ≠ k) {s : State} (h : Resting k s) (hqueues : QueuesHoldQueued s) :
    StationSpared k s (s.withdrawQueue .lineTripped j) ∧ Resting k (s.withdrawQueue .lineTripped j) := by
  have hfar : ∀ w ∈ s.queueOf j, ∀ y, s.valve w = some y → y.station = j := fun w hw y hy => by
    cases hx : s.station j with
    | none =>
      rw [State.queueOf_of_none hx] at hw
      cases hw
    | some x =>
      rw [State.queueOf_of_some hx] at hw
      have hok := hqueues x (State.station_mem hx) w hw
      simp only [State.queueEntryOk, hy, Option.any_some, Bool.and_eq_true, decide_eq_true_eq] at hok
      exact hok.1.trans (State.station_num hx)
  have hpass := foldl_keeps (f := fun u w => State.withdrawQueued u .lineTripped w) (l := s.queueOf j)
    (P := fun u => (StationSpared k s u ∧ Resting k u) ∧ u.valves.map Valve.site = s.valves.map Valve.site)
    (fun u w hw ⟨⟨hspared, hresting⟩, hsites⟩ => by
      refine ⟨⟨hspared.trans (hresting.far (State.withdrawn hresting.lineTrip w) fun y hy => ?_), hresting.withdrawQueued w⟩,
        (SameSights.withdrawQueued u .lineTripped w).sites.trans hsites⟩
      have hmap := find?_map_congr Valve.num Valve.site
        (fun a b heq => show a.site.num = b.site.num from congrArg _ heq) w _ _ hsites
      have hy' : (u.valves.find? fun z => z.num == w) = some y := hy
      rw [hy', Option.map_some] at hmap
      obtain ⟨z, hz, hsame⟩ := Option.map_eq_some_iff.1 hmap.symm
      have hstation : z.station = y.station := (congrArg Valve.station hsame : z.site.station = y.site.station)
      rw [← hstation, hfar w hw z hz]
      exact hj) (s := s) ⟨⟨.refl s, h⟩, rfl⟩
  exact hpass.1

/-! ### LINE_TRIP asserted -/

theorem StagedRearm.withdrawQueued (s : State) (m : LapseMark) (v : Nat) : StagedRearm s (s.withdrawQueued m v) := by
  unfold State.withdrawQueued
  split
  · exact .refl s
  · split
    · exact .of_sitesStand (.modValve ..) (.of_same rfl rfl)
    · exact .engineRun (.finishCommand ..)

section

variable {s : State} (hrise : TablesRise s)

include hrise

theorem StagedRearm.assertTrip : StagedRearm s s.assertTrip := by
  have hslots : StagedRearm s s.tripSlots := .of_sitesStand (.of_same rfl rfl) <| by
    refine ⟨fun k => ?_, rfl⟩
    rw [State.station_tripSlots, Option.map_map]
    rfl
  rw [State.assertTrip_eq hrise.stations]
  refine hslots.trans (.trans ?_ (.of_sitesStand (.raise ..) (.of_same rfl rfl)))
  exact foldl_keeps (P := fun u => StagedRearm s.tripSlots u) (fun u k _ hu => hu.trans
    (foldl_keeps (P := fun r => StagedRearm u r) (fun r v _ hr => hr.trans (.withdrawQueued r _ v)) (.refl u))) (.refl _)

omit hrise in
theorem Slot.unpended_tripPending (x : Slot) : x.tripPending.unpended = x.unpended := by
  unfold Slot.tripPending
  split <;> rfl

theorem State.spreads_assertTrip : Spreads { s with lineTrip := true } s.assertTrip := by
  have hpass : Reaches s.tripSlots (s.stationNums.foldl (State.withdrawQueue · .lineTripped ·) s.tripSlots) :=
    foldl_keeps (P := fun u => Reaches s.tripSlots u) (fun u k _ hu => hu.trans
      (foldl_keeps (P := fun r => Reaches u r) (fun r v _ hr => hr.trans (.withdrawQueued_any r _ v)) (.refl u))) (.refl _)
  rw [State.assertTrip_eq hrise.stations]
  exact Spreads.trans (t := s.tripSlots) rfl (hpass.trans (.raise ..)).spreads

theorem Resting.tripSlots {x : Station} (hx : x ∈ s.stations) (hrest : Undisturbed x.num s) : Resting x.num s.tripSlots := by
  have hfound := find?_of_rising Station.num _ hrise.stations x hx
  have hstation : s.tripSlots.station x.num = some (x.reslotted Slot.tripPending) := by
    rw [State.station_tripSlots]
    exact congrArg (Option.map _) hfound
  refine ⟨hrise.tripSlots, rfl, hrest.imp id fun hstands => ?_, _, hstation⟩
  refine ReceiveStands.spared (s := s) (t := s.tripSlots)
    ⟨.of_pigs rfl rfl ⟨rfl, rfl⟩, .of_pigs s.sight_letsStrike rfl, rfl⟩ ?_ hrise.pigs hstands
  rw [State.station_tripSlots, Option.map_map]
  refine Option.map_congr fun y _ => ?_
  rw [Function.comp_apply]
  exact congrArg (fun z : Slot => (z, y.position, y.tuning)) y.slot.unpended_tripPending

/-- Where the station is undisturbed, its waiting commands end INHIBITED (R123). -/
theorem State.assertTrip_waiting {x : Station} (hx : x ∈ s.stations) (hrest : Undisturbed x.num s) (hqueues : QueuesHoldQueued s)
    {v : Nat} (hv : v ∈ x.queue) {y : Valve} {c : Command} (hy : s.valve v = some y) (hcommand : y.command = some c)
    (hc : c.carried = false) :
    (s.assertTrip.valve v).map (fun z => (z.command, z.lastOutcome)) = some (none, some .inhibited) := by
  have hresting := Resting.tripSlots hrise hx hrest
  have hok := hqueues x hx v hv
  simp only [State.queueEntryOk, hy, Option.any_some, Bool.and_eq_true, decide_eq_true_eq] at hok
  have hqueue : v ∈ s.tripSlots.queueOf x.num := by
    rw [State.queueOf_tripSlots, State.queueOf_of_some (find?_of_rising Station.num _ hrise.stations x hx)]
    exact hv
  rw [State.assertTrip_eq hrise.stations]
  obtain ⟨-, z, hz, -, hnone, houtcome⟩ := foldl_meets (f := fun u k => State.withdrawQueue u .lineTripped k) (a := x.num)
    (P := fun u => Resting x.num u ∧ (WaitsAt x.num v u ∨ EndedAt x.num v u)) (Q := fun u => Resting x.num u ∧ EndedAt x.num v u)
    (fun u j hu => WaitsAt.withdrawQueue hu j) (fun u j hu => EndedAt.withdrawQueue hu j)
    (fun u hu => WaitsAt.endedByQueue hu.1 hu.2) (List.mem_map_of_mem hx) (s := s.tripSlots)
    ⟨hresting, .inl ⟨y, c, hy, hok.1, hcommand, hc, hqueue⟩⟩
  refine (congrArg (Option.map fun z : Valve => (z.command, z.lastOutcome)) hz).trans ?_
  rw [Option.map_some, hnone, houtcome]

/-- An undisturbed station with an empty queue only has a pause pending (R145). -/
theorem State.assertTrip_slot {x : Station} (hx : x ∈ s.stations) (hrest : Undisturbed x.num s) (hqueues : QueuesHoldQueued s)
    (hempty : x.queue = []) : (s.assertTrip.station x.num).map Station.slot = some x.slot.tripPending := by
  have hfound := find?_of_rising Station.num _ hrise.stations x hx
  have hqueue : s.tripSlots.queueOf x.num = [] := by
    rw [State.queueOf_tripSlots, State.queueOf_of_some hfound, hempty]
  have hqueues1 : QueuesHoldQueued s.tripSlots := fun z hz v hv => by
    obtain ⟨y, hy, rfl⟩ := List.mem_map.1 hz
    exact hqueues y hy v hv
  obtain ⟨⟨hspared, -⟩, -⟩ := foldl_keeps (f := fun u k => State.withdrawQueue u .lineTripped k) (l := s.stationNums)
    (P := fun u => (StationSpared x.num s.tripSlots u ∧ Resting x.num u) ∧ QueuesHoldQueued u)
    (fun u j _ ⟨⟨hspared, hresting⟩, hheld⟩ => by
      have hruns : Runs u (u.withdrawQueue .lineTripped j) := .withdrawQueue ..
      refine ⟨?_, hheld.runs hruns hresting.rise⟩
      by_cases hj : j = x.num
      · have hnone : u.queueOf j = [] := by rw [hj, State.queueOf_of_unflagged hspared.station, hqueue]
        have hsame : u.withdrawQueue .lineTripped j = u :=
          congrArg (List.foldl (fun r w => State.withdrawQueued r .lineTripped w) u) hnone
        rw [hsame]
        exact ⟨hspared, hresting⟩
      · obtain ⟨hnext, hresting⟩ := StationSpared.withdrawQueue hj hresting hheld
        exact ⟨hspared.trans hnext, hresting⟩) (s := s.tripSlots)
    ⟨⟨.refl _, Resting.tripSlots hrise hx hrest⟩, hqueues1⟩
  rw [State.assertTrip_eq hrise.stations]
  have hslot := congrArg (Option.map Station.slot) hspared.station
  rw [Option.map_map, Option.map_map, State.station_tripSlots] at hslot
  have hfound' : s.station x.num = some x := hfound
  rw [hfound'] at hslot
  exact hslot

end

/-- Settles O56: under LINE_TRIP no slot goes on, so every command keeps its place until its queue is withdrawn; the engine
reaches an undisturbed station only from that station. -/
theorem lineTripActsOnQueuesAndSlots : Obligations.LineTripActsOnQueuesAndSlots := by
  unfold Obligations.LineTripActsOnQueuesAndSlots
  intro s hrise
  refine ⟨fun htrip => ?_, fun htrip => ?_, fun htrip hqueues => ?_, fun htrip => ?_⟩
  · exact congrArg Host.Outcome.next (if_pos htrip)
  · exact congrArg Host.Outcome.next (if_neg (by rw [htrip]; decide))
  · refine ⟨s.assertTrip, congrArg Host.Outcome.next (if_neg (by rw [htrip]; decide)), ?_⟩
    beta_reduce
    extract_lets staged undisturbed
    have hundisturbed : ∀ x : Station, undisturbed x → Undisturbed x.num s := fun x hx =>
      hx.imp (fun hno u ⟨p, hp, hstaged⟩ => hno u ⟨p, State.pig_mem hp, State.pig_tag hp, hstaged⟩) id
    have hrearms := StagedRearm.assertTrip hrise hrise.detectors
    have hspreads : Spreads { s with lineTrip := true } s.assertTrip := State.spreads_assertTrip hrise
    have hstand := ClockAndPortStand.spreads hspreads
    refine ⟨by rw [hspreads], ?_, fun x hx v hv y c hy hc => ⟨fun hcarried hrest => ?_, fun hcarried => ?_⟩,
      fun y hy c hc hphase => State.assertTrip_travelling hrise hqueues hy hc hphase, fun x hx hempty hrest => ?_,
      hrearms.places.train, hrearms.places.pigPos, by rw [hspreads], ?_, hstand.2, hstand.1, by rw [hspreads]⟩
    · rw [State.assertTrip_eq hrise.stations]
      exact State.alertSet_raise ..
    · exact State.assertTrip_waiting hrise hx (hundisturbed x hrest) hqueues hv hy hc hcarried
    · rw [← Command.mark_eq]
      exact State.assertTrip_carried hrise hx hv (by rw [hy]; exact hc) hcarried
    · refine (State.assertTrip_slot hrise hx (hundisturbed x hrest) hqueues hempty).trans ?_
      unfold Slot.tripPending
      rfl
    · exact OnlyRearmed.mono (fun u ⟨p, hp, hstaged⟩ => ⟨p, State.pig_mem hp, State.pig_tag hp, hstaged⟩) hrearms.detectors
  · exact congrArg Host.Outcome.next ((if_pos htrip).trans (State.releaseTrip_eq hrise.stations))

end Sys2Proof.Machine
end

section
/-! SUPPORT. A Line Clock second in parts (R12, R48, R139): the counts, and which timers are then at their limit. -/

namespace Sys2Proof.Machine

/-! ### The counts -/

/-- A state of a line in READY whose clock and running counts have advanced by one second, with a list of due expiries. -/
def State.ticked (s : State) (due : List Expiry) : State :=
  { s with
      clock := min (s.clock + 1) 4294967295
      due := due
      valves := s.valves.map fun v => { v with command := v.command.map fun c =>
        if c.phase = .queued then { c with queuedCount := c.queuedCount + 1 }
        else { c with strokeCount := c.strokeCount + 1 } }
      detectors := s.detectors.map fun d =>
        if d.state = .rearming then { d with confirmCount := d.confirmCount + 1 } else d
      stations := s.stations.map fun x => { x with slot :=
        { x.slot with
          holdWait := if x.slot.state = .waitHold ∧ s.lineTrip = false then min (x.slot.holdWait + 1) 65535
            else x.slot.holdWait
          passage := if x.slot.state = .waitPassage ∧ s.lineTrip = false then min (x.slot.passage + 1) 7200
            else x.slot.passage
          pause := if x.slot.state = .paused ∧ s.lineTrip = false then min (x.slot.pause + 1) 65535
            else x.slot.pause
          heldAnew := x.slot.heldAnew && s.lineTrip } } }

theorem Command.second_eq (c : Command) : c.second = if c.phase = .queued then { c with queuedCount := c.queuedCount + 1 }
    else { c with strokeCount := c.strokeCount + 1 } := by
  unfold Command.second
  cases c.phase <;> rfl

theorem Slot.second_eq (x : Slot) : x.second = { x with
    holdWait := if x.state = .waitHold then min (x.holdWait + 1) 65535 else x.holdWait
    passage := if x.state = .waitPassage then min (x.passage + 1) 7200 else x.passage
    pause := if x.state = .paused then min (x.pause + 1) 65535 else x.pause
    heldAnew := false } := by
  unfold Slot.second
  cases x.state <;> rfl

theorem State.tick_eq_ticked {s : State} (h : s.ready = true) : s.tick = s.ticked s.due := by
  have hstations : (if s.lineTrip then s.stations else s.stations.map Station.second) = (s.ticked s.due).stations := by
    cases htrip : s.lineTrip with
    | true =>
      rw [if_pos rfl, State.ticked, htrip]
      simp only [reduceCtorEq, and_false, if_false, Bool.and_true]
      exact (List.map_id _).symm
    | false =>
      rw [if_neg (by decide), State.ticked, htrip]
      refine List.map_congr_left fun x _ => ?_
      rw [Station.second, Slot.second_eq]
      simp only [and_true, Bool.and_false]
  have hcommands : (fun v : Valve => v.second) = fun v => { v with command := v.command.map fun c =>
      if c.phase = .queued then { c with queuedCount := c.queuedCount + 1 } else { c with strokeCount := c.strokeCount + 1 } } :=
    funext fun v => by
      rw [Valve.second, funext Command.second_eq]
  rw [State.tick_of_ready h, hstations, show Valve.second = fun v : Valve => v.second from rfl, hcommands]
  rfl

/-! ### The timers at their limit -/

theorem State.foldl_makeDue (l : List Expiry) (s : State) : ∃ due, l.foldl State.makeDue s = { s with due := due } ∧
    ∀ e, e ∈ due ↔ e ∈ l ∨ e ∈ s.due := by
  induction l generalizing s with
  | nil => exact ⟨s.due, rfl, fun e => by simp⟩
  | cons a l ih =>
    obtain ⟨due, heq, hmem⟩ := ih (s.makeDue a)
    have hsame : s.makeDue a = { s with due := (s.makeDue a).due } := by
      unfold State.makeDue
      split <;> rfl
    refine ⟨due, ?_, fun e => ?_⟩
    · rw [List.foldl_cons, heq, hsame]
    · rw [hmem, State.mem_makeDue, List.mem_cons, ← or_assoc, or_comm (a := e ∈ l), or_assoc]

/-- The expiries a second makes due are those of timers at their limit. -/
theorem State.markDue_eq (s : State) : ∃ due, s.markDue = { s with due := due } ∧
    ∀ e, e ∈ due ↔ (e ∈ s.timers ∧ s.expired e = true) ∨ e ∈ s.due := by
  obtain ⟨due, heq, hmem⟩ := State.foldl_makeDue (s.timers.filter s.expired) s
  exact ⟨due, heq, fun e => by rw [hmem, List.mem_filter]⟩

theorem State.expired_iff (s : State) (e : Expiry) : s.expired e = true ↔
    ∃ n, s.timerCount e = some n ∧ ¬(s.lineTrip = true ∧ e.isSlots = true) ∧ s.limitMet n e = true := by
  unfold State.expired
  cases s.timerCount e with
  | none => simp
  | some n => cases hslots : e.isSlots <;> simp

section

variable {s : State} (hrise : TablesRise s)

theorem State.not_mem_timers_meterStale (m : Nat) : .meterStale m ∉ s.timers := by
  simp [State.timers]

include hrise

/-- A timer of a valve's command is at its limit (R112, R113). -/
theorem State.expired_command {e : Expiry} {v : Nat} {n : Command → Nat} {phase : Phase} {limit : Valve → Nat}
    (hslots : e.isSlots = false) (hmem : ∀ y ∈ s.valves, y.num = v → e ∈ s.timers)
    (hcount : s.timerCount e = ((s.valve v).bind Valve.command).bind fun c => if c.phase = phase then some (n c) else none)
    (hlimit : ∀ y m, s.valve v = some y → s.limitMet m e = decide (limit y ≤ m)) :
    (e ∈ s.timers ∧ s.expired e = true) ↔
      ∃ y ∈ s.valves, y.num = v ∧ ∃ c, y.command = some c ∧ c.phase = phase ∧ limit y ≤ n c := by
  have hexpired := s.expired_iff e
  rw [hslots, hcount] at hexpired
  constructor
  · rintro ⟨-, hex⟩
    obtain ⟨m, hm, -, hmet⟩ := hexpired.1 hex
    obtain ⟨c, hc, hm⟩ := Option.bind_eq_some_iff.1 hm
    obtain ⟨y, hy, hc⟩ := Option.bind_eq_some_iff.1 hc
    rw [hlimit y m hy] at hmet
    by_cases hphase : c.phase = phase
    · rw [if_pos hphase] at hm
      cases hm
      exact ⟨y, State.valve_mem hy, State.valve_num hy, c, hc, hphase, of_decide_eq_true hmet⟩
    · rw [if_neg hphase] at hm
      cases hm
  · rintro ⟨y, hy, hnum, c, hc, hphase, hmet⟩
    have hfound : s.valve v = some y := hnum ▸ hrise.valve_of_mem hy
    refine ⟨hmem y hy hnum, hexpired.2 ⟨n c, ?_, by simp, ?_⟩⟩
    · rw [hfound, Option.bind_some, hc, Option.bind_some, if_pos hphase]
    · rw [hlimit y _ hfound]
      exact decide_eq_true hmet

theorem State.expired_stroke (v : Nat) : (.stroke v ∈ s.timers ∧ s.expired (.stroke v) = true) ↔
    ∃ y ∈ s.valves, y.num = v ∧ ∃ c, y.command = some c ∧ c.phase = .travelling ∧ y.strokeTimeout ≤ c.strokeCount := by
  refine State.expired_command hrise rfl (fun y hy hnum => by simpa [State.timers] using ⟨y, hy, hnum.symm⟩) ?_ fun y m hy => ?_
  · simp only [State.timerCount]
    cases (s.valve v).bind Valve.command <;> rfl
  · simp only [State.limitMet, hy, Option.map_some, Option.getD_some]

theorem State.expired_delivery (v : Nat) : (.delivery v ∈ s.timers ∧ s.expired (.delivery v) = true) ↔
    ∃ y ∈ s.valves, y.num = v ∧ ∃ c, y.command = some c ∧ c.phase = .queued ∧ s.params.deliveryLimit ≤ c.queuedCount := by
  refine State.expired_command (limit := fun _ => s.params.deliveryLimit) hrise rfl
    (fun y hy hnum => by simpa [State.timers] using ⟨y, hy, hnum.symm⟩) ?_ fun _ _ _ => rfl
  simp only [State.timerCount]
  cases (s.valve v).bind Valve.command <;> rfl

theorem State.expired_confirmation (d : Nat) : (.confirmation d ∈ s.timers ∧ s.expired (.confirmation d) = true) ↔
    ∃ y ∈ s.detectors, y.num = d ∧ y.state = .rearming ∧ s.params.deliveryLimit ≤ y.confirmCount := by
  constructor
  · rintro ⟨-, hexpired⟩
    cases hy : s.detector d with
    | none => simp [State.expired, State.timerCount, hy] at hexpired
    | some y =>
      by_cases hstate : y.state = .rearming
      · simp [State.expired, State.timerCount, State.limitMet, Expiry.isSlots, hy, hstate] at hexpired
        exact ⟨y, State.detector_mem hy, State.detector_num hy, hstate, hexpired⟩
      · simp [State.expired, State.timerCount, hy, hstate] at hexpired
  · rintro ⟨y, hy, rfl, hstate, hlimit⟩
    have hfound : s.detector y.num = some y := find?_of_rising Detector.num _ hrise.detectors y hy
    refine ⟨by simpa [State.timers] using ⟨y, hy, rfl⟩, ?_⟩
    simp [State.expired, State.timerCount, State.limitMet, Expiry.isSlots, hfound, hstate, hlimit]

omit hrise in
theorem State.tuningOf_of_some {k : Nat} {x : Station} (h : s.station k = some x) : s.tuningOf k = x.tuning := by
  rw [State.tuningOf, h]
  rfl

/-- A timer of a slot is at its limit; under LINE_TRIP none is (R139, R145). -/
theorem State.expired_slot {e : Expiry} {k : Nat} {b : Slot → Bool} {n : Slot → Nat} {limit : Station → Nat → Bool}
    (hslots : e.isSlots = true) (hmem : ∀ x ∈ s.stations, x.num = k → e ∈ s.timers) (hidle : b Slot.idle = false)
    (hcount : s.timerCount e = if b (s.slotOf k) = true then some (n (s.slotOf k)) else none)
    (hlimit : ∀ x m, s.station k = some x → s.limitMet m e = limit x m) :
    (e ∈ s.timers ∧ s.expired e = true) ↔
      s.lineTrip = false ∧ ∃ x ∈ s.stations, x.num = k ∧ b x.slot = true ∧ limit x (n x.slot) = true := by
  have hexpired := s.expired_iff e
  simp only [hslots, and_true, Bool.not_eq_true, hcount, Option.ite_none_right_eq_some, Option.some.injEq] at hexpired
  constructor
  · rintro ⟨-, hex⟩
    obtain ⟨m, ⟨hb, rfl⟩, htrip, hmet⟩ := hexpired.1 hex
    cases hx : s.station k with
    | none =>
      rw [State.slotOf, hx] at hb
      exact absurd hb (by rw [show (Option.map Station.slot none).getD Slot.idle = Slot.idle from rfl, hidle]; decide)
    | some x =>
      rw [State.slotOf_of_some hx] at hb hmet
      exact ⟨htrip, x, State.station_mem hx, State.station_num hx, hb, (hlimit x _ hx).symm.trans hmet⟩
  · rintro ⟨htrip, x, hx, hnum, hb, hmet⟩
    have hfound : s.station k = some x := hnum ▸ find?_of_rising Station.num _ hrise.stations x hx
    rw [State.slotOf_of_some hfound] at hexpired
    exact ⟨hmem x hx hnum, hexpired.2 ⟨_, ⟨hb, rfl⟩, htrip, (hlimit x _ hfound).trans hmet⟩⟩

theorem State.expired_holdWait (k : Nat) : (.holdWait k ∈ s.timers ∧ s.expired (.holdWait k) = true) ↔
    s.lineTrip = false ∧ ∃ x ∈ s.stations, x.num = k ∧ x.slot.state = .waitHold ∧ s.params.holdWaitLimit ≠ 0 ∧
      s.params.holdWaitLimit ≤ x.slot.holdWait := by
  refine (State.expired_slot hrise (b := fun x => decide (x.state = .waitHold)) (n := Slot.holdWait)
    (limit := fun _ m => limitReached s.params.holdWaitLimit m) rfl
    (fun x hx hnum => by simpa [State.timers] using ⟨x, hx, hnum.symm⟩) rfl ?_ fun _ _ _ => rfl).trans ?_
  · simp only [State.timerCount, decide_eq_true_eq]
  · simp only [limitReached, Bool.and_eq_true, decide_eq_true_eq]

theorem State.expired_launchExit (k : Nat) : (.launchExit k ∈ s.timers ∧ s.expired (.launchExit k) = true) ↔
    s.lineTrip = false ∧ ∃ x ∈ s.stations, x.num = k ∧ x.slot.state = .waitPassage ∧ x.slot.kind = some .launch ∧
      x.tuning.exitTimeout ≤ x.slot.passage := by
  refine (State.expired_slot hrise (b := Slot.awaitsExit) (n := Slot.passage)
    (limit := fun x m => decide (x.tuning.exitTimeout ≤ m)) rfl
    (fun x hx hnum => by simpa [State.timers] using ⟨x, hx, hnum.symm⟩) rfl ?_ fun x m hx => ?_).trans ?_
  · simp only [State.timerCount]
  · simp only [State.limitMet, State.tuningOf_of_some hx]
  · simp only [Slot.awaitsExit, Bool.and_eq_true, decide_eq_true_eq, and_assoc]

theorem State.expired_arrival (k : Nat) : (.arrival k ∈ s.timers ∧ s.expired (.arrival k) = true) ↔
    s.lineTrip = false ∧ ∃ x ∈ s.stations, x.num = k ∧ x.slot.state = .waitPassage ∧ x.slot.kind = some .receive ∧
      x.tuning.arrivalTimeout ≤ x.slot.passage := by
  refine (State.expired_slot hrise (b := Slot.awaitsArrival) (n := Slot.passage)
    (limit := fun x m => decide (x.tuning.arrivalTimeout ≤ m)) rfl
    (fun x hx hnum => by simpa [State.timers] using ⟨x, hx, hnum.symm⟩) rfl ?_ fun x m hx => ?_).trans ?_
  · simp only [State.timerCount]
  · simp only [State.limitMet, State.tuningOf_of_some hx]
  · simp only [Slot.awaitsArrival, Bool.and_eq_true, decide_eq_true_eq, and_assoc]

theorem State.expired_pause (k : Nat) : (.pause k ∈ s.timers ∧ s.expired (.pause k) = true) ↔
    s.lineTrip = false ∧ ∃ x ∈ s.stations, x.num = k ∧ x.slot.state = .paused ∧ x.tuning.pauseLimit ≠ 0 ∧
      x.tuning.pauseLimit ≤ x.slot.pause := by
  refine (State.expired_slot hrise (b := fun x => decide (x.state = .paused)) (n := Slot.pause)
    (limit := fun x m => limitReached x.tuning.pauseLimit m) rfl
    (fun x hx hnum => by simpa [State.timers] using ⟨x, hx, hnum.symm⟩) rfl ?_ fun x m hx => ?_).trans ?_
  · simp only [State.timerCount, decide_eq_true_eq]
  · simp only [State.limitMet, State.tuningOf_of_some hx]
  · simp only [limitReached, Bool.and_eq_true, decide_eq_true_eq]

end

end Sys2Proof.Machine
end

section
/-! SUPPORT. The release and end of an outage second (R56 to R58, R62), and the second settled. -/

namespace Sys2Proof.Machine

/-! ### One meter's outage second -/

theorem State.expired_meterStale {s : State} {n : Nat} {m : Meter} (hm : s.meter n = some m) (hready : s.ready = true)
    (hstate : m.state = .extrapolating) : s.expired (.meterStale n) = decide (m.holdTime ≤ m.extrapolated) := by
  simp [State.expired, State.timerCount, State.limitMet, Expiry.isSlots, hm, hready, hstate]

/-- A meter at its hold time is STALE after the test, and none is left due (R57). -/
theorem State.staleTest_of_expired {s : State} {n : Nat} {m : Meter} (hm : s.meter n = some m) (hready : s.ready = true)
    (hstate : m.state = .extrapolating) (hlimit : m.holdTime ≤ m.extrapolated) (hdue : .meterStale n ∉ s.due) :
    s.staleTest n = { s with
      meters := s.meters.map fun y => if y.num = n then { y with state := .stale } else y
      stations := s.stations.map fun y => if y.num = m.station then { y with changed := true } else y } := by
  obtain ⟨hno, -⟩ | ⟨-, heq⟩ := s.staleTest_cases n
  · rw [State.expired_meterStale hm hready hstate, decide_eq_false_iff_not] at hno
    exact absurd hlimit hno
  · have hkept : s.due.filter (· ≠ .meterStale n) = s.due := List.filter_eq_self.2 fun e he => by
      simpa using fun h : e = .meterStale n => hdue (h ▸ he)
    have hmeter : ({ s with due := s.due.filter (· ≠ .meterStale n) } : State).meter n = some m := hm
    rw [heq, State.expiryActs, State.updMeter_eq_of_some hmeter]
    simp only [hkept, hstate, ne_eq, reduceCtorEq, not_false_eq_true, and_true]

theorem State.staleTest_of_running {s : State} {n : Nat} {m : Meter} (hm : s.meter n = some m) (hready : s.ready = true)
    (hstate : m.state = .extrapolating) (hlimit : ¬ m.holdTime ≤ m.extrapolated) : s.staleTest n = s := by
  obtain ⟨-, heq⟩ | ⟨hyes, -⟩ := s.staleTest_cases n
  · exact heq
  · rw [State.expired_meterStale hm hready hstate, decide_eq_true_eq] at hyes
    exact absurd hyes hlimit

/-- A meter's provisional volume and extrapolated seconds one second on (R56). -/
def Meter.extrapolatedOn (y : Meter) : Meter :=
  { y with provisional := y.provisional + y.rate, extrapolated := y.extrapolated + 1 }

theorem State.extrapolate_of_stale {s : State} {n : Nat} {m : Meter} (hm : s.meter n = some m) (hstate : m.state = .extrapolating)
    (hlimit : m.holdTime ≤ m.extrapolated) : s.extrapolate n = s.staleTest n := by
  simp only [State.extrapolate, hm, hstate, if_true, hlimit]

theorem State.extrapolate_of_running {s : State} {n : Nat} {m : Meter} (hm : s.meter n = some m)
    (hstate : m.state = .extrapolating) (hlimit : ¬ m.holdTime ≤ m.extrapolated) :
    s.extrapolate n = ((s.modMeter n Meter.extrapolatedOn).applyRelease n m.rate).staleTest n := by
  have hmod : s.updMeter n Meter.extrapolatedOn = s.modMeter n Meter.extrapolatedOn := by
    rw [State.updMeter_eq_of_some hm]
    have hsame : (s.stations.map fun y => if y.num = m.station ∧ m.state ≠ m.extrapolatedOn.state then
        { y with changed := true } else y) = s.stations :=
      (List.map_congr_left fun y _ => if_neg fun h => h.2 rfl).trans (List.map_id _)
    rw [hsame]
    rfl
  simp only [State.extrapolate, hm, hstate, if_true, if_neg hlimit]
  exact congrArg (fun u : State => (u.applyRelease n m.rate).staleTest n) hmod

theorem State.spreads_extrapolated (s : State) (n release : Nat) :
    ((s.modMeter n Meter.extrapolatedOn).applyRelease n release).meters = (s.modMeter n Meter.extrapolatedOn).meters ∧
    ((s.modMeter n Meter.extrapolatedOn).applyRelease n release).ready = s.ready ∧
    ((s.modMeter n Meter.extrapolatedOn).applyRelease n release).due = s.due := by
  have hkept : Spreads (s.modMeter n Meter.extrapolatedOn) _ := .applyRelease _ n release
  generalize (s.modMeter n Meter.extrapolatedOn).applyRelease n release = t at hkept
  exact ⟨by rw [hkept], by rw [State.ready, hkept, State.ready]; rfl, by rw [hkept]; rfl⟩

theorem State.meter_extrapolated {s : State} {n : Nat} {m : Meter} (hm : s.meter n = some m) (release : Nat) :
    ((s.modMeter n Meter.extrapolatedOn).applyRelease n release).meter n = some m.extrapolatedOn := by
  have hmod := s.meter_modMeter n n Meter.extrapolatedOn fun _ => rfl
  rw [hm, Option.map_some, if_pos (State.meter_num hm)] at hmod
  rw [State.meter, (s.spreads_extrapolated n release).1]
  exact hmod

/-- The outage second of a meter leaves the others' records. -/
theorem State.meter_extrapolate_ne (s : State) {n j : Nat} (hj : j ≠ n) : (s.extrapolate n).meter j = s.meter j := by
  have htest : ∀ u : State, (u.staleTest n).meter j = u.meter j := fun u => by
    rw [State.meter_staleTest]
    cases hy : u.meter j with
    | none => rfl
    | some y =>
      rw [Option.map_some, if_neg fun h => hj ((State.meter_num hy).symm.trans h.1)]
  cases hm : s.meter n with
  | none => simp only [State.extrapolate, hm]
  | some m =>
    by_cases hstate : m.state = .extrapolating
    · by_cases hlimit : m.holdTime ≤ m.extrapolated
      · rw [State.extrapolate_of_stale hm hstate hlimit, htest]
      · rw [State.extrapolate_of_running hm hstate hlimit, htest, State.meter, (s.spreads_extrapolated n m.rate).1]
        refine (s.meter_modMeter n j Meter.extrapolatedOn fun _ => rfl).trans ?_
        cases hy : s.meter j with
        | none => rfl
        | some y => rw [Option.map_some, if_neg fun h => hj ((State.meter_num hy).symm.trans h)]
    · simp only [State.extrapolate, hm, hstate, if_false]

theorem State.ready_extrapolate (s : State) (n : Nat) : (s.extrapolate n).ready = s.ready := by
  have hrest := (SameLine.of_runs (Runs.extrapolate s n)).rest
  rw [State.ready, hrest, State.ready]

/-- The record an EXTRAPOLATING meter's outage second leaves (R56, R57). -/
theorem State.meter_extrapolate {s : State} {n : Nat} {m : Meter} (hm : s.meter n = some m) (hready : s.ready = true)
    (hstate : m.state = .extrapolating) : (s.extrapolate n).meter n = some
      (if m.holdTime ≤ m.extrapolated then { m with state := .stale }
        else { m with provisional := m.provisional + m.rate, extrapolated := m.extrapolated + 1,
                      state := if m.extrapolated + 1 = m.holdTime then .stale else .extrapolating }) := by
  by_cases hlimit : m.holdTime ≤ m.extrapolated
  · rw [State.extrapolate_of_stale hm hstate hlimit, State.meter_staleTest, hm, Option.map_some, if_pos hlimit, if_pos
      ⟨State.meter_num hm, by rw [State.expired_meterStale hm hready hstate]; exact decide_eq_true hlimit⟩]
  · have hm1 := State.meter_extrapolated hm m.rate
    have hready1 := ((s.spreads_extrapolated n m.rate).2.1).trans hready
    have hexpired := State.expired_meterStale hm1 hready1 hstate
    rw [State.extrapolate_of_running hm hstate hlimit, State.meter_staleTest, hm1, Option.map_some, hexpired, if_neg hlimit]
    have hnum : m.extrapolatedOn.num = n := (State.meter_num hm : m.num = n)
    by_cases hreached : m.extrapolated + 1 = m.holdTime
    · have hyes : m.extrapolatedOn.holdTime ≤ m.extrapolatedOn.extrapolated := Nat.le_of_eq hreached.symm
      rw [if_pos ⟨hnum, decide_eq_true hyes⟩, if_pos hreached]
      rfl
    · have hno : ¬ m.extrapolatedOn.holdTime ≤ m.extrapolatedOn.extrapolated := by
        change ¬ m.holdTime ≤ m.extrapolated + 1
        omega
      rw [if_neg fun h => hno (of_decide_eq_true h.2), if_neg hreached, ← hstate]
      rfl

/-! ### A Line Clock second -/

/-- In READY, with nothing due and no receive to start, a second is the counts, the timers at their limit and the outage
seconds. -/
theorem State.second_of_quiet {s : State} (hready : s.ready = true) (hdue : s.due = [])
    (hstarts : ∀ k, s.autoCandidate k = none) : s.second = (s.tick.markDue).extrapolateAll := by
  have htaken : s.takeDue = s := by simp only [State.takeDue, hdue, State.inFreeOrder_nil, List.foldl_nil]
  have hnone : (s.stationNums.filter fun k => (s.autoCandidate k).isSome) = [] :=
    List.filter_eq_nil_iff.2 fun k _ => by simp [hstarts k]
  have hstarted : s.takeStarts = s := by simp only [State.takeStarts, hnone, State.inFreeOrder_nil, List.foldl_nil]
  rw [State.second, if_pos hready, htaken, hstarted]

/-- The list of the EXTRAPOLATING meters' numbers (R56). -/
def State.outages (s : State) : List Nat := (s.meters.filter fun m => m.state == .extrapolating).map Meter.num

theorem State.extrapolateAll_eq (s : State) : s.extrapolateAll =
    (s.inFreeOrder s.outages).1.foldl State.extrapolate { s with choices := s.choices + (s.outages.length - 1) } := rfl

theorem Runs.extrapolateAll (s : State) : Runs s s.extrapolateAll :=
  (Acts.inFreeOrder ..).trans (Runs.foldl _ Runs.extrapolate _ _)

/-- A pass of outage seconds leaves a meter the record its own one leaves. -/
theorem State.meter_foldl_extrapolate {n : Nat} {m : Meter} (hstate : m.state = .extrapolating) {l : List Nat} (hn : n ∈ l)
    (hl : l.Nodup) {s : State} (hm : s.meter n = some m) (hready : s.ready = true) :
    (l.foldl State.extrapolate s).meter n = some
      (if m.holdTime ≤ m.extrapolated then { m with state := .stale }
        else { m with provisional := m.provisional + m.rate, extrapolated := m.extrapolated + 1,
                      state := if m.extrapolated + 1 = m.holdTime then .stale else .extrapolating }) := by
  induction l generalizing s with
  | nil => cases hn
  | cons j l ih =>
    obtain ⟨hj, hl⟩ := List.nodup_cons.1 hl
    rw [List.foldl_cons]
    rcases List.mem_cons.1 hn with rfl | hn
    · have hrest : ∀ (l : List Nat) (u : State), n ∉ l → (l.foldl State.extrapolate u).meter n = u.meter n := fun l => by
        induction l with
        | nil => exact fun _ _ => rfl
        | cons i l ih =>
          intro u hu
          rw [List.foldl_cons, ih _ (List.not_mem_of_not_mem_cons hu),
            u.meter_extrapolate_ne (List.ne_of_not_mem_cons hu)]
      rw [hrest l _ hj, State.meter_extrapolate hm hready hstate]
    · have hne : n ≠ j := fun h => hj (h ▸ hn)
      exact ih hn hl ((s.meter_extrapolate_ne hne).trans hm) ((s.ready_extrapolate j).trans hready)

theorem State.outages_of_only {s : State} (hrise : TablesRise s) {m : Meter} (hm : m ∈ s.meters)
    (hstate : m.state = .extrapolating) (honly : ∀ n ∈ s.meters, n.state = .extrapolating → n = m) : s.outages = [m.num] := by
  have hfilter : (s.meters.filter fun n => n.state == .extrapolating) = [m] := by
    have hnodup : (s.meters.filter fun n => n.state == .extrapolating).Nodup :=
      (List.Nodup.of_map Meter.num (hrise.meters.imp Nat.ne_of_lt)).filter _
    refine List.perm_singleton.1 ((List.perm_ext_iff_of_nodup hnodup (List.nodup_singleton m)).2 fun n => ?_)
    rw [List.mem_filter, beq_iff_eq, List.mem_singleton]
    exact ⟨fun h => honly n h.1 h.2, fun h => h ▸ ⟨hm, hstate⟩⟩
  rw [State.outages, hfilter, List.map_singleton]

/-- Settles O51: with nothing due and nothing to start, the second is its counts, the timers at their limit, and the outage
seconds, each of which writes its own meter's record alone. -/
theorem secondAdvancesTheCounts : Obligations.SecondAdvancesTheCounts := by
  unfold Obligations.SecondAdvancesTheCounts
  intro s clock ticked dueAtLimit becomes stale
  refine ⟨fun hline => ?_, fun hrise hline hdue hstarts => ?_⟩
  · have hnot : ¬ s.ready = true := fun h => by
      rw [State.ready_iff, hline] at h
      cases h
    exact congrArg Host.Outcome.next ((if_neg hnot).trans (State.tick_of_not_ready hnot))
  · have hready : s.ready = true := s.ready_iff.2 hline
    have htick := State.tick_eq_ticked hready
    have hrise1 : TablesRise (s.ticked s.due) := htick ▸ State.tick_tablesRise hrise
    obtain ⟨due, hmarked, hmem⟩ := (s.ticked s.due).markDue_eq
    have hmem : ∀ e, e ∈ due ↔ e ∈ (s.ticked s.due).timers ∧ (s.ticked s.due).expired e = true := fun e => by
      rw [hmem e, show (s.ticked s.due).due = [] from hdue]
      simp
    have hlimit : dueAtLimit due := by
      refine ⟨fun m h => ?_, fun v => (hmem _).trans (State.expired_stroke hrise1 v),
        fun v => (hmem _).trans (State.expired_delivery hrise1 v), fun d => (hmem _).trans (State.expired_confirmation hrise1 d),
        fun k => (hmem _).trans (State.expired_holdWait hrise1 k), fun k => (hmem _).trans (State.expired_launchExit hrise1 k),
        fun k => (hmem _).trans (State.expired_arrival hrise1 k), fun k => (hmem _).trans (State.expired_pause hrise1 k)⟩
      exact State.not_mem_timers_meterStale m ((hmem _).1 h).1
    have hsecond : exec .lineClockSecond s = .next (ticked due).extrapolateAll := by
      refine congrArg Host.Outcome.next ((State.second_of_quiet hready hdue hstarts).trans ?_)
      rw [htick, hmarked]
      rfl
    have hready1 : (ticked due).ready = true := hready
    have hnodup : s.outages.Nodup := (hrise.meters.imp Nat.ne_of_lt).sublist (List.filter_sublist.map _)
    refine ⟨fun hnone => ⟨due, ?_, hlimit⟩, fun m hm hstate => ?_, fun m hm hstate honly => ⟨due, hlimit, ?_⟩⟩
    · have hempty : (ticked due).outages = [] :=
        congrArg (List.map Meter.num) (List.filter_eq_nil_iff.2 fun m hm => by simpa using hnone m hm)
      rw [hsecond, State.extrapolateAll_eq, hempty]
      rfl
    · refine ⟨_, hsecond, ?_, ?_⟩
      · exact congrArg State.clock (SameLine.of_runs (Runs.extrapolateAll (ticked due))).rest
      · rw [State.extrapolateAll_eq]
        have hperm := (ticked due).inFreeOrder_perm (ticked due).outages
        exact State.meter_foldl_extrapolate hstate
          (hperm.mem_iff.2 (List.mem_map_of_mem (List.mem_filter.2 ⟨hm, beq_iff_eq.2 hstate⟩))) (hperm.nodup_iff.2 hnodup)
          (hrise.meter_of_mem hm) hready1
    · have honce : (ticked due).outages = [m.num] := State.outages_of_only hrise hm hstate honly
      have hpass : (ticked due).extrapolateAll = (ticked due).extrapolate m.num := by
        rw [State.extrapolateAll_eq, honce]
        rfl
      have hmeter : (ticked due).meter m.num = some m := hrise.meter_of_mem hm
      rw [hpass] at hsecond
      refine ⟨fun hlapsed => ?_, fun hrunning => ⟨_, State.applyRelease_pass _ m.num m.rate, ?_⟩⟩
      · rw [hsecond, State.extrapolate_of_stale hmeter hstate hlapsed,
          State.staleTest_of_expired hmeter hready1 hstate hlapsed (hlimit.1 _)]
      · have hrunning' : ¬ m.holdTime ≤ m.extrapolated := Nat.not_le.2 hrunning
        have hnext := State.meter_extrapolated hmeter m.rate
        obtain ⟨-, hready2, hdue2⟩ := (ticked due).spreads_extrapolated m.num m.rate
        have hready2 := hready2.trans hready1
        rw [hsecond, State.extrapolate_of_running hmeter hstate hrunning']
        by_cases hreached : m.extrapolated + 1 = m.holdTime
        · rw [if_pos hreached, State.staleTest_of_expired hnext hready2 hstate (Nat.le_of_eq hreached.symm)
            (by rw [hdue2]; exact hlimit.1 _)]
          rfl
        · have hno : ¬ m.extrapolatedOn.holdTime ≤ m.extrapolatedOn.extrapolated := by
            change ¬ m.holdTime ≤ m.extrapolated + 1
            omega
          rw [if_neg hreached, State.staleTest_of_running hnext hready2 hstate hno]
          rfl

end Sys2Proof.Machine
end

section
/-! SUPPORT. What every part of an accepted report but its own writes keeps: a relation that the engine keeps, and that
reads of no record, no meter and no detector what the stages write there, stands through the meter stage, every trip and
every decision (R70, R156). -/

namespace Sys2Proof.Machine

/-- What of a detector stands but for its state's own report (R94): its definition and its state. -/
def Detector.stated (d : Detector) : Detector :=
  { d with awaited := none, inRearmSet := false, confirmStart := none, confirmCount := 0, spurious := 0, suspect := false,
           lastMatched := none }

/-- The stages of a report keep the relation: the engine does, and so do a change of the records, the meters and the
train, and one of a detector's record that leaves its definition and its state. -/
structure StageKeeps (R : State → State → Prop) : Prop where
  engine : EngineKeeps R
  aside : ∀ {s t}, t = { s with meters := t.meters, pigs := t.pigs, train := t.train, revision := t.revision } → R s t
  touchIf : ∀ s b k, R s (s.touchIf b k)
  modDetector : ∀ s n f, (∀ d, (f d).stated = d.stated) → R s (s.modDetector n f)

theorem State.goOnAfter_keeps {R : State → State → Prop} (h : EngineKeeps R) (s : State) (k : Nat) (p : SeqStep) :
    R s (s.goOnAfter k p) := h.runForwardBy h.endSequence ..

theorem State.exitTaken_keeps {R : State → State → Prop} (h : EngineKeeps R) (s : State) (k : Nat) : R s (s.exitTaken k) := by
  unfold State.exitTaken
  simp only
  split
  · exact State.goOnAfter_keeps h ..
  · split
    · exact h.updSlot ..
    · exact h.updSlot ..
  · exact h.updSlot ..

namespace StageKeeps

variable {R : State → State → Prop} (h : StageKeeps R)

include h

theorem modPig (s : State) (u : Nat) (f : Pig → Pig) : R s (s.modPig u f) := h.aside rfl

theorem updDetector (s : State) (n : Nat) (f : Detector → Detector) (hf : ∀ d, (f d).stated = d.stated) :
    R s (s.updDetector n f) := by
  unfold State.updDetector
  split
  · exact h.engine.refl s
  · exact h.engine.trans (h.modDetector s n f hf) (h.touchIf ..)

theorem updMeter (s : State) (m : Nat) (f : Meter → Meter) : R s (s.updMeter m f) := by
  unfold State.updMeter
  split
  · exact h.engine.refl s
  · exact h.engine.trans (h.aside rfl : R s (s.modMeter m f)) (h.touchIf ..)

theorem settle (s : State) (u : Nat) : R s (s.settle u) :=
  h.engine.settle (fun _ _ => h.modPig ..) (fun _ _ => h.modPig ..) s u

theorem handedOn {s t : State} (u : Nat) (hst : R s t) : R s ((t.handOn u).settle u) :=
  h.engine.trans (h.engine.trans hst (h.engine.handOn ..)) (h.settle ..)

theorem joinTrain (s : State) (u x : Nat) : R s (s.joinTrain u x) := h.aside rfl

theorem leaveTrain (s : State) (u : Nat) : R s (s.leaveTrain u) := by
  unfold State.leaveTrain
  split
  · exact h.aside rfl
  · exact h.engine.refl s

theorem applyFix (s : State) (u x : Nat) (e : Evidence) : R s (s.applyFix u x e) := h.handedOn u (h.modPig ..)

theorem lose (s : State) (u : Nat) : R s (s.lose u) :=
  h.engine.trans (h.engine.trans (h.engine.trans (h.leaveTrain s u) (h.modPig ..)) (h.engine.raise ..)) (h.engine.handOn ..)

theorem trap (s : State) (u : Nat) : R s (s.trap u) :=
  h.engine.trans (h.engine.trans (h.leaveTrain s u) (h.modPig ..)) (h.engine.handOn ..)

theorem miss (s : State) (u : Nat) : R s (s.miss u) := by
  unfold State.miss
  simp only
  split
  · exact h.engine.refl s
  · split
    · exact h.handedOn u (h.modPig ..)
    · exact h.engine.trans (h.modPig ..) (h.lose ..)

theorem decideRecord (d : Detector) (sh : Shown) (i : Nat) (s : State) (u : Nat) : R s (State.decideRecord d sh i s u) := by
  unfold State.decideRecord
  split
  · exact h.engine.refl s
  · split
    · split
      · exact h.miss s u
      · exact h.engine.trans (h.modPig ..) (h.settle ..)
    · exact h.engine.refl s

theorem advance (s : State) (release u : Nat) : R s (s.advance release u) := by
  unfold State.advance
  split
  · exact h.engine.refl s
  · simp only
    split
    · exact h.modPig ..
    · exact h.handedOn u (h.modPig ..)

theorem applyRelease (s : State) (m release : Nat) : R s (s.applyRelease m release) := by
  unfold State.applyRelease
  split
  · exact h.engine.refl s
  · exact h.engine.foldl _ (fun s u => h.advance s release u) _ s

theorem implausible (s : State) (m : Meter) : R s (s.implausible m) := by
  unfold State.implausible
  split
  · exact h.updMeter ..
  · exact h.engine.trans (h.updMeter ..) (h.engine.raise ..)

theorem measure (s : State) (m : Meter) (totalizer : Nat) : R s (s.measure m totalizer) := by
  unfold State.measure
  simp only
  split
  · exact h.engine.trans (h.updMeter ..) (h.applyRelease ..)
  · exact h.implausible s m

theorem meterStage (s : State) (m : Meter) (totalizer : Nat) : R s (s.meterStage m totalizer) := by
  unfold State.meterStage
  split
  · exact h.updMeter ..
  · exact h.measure ..
  · exact h.measure ..
  · exact h.measure ..
  · exact h.engine.refl s

theorem reportMeter (s : State) (k : Nat) (r : Report) : R s (s.reportMeter k r) := by
  unfold State.reportMeter
  split
  · exact h.meterStage ..
  · exact h.engine.refl s

theorem spurious (s : State) (n : Nat) : R s (s.spurious n) := by
  unfold State.spurious
  split
  · exact h.engine.refl s
  · rename_i d _
    have hcount := h.updDetector s n (fun y =>
        { y with spurious := min (y.spurious + 1) 3, suspect := d.suspect || decide (d.spurious = 2) }) fun _ => rfl
    simp only
    split
    · exact h.engine.trans hcount (h.engine.raise ..)
    · exact hcount

theorem matchedAt (s : State) (n u : Nat) : R s (s.matchedAt n u) := h.updDetector s n _ fun _ => rfl

theorem matchTrip (s : State) (d : Detector) (p : Pig) (q : Nat) (early : Bool) : R s (s.matchTrip d p q early) :=
  h.engine.trans (h.engine.trans (h.engine.trans (h.matchedAt ..) (h.engine.note ..)) (h.modPig ..)) (h.applyFix ..)

theorem recover (s : State) (d : Detector) (p : Pig) (age : Nat) : R s (s.recover d p age) :=
  h.engine.trans (h.engine.trans (h.engine.trans (h.matchedAt ..) (h.engine.note ..)) (h.joinTrain ..)) (h.applyFix ..)

theorem offerLost (s : State) (d : Detector) (age : Nat) : R s (s.offerLost d age).1 := by
  unfold State.offerLost
  split
  · exact h.recover ..
  · exact h.spurious ..

theorem mainlineTrip (s : State) (n age : Nat) : R s (s.mainlineTrip n age).1 := by
  unfold State.mainlineTrip
  split
  · exact h.engine.refl s
  · split
    · exact h.engine.refl s
    · split
      · exact h.offerLost ..
      · simp only
        split
        · exact h.matchTrip ..
        · split
          · exact h.matchTrip ..
          · exact h.offerLost ..

theorem launchFix (s : State) (k : Nat) (d : Detector) (u age : Nat) : R s (s.launchFix k d u age) :=
  h.engine.trans (h.joinTrain ..) (h.applyFix ..)

theorem exitTaken (s : State) (k : Nat) : R s (s.exitTaken k) := State.exitTaken_keeps h.engine s k

theorem exitTrip (s : State) (n age : Nat) : R s (s.exitTrip n age).1 := by
  unfold State.exitTrip
  split
  · exact h.engine.refl s
  · simp only
    split
    · exact h.engine.trans (h.launchFix ..) (h.exitTaken ..)
    · split
      · exact h.launchFix ..
      · exact h.spurious ..

theorem arrivalTrip (s : State) (n : Nat) : R s (s.arrivalTrip n).1 := by
  unfold State.arrivalTrip
  split
  · exact h.engine.refl s
  · simp only
    split
    · rename_i p _ _
      refine h.engine.trans (h.trap s p.tag) ?_
      dsimp only
      split
      · exact State.goOnAfter_keeps h.engine ..
      · exact h.engine.updSlot ..
    · exact h.spurious ..

theorem trip (s : State) (d : Detector) (age : Nat) : R s (s.trip d age).1 := by
  unfold State.trip
  split
  · exact h.exitTrip ..
  · exact h.mainlineTrip ..
  · exact h.arrivalTrip ..

theorem trips (d : Detector) (age n : Nat) (s : State) : R s (s.trips d age n).1 := by
  induction n with
  | zero => exact h.engine.refl s
  | succ n ih => exact h.engine.trans ih (h.trip ..)

end StageKeeps

end Sys2Proof.Machine
end

section
/-! SUPPORT. What the stages of a report leave: the link records, the valves' sites, the detectors' states, and all that
no stage writes (R156). -/

namespace Sys2Proof.Machine

/-! ### Link records -/

/-- Every station keeps its link record. -/
structure LinksStand (s t : State) : Prop where
  links : ∀ k, (t.station k).map Station.link = (s.station k).map Station.link

namespace LinksStand

theorem of_stations {s t : State} (h : t.stations = s.stations) : LinksStand s t := ⟨fun k => by simp only [State.station, h]⟩

theorem trans {s t u : State} (h : LinksStand s t) (g : LinksStand t u) : LinksStand s u :=
  ⟨fun k => (g.links k).trans (h.links k)⟩

theorem of_kept {s t : State} (h : ∀ k, StationKept k s t) : LinksStand s t := ⟨fun k => by
  have hlink : ∀ x : Station, x.link = x.site.link := fun _ => rfl
  have hsite := congrArg (Option.map Station.link) (h k).site
  simpa only [Option.map_map, Function.comp_def, ← hlink] using hsite⟩

theorem touchIf (s : State) (b : Bool) (k : Nat) : LinksStand s (s.touchIf b k) := of_kept fun _ => .touchIf s b k

theorem updDetector (s : State) (n : Nat) (f : Detector → Detector) : LinksStand s (s.updDetector n f) :=
  of_kept fun _ => .updDetector s n f

theorem updValve (s : State) (v : Nat) (f : Valve → Valve) : LinksStand s (s.updValve v f) :=
  of_kept fun _ => .updValve s v f

theorem modStation {s : State} {k : Nat} {f : Station → Station} (hf : ∀ x, (f x).num = x.num)
    (hlink : ∀ x, (f x).link = x.link) : LinksStand s (s.modStation k f) := ⟨fun j => by
  rw [State.station_modStation s k j f hf, Option.map_map]
  refine congrArg (Option.map · _) (funext fun x => ?_)
  by_cases hx : x.num = k
  · simp [hx, hlink]
  · simp [hx]⟩

theorem stageKeeps : StageKeeps LinksStand where
  engine := {
    refl := fun _ => of_stations rfl
    trans := trans
    reevalValve := fun s v => of_kept fun _ => .reevalValve s v
    rearmTest := fun s d => of_kept fun _ => .rearmTest s d
    offerStep := fun s k p => of_kept fun _ => .offerStep s k p
    endCommand := fun s v o => of_kept fun _ => .endCommand s v o
    updSlot := fun s k f => of_kept fun _ => .updSlot s k f
    storeClosing := fun s k l => of_kept fun _ => StationKept.engineKeeps.storeClosing s k l
    writeFault := fun s k f b => of_kept fun _ => StationKept.engineKeeps.writeFault s k f b
    giveUp := fun _ _ _ _ _ => of_stations rfl
    raise := fun _ _ => of_stations rfl
    note := fun _ _ => of_stations rfl }
  aside h := of_stations (by rw [h])
  touchIf := touchIf
  modDetector _ _ _ _ := of_stations rfl

end LinksStand

/-! ### The valves' sites -/

theorem ValvesStand.stageKeeps : StageKeeps ValvesStand where
  engine := ValvesStand.engineKeeps
  aside h := .of_same (by rw [h])
  touchIf := .touchIf
  modDetector _ _ _ _ := .of_same rfl

/-! ### The detectors' states -/

/-- Every detector keeps its definition and its state. -/
structure StatesStand (s t : State) : Prop where
  states : t.detectors.map Detector.stated = s.detectors.map Detector.stated

namespace StatesStand

theorem of_detectors {s t : State} (h : t.detectors = s.detectors) : StatesStand s t := ⟨by rw [h]⟩

theorem trans {s t u : State} (h : StatesStand s t) (g : StatesStand t u) : StatesStand s u := ⟨g.states.trans h.states⟩

theorem of_join {s t : State} (h : OnlyJoin s t) : StatesStand s t := ⟨by
  obtain ⟨joined, hjoined⟩ := h
  rw [hjoined, List.map_map]
  rfl⟩

theorem engineKeeps : EngineKeeps StatesStand where
  refl _ := of_detectors rfl
  trans := trans
  reevalValve s v := of_join (OnlyJoin.engineKeeps.reevalValve s v)
  rearmTest s d := of_join (.rearmTest s d)
  offerStep s k p := of_join (OnlyJoin.engineKeeps.offerStep s k p)
  endCommand s v o := of_join (OnlyJoin.engineKeeps.endCommand s v o)
  updSlot s k f := of_join (OnlyJoin.engineKeeps.updSlot s k f)
  storeClosing _ _ _ := of_detectors rfl
  writeFault _ _ _ _ := of_detectors rfl
  giveUp _ _ _ _ _ := of_detectors rfl
  raise _ _ := of_detectors rfl
  note _ _ := of_detectors rfl

theorem touchIf (s : State) (b : Bool) (k : Nat) : StatesStand s (s.touchIf b k) := by
  rw [State.touchIf_eq]
  exact of_detectors rfl

theorem stageKeeps : StageKeeps StatesStand where
  engine := engineKeeps
  aside h := of_detectors (by rw [h])
  touchIf := touchIf
  modDetector s n f hf := ⟨map_mod_of_same Detector.num n f Detector.stated (fun d _ => hf d) s.detectors⟩

/-- What reads of a detector its definition and its state alone reads the same of every detector. -/
theorem detector {s t : State} (h : StatesStand s t) (n : Nat) :
    (t.detector n).map Detector.stated = (s.detector n).map Detector.stated :=
  find?_map_congr Detector.num Detector.stated (fun _ _ h => (congrArg Detector.num h : _)) n _ _ h.states

end StatesStand

/-! ### All that no stage writes -/

/-- Two states agree but for the tables, the train and the attention. -/
def ReportReaches (s t : State) : Prop :=
  t = { s with stations := t.stations, detectors := t.detectors, valves := t.valves, meters := t.meters, pigs := t.pigs,
               train := t.train, revision := t.revision, attention := t.attention }

namespace ReportReaches

theorem of_reaches {s t : State} (h : Reaches s t) : ReportReaches s t := by
  unfold Reaches at h
  unfold ReportReaches
  rw [h]

theorem trans {s t u : State} (h : ReportReaches s t) (g : ReportReaches t u) : ReportReaches s u := by
  unfold ReportReaches at *
  rw [g, h]

theorem index {s t : State} (h : ReportReaches s t) : t.index = s.index := by rw [h]

theorem engineKeeps : EngineKeeps ReportReaches where
  refl _ := rfl
  trans := trans
  reevalValve s v := of_reaches (.reevalValve s v)
  rearmTest s d := of_reaches (.rearmTest s d)
  offerStep s k p := of_reaches (.offerStep s k p)
  endCommand s v o := of_reaches (.endCommand s v o)
  updSlot s k f := of_reaches (.updSlot s k f)
  storeClosing _ _ _ := rfl
  writeFault _ _ _ _ := rfl
  giveUp _ _ _ _ _ := rfl
  raise _ _ := rfl
  note _ _ := rfl

theorem stageKeeps : StageKeeps ReportReaches where
  engine := engineKeeps
  aside h := by
    unfold ReportReaches
    rw [h]
  touchIf s b k := of_reaches (.touchIf s b k)
  modDetector _ _ _ _ := rfl

end ReportReaches

end Sys2Proof.Machine
end

section
/-! SUPPORT. The detector stage of a report as the obligations spell it out (R70, R71), and the state it leaves each
detector in (R93, R94). -/

namespace Sys2Proof.Machine

/-! ### The stage spelt out -/

theorem ReportReading.newTrips_eq (d : Detector) (sh : Shown) : ReportReading.newTrips d sh = d.newTrips sh := by
  unfold ReportReading.newTrips Detector.newTrips Shown.readAs
  cases sh <;> cases d.latching <;> cases d.state <;> simp

theorem State.trips_state (s : State) (d : Detector) (age n : Nat) :
    (List.replicate n ()).foldl (fun u _ => u.1.trip d age) (s, none) = s.trips d age n := by
  induction n with
  | zero => rfl
  | succ n ih => rw [List.replicate_succ', List.foldl_append, ih]; rfl

theorem ReportReading.trips_eq (s : State) (d : Detector) (age n : Nat) : ReportReading.trips s d age n = s.trips d age n := by
  rw [← State.trips_state]
  unfold ReportReading.trips
  refine congrArg (fun f => List.foldl f (s, none) _) (funext fun u => funext fun _ => ?_)
  unfold State.trip
  cases d.kind <;> rfl

/-- The records a stage decides at a detector: those overdue-pending at it when the stage began. -/
def State.toDecide (s : State) (n : Nat) : List Nat := ((s.indexOf n).map s.overdueAt).getD []

theorem State.overdueAt_eq (s : State) (i : Nat) : s.overdueAt i =
    s.train.filter fun t => (s.pig t).any fun (p : Pig) => p.overdue && decide (p.pointer = some i) := by
  unfold State.overdueAt
  refine List.filter_congr fun t _ => ?_
  cases s.pig t <;> rfl

/-- A detector's part in the obligations' words is the model's, where the index stands as it did when the stage began. -/
theorem ReportReading.detector_eq {began s : State} (hindex : s.index = began.index) (shown : Detector → Shown × Nat)
    (d : Detector) : ReportReading.detector shown began s d =
      s.detectorPart d (shown d).1 (shown d).2 (began.toDecide d.num) := by
  have hindexOf : began.indexOf d.num = s.indexOf d.num := by rw [State.indexOf, State.indexOf, hindex]
  unfold ReportReading.detector State.detectorPart State.detectorReads State.toDecide
  rw [ReportReading.trips_eq, ReportReading.newTrips_eq, hindexOf]
  simp only
  cases d.kind <;> cases s.indexOf d.num <;>
    simp only [Option.map_some, Option.getD_some, State.overdueAt_eq]

/-- A detector's part: its trips and decisions, which keep what every stage keeps, and then its new state (R70). -/
theorem StageKeeps.detectorPart {R : State → State → Prop} (h : StageKeeps R) (s : State) (d : Detector) (sh : Shown)
    (age : Nat) (pending : List Nat) :
    ∃ u taker, R s u ∧ s.detectorPart d sh age pending = u.detectorReads d.num sh taker := by
  have htrips := h.trips d age (d.newTrips sh) s
  unfold State.detectorPart
  simp only
  refine ⟨_, _, ?_, rfl⟩
  split
  · exact h.engine.trans htrips (h.engine.foldl _ (fun s t => h.decideRecord d sh _ s t) _ _)
  · exact htrips

/-! ### The detectors' states -/

/-- What a report makes of a detector's definition and state (R94). -/
def Detector.reads (sh : Shown) (x : Detector) : Detector := (x.afterReport sh none).stated

theorem Detector.stated_afterReport (x : Detector) (sh : Shown) (taker : Option Nat) :
    (x.afterReport sh taker).stated = x.stated.reads sh := by
  unfold Detector.reads Detector.afterReport
  simp only [show x.stated.state = x.state from rfl, show x.stated.latching = x.latching from rfl]
  cases x.state <;> cases sh.readAs x.latching <;> rfl

/-- A report read twice is a report read once. -/
theorem Detector.reads_reads (x : Detector) (sh : Shown) : (x.reads sh).reads sh = x.reads sh := by
  cases hread : sh.readAs x.latching <;> cases hstate : x.state <;>
    simp [Detector.reads, Detector.afterReport, Detector.stated, Detector.arm, Detector.fail, hread, hstate]

/-- A detector's part writes its own state, and no other's. -/
theorem State.stated_detectorPart (s : State) (d : Detector) (sh : Shown) (age : Nat) (pending : List Nat) (n : Nat) :
    ((s.detectorPart d sh age pending).detector n).map Detector.stated =
      ((s.detector n).map Detector.stated).map fun x => if n = d.num then x.reads sh else x := by
  obtain ⟨u, taker, hu, heq⟩ := StatesStand.stageKeeps.detectorPart s d sh age pending
  rw [heq, ← hu.detector n]
  unfold State.detectorReads
  rw [(StatesStand.stageKeeps.engine.rearmTest ..).detector n]
  have hread : (u.updDetector d.num fun x => x.afterReport sh taker).detector n =
      (u.detector n).map fun x => if x.num = d.num then x.afterReport sh taker else x := by
    rw [State.detector, State.updDetector_detectors]
    exact State.detector_modDetector u d.num n _ fun x => Detector.num_of_committed (Runs.afterReport_committed x sh taker)
  rw [hread, Option.map_map, Option.map_map]
  cases hx : u.detector n with
  | none => rfl
  | some x =>
    obtain rfl := State.detector_num hx
    by_cases hn : x.num = d.num
    · simp only [Option.map_some, Function.comp_apply, if_pos hn, Detector.stated_afterReport]
    · simp only [Option.map_some, Function.comp_apply, if_neg hn]

/-- The parts of a stage, one after another: a detector with a part of its own has read the report, another has not. -/
theorem State.stated_detectorParts (shown : Detector → Shown × Nat) (pending : Detector → List Nat) (n : Nat) (sh : Shown)
    (l : List Detector) (hown : ∀ d ∈ l, d.num = n → (shown d).1 = sh) (s : State) :
    ((l.foldl (fun u d => u.detectorPart d (shown d).1 (shown d).2 (pending d)) s).detector n).map Detector.stated =
      ((s.detector n).map Detector.stated).map fun x => if n ∈ l.map Detector.num then x.reads sh else x := by
  induction l generalizing s with
  | nil => simp only [List.foldl_nil, List.map_nil, List.not_mem_nil, if_false, Option.map_id']
  | cons d l ih =>
    obtain ⟨hd, hl⟩ := List.forall_mem_cons.1 hown
    rw [List.foldl_cons, ih hl, State.stated_detectorPart, Option.map_map]
    refine congrArg (Option.map · _) (funext fun x => ?_)
    by_cases hn : n = d.num
    · by_cases hmem : n ∈ l.map Detector.num
      · simp only [Function.comp_apply, List.map_cons, List.mem_cons, hmem, or_true, if_true, if_pos hn, hd hn.symm,
          Detector.reads_reads]
      · simp only [Function.comp_apply, List.map_cons, List.mem_cons, hmem, or_false, if_pos hn, hd hn.symm, if_false]
    · simp only [Function.comp_apply, List.map_cons, List.mem_cons, hn, false_or, if_false]

theorem ReportReaches.detectorReads (s : State) (n : Nat) (sh : Shown) (taker : Option Nat) :
    ReportReaches s (s.detectorReads n sh taker) :=
  .of_reaches ((Reaches.updDetector ..).trans (.rearmTest ..))

theorem ReportReaches.detectorPart (s : State) (d : Detector) (sh : Shown) (age : Nat) (pending : List Nat) :
    ReportReaches s (s.detectorPart d sh age pending) := by
  obtain ⟨u, taker, hu, heq⟩ := ReportReaches.stageKeeps.detectorPart s d sh age pending
  rw [heq]
  exact hu.trans (.detectorReads ..)

theorem State.detectorStage_eq (s : State) (k : Nat) (shown : Nat → Shown × Nat) : s.detectorStage k shown =
    (s.stageOrder k).foldl (fun u d => u.detectorPart d (shown d.slot).1 (shown d.slot).2 (s.toDecide d.num)) s := by
  unfold State.detectorStage
  rw [List.foldl_map]
  rfl

/-- The detector stage in the obligations' words is the model's. -/
theorem ReportReading.detectors_eq (s : State) (k : Nat) (shown : Nat → Shown × Nat) :
    ReportReading.detectors (fun d => shown d.slot) k s = s.detectorStage k shown := by
  have hstep : ∀ (l : List Detector) (u : State), u.index = s.index →
      l.foldl (ReportReading.detector (fun d => shown d.slot) s) u =
        l.foldl (fun u d => u.detectorPart d (shown d.slot).1 (shown d.slot).2 (s.toDecide d.num)) u := by
    intro l
    induction l with
    | nil => exact fun _ _ => rfl
    | cons d l ih =>
      intro u hu
      rw [List.foldl_cons, List.foldl_cons, ReportReading.detector_eq hu]
      exact ih _ ((ReportReaches.detectorPart u d _ _ _).index.trans hu)
  unfold ReportReading.detectors
  simp only
  rw [hstep _ s rfl, State.detectorStage_eq]
  rfl

theorem StageKeeps.detectorStage {R : State → State → Prop} (h : StageKeeps R)
    (hreads : ∀ s n sh taker, R s (s.detectorReads n sh taker)) (s : State) (k : Nat) (shown : Nat → Shown × Nat) :
    R s (s.detectorStage k shown) := by
  refine h.engine.foldl _ (fun u x => ?_) _ s
  obtain ⟨v, taker, hv, heq⟩ := h.detectorPart u x.1 (shown x.1.slot).1 (shown x.1.slot).2 x.2
  rw [heq]
  exact h.engine.trans hv (hreads ..)

theorem State.mem_stageOrder {s : State} {k : Nat} {d : Detector} (hrise : TablesRise s) (hd : d ∈ s.detectors)
    (hstation : d.station = k) (hindex : d.kind = .mainline → d.num ∈ s.index) : d ∈ s.stageOrder k := by
  have hown : d ∈ s.detectorsOf k := List.mem_filter.2 ⟨hd, beq_iff_eq.2 hstation⟩
  unfold State.stageOrder
  simp only [List.mem_append, List.mem_filter, List.mem_filterMap, beq_iff_eq]
  cases hkind : d.kind with
  | launchExit => exact .inl (.inl ⟨hown, rfl⟩)
  | trapArrival => exact .inr ⟨hown, rfl⟩
  | mainline =>
    refine .inl (.inr ⟨d.num, hindex hkind, ?_⟩)
    exact find?_of_rising Detector.num _ (List.Pairwise.sublist (List.filter_sublist.map _) hrise.detectors) d hown

/-- The stage leaves each of the station's detectors in the state the report gives it (R93, R94). -/
theorem State.stated_detectorStage {s : State} {d : Detector} (hrise : TablesRise s) (hd : d ∈ s.detectors)
    (hindex : d.kind = .mainline → d.num ∈ s.index) (shown : Nat → Shown × Nat) :
    ((s.detectorStage d.station shown).detector d.num).map Detector.stated = some (d.stated.reads (shown d.slot).1) := by
  have hown : ∀ e ∈ s.stageOrder d.station, e.num = d.num → (shown e.slot).1 = (shown d.slot).1 := fun e he hnum => by
    have hmem := (Runs.stageOrder_mem he).1
    rw [Option.some.inj ((hrise.detector_of_mem hmem).symm.trans (hnum ▸ hrise.detector_of_mem hd))]
  rw [State.detectorStage_eq, State.stated_detectorParts (fun d => shown d.slot) (fun e => s.toDecide e.num) d.num _ _ hown,
    hrise.detector_of_mem hd, Option.map_some, Option.map_some,
    if_pos (List.mem_map_of_mem (State.mem_stageOrder hrise hd rfl hindex))]

end Sys2Proof.Machine
end

section
/-! SUPPORT. The valve stage of a report (R105, R106, R112), and what the reply does to the command a poll carried (R98,
R111). -/

namespace Sys2Proof.Machine

/-! ### A valve's part of the stage -/

theorem Rehold.linksStand {s t : State} (h : Rehold s t) : LinksStand s t := ⟨fun k => h.readLink k⟩

theorem Rehold.statesStand {s t : State} (h : Rehold s t) : StatesStand s t := .of_detectors (by rw [h.rest])

theorem Rehold.valvesStand {s t : State} (h : Rehold s t) : ValvesStand s t := ⟨by
  have hsite : Valve.site ∘ Valve.unheld = Valve.site := rfl
  have hmap := congrArg (List.map Valve.site) h.valves
  simpa only [List.map_map, hsite] using hmap⟩

theorem Rehold.reportReaches {s t : State} (h : Rehold s t) : ReportReaches s t := by
  unfold ReportReaches
  rw [h.rest]

theorem State.strokeTest_keeps {R : State → State → Prop} (h : EngineKeeps R) (s : State) (v : Nat) : R s (s.strokeTest v) := by
  unfold State.strokeTest
  split
  · exact h.refl s
  · split
    · exact h.refl s
    · split
      · split
        · exact h.refl s
        · exact h.finishCommand ..
      · exact h.refl s

theorem StageKeeps.valvePart {R : State → State → Prop} (h : StageKeeps R) (hrehold : ∀ {s t}, Rehold s t → R s t)
    (hcode : ∀ s v c, R s (s.updValve v fun y => y.afterCode c)) (s : State) (v : Nat) (c : PositionCode) :
    R s (s.valvePart v c) := by
  unfold State.valvePart
  split
  · exact h.engine.refl s
  · extract_lets s1
    split
    · exact hcode s v c
    · exact h.engine.trans (h.engine.trans (hcode s v c) (State.strokeTest_keeps h.engine ..)) (hrehold (.strikeTest ..))

theorem StageKeeps.valveStage {R : State → State → Prop} (h : StageKeeps R) (hrehold : ∀ {s t}, Rehold s t → R s t)
    (hcode : ∀ s v c, R s (s.updValve v fun y => y.afterCode c)) (s : State) (k : Nat) (r : Report) :
    R s (s.valveStage k r) := by
  refine h.engine.foldl _ (fun u e => ?_) _ s
  split
  · exact h.engine.refl u
  · exact h.valvePart hrehold hcode ..

theorem StatesStand.updValve (s : State) (v : Nat) (f : Valve → Valve) : StatesStand s (s.updValve v f) := by
  unfold State.updValve
  split
  · exact .of_detectors rfl
  · exact .trans (.of_detectors rfl : StatesStand s (s.modValve v f)) (.touchIf ..)

/-- What a report's code leaves of a valve's site (R105). -/
theorem Valve.site_afterCode (x : Valve) (c : PositionCode) : (x.afterCode c).site = x.site.afterCode c := rfl

theorem Valve.num_of_site {x y : Valve} (h : x.site = y.site) : x.num = y.num :=
  (congrArg Valve.num h : x.site.num = y.site.num)

theorem ValvesStand.valve {s t : State} (h : ValvesStand s t) (n : Nat) :
    (t.valve n).map Valve.site = (s.valve n).map Valve.site :=
  find?_map_congr Valve.num Valve.site (fun _ _ => Valve.num_of_site) n _ _ h.sites

/-- A valve's part puts its own site through the debounce, and no other's. -/
theorem State.site_valvePart (s : State) (v : Nat) (c : PositionCode) (n : Nat) :
    ((s.valvePart v c).valve n).map Valve.site =
      ((s.valve n).map Valve.site).map fun x => if n = v then x.afterCode c else x := by
  have hcoded : ∀ x, s.valve v = some x → ((s.updValve v fun y => y.afterCode c).valve n).map Valve.site =
      ((s.valve n).map Valve.site).map fun x => if n = v then x.afterCode c else x := fun x hx => by
    rw [State.updValve_of_some _ hx, State.valve_modStation, State.valve_modValve s v n (fun y => y.afterCode c) fun _ => rfl,
      Option.map_map, Option.map_map]
    cases hy : s.valve n with
    | none => rfl
    | some y =>
      rw [Option.map_some, Option.map_some, Function.comp_apply, Function.comp_apply, State.valve_num hy]
      by_cases hn : n = v
      · rw [if_pos hn, if_pos hn, Valve.site_afterCode]
      · rw [if_neg hn, if_neg hn]
  unfold State.valvePart
  split
  · rename_i hnone
    by_cases hn : n = v
    · rw [hn, hnone]
      rfl
    · simp only [if_neg hn, Option.map_id']
  · rename_i x hx
    simp only
    split
    · exact hcoded x hx
    · rw [(Rehold.strikeTest ..).valvesStand.valve n, (State.strokeTest_keeps ValvesStand.engineKeeps ..).valve n]
      exact hcoded x hx

/-! ### The valve stage -/

/-- A station's valve of a role is the same valve throughout a run. -/
theorem SameLine.roleValve {s t : State} (h : SameLine s t) (k : Nat) (role : Role) :
    (t.roleValve k role).map Valve.num = (s.roleValve k role).map Valve.num := by
  have hread : ∀ l : List Valve, (l.find? fun v => v.station == k && v.role == role).map Valve.num =
      ((l.map Valve.committed).find? fun v => v.station == k && v.role == role).map Valve.num := fun l => by
    rw [List.find?_map, Option.map_map]
    rfl
  rw [State.roleValve, State.roleValve, hread t.valves, h.valves, ← hread]

/-- One entry of the valve stage, at the valve a state names for its role. -/
def State.valveEntry (s : State) (k : Nat) (u : State) (e : Role × PositionCode) : State :=
  (s.roleValve k e.1).elim u fun v => u.valvePart v.num e.2

theorem Runs.valveEntry (s : State) (k : Nat) (u : State) (e : Role × PositionCode) : Runs u (s.valveEntry k u e) := by
  unfold State.valveEntry
  cases s.roleValve k e.1 with
  | none => exact .refl u
  | some v => exact .valvePart ..

theorem State.valveEntry_congr {s u : State} (hline : SameLine s u) (k : Nat) (w : State) (e : Role × PositionCode) :
    u.valveEntry k w e = s.valveEntry k w e := by
  have hread : ∀ o : Option Valve, (o.elim w fun v => w.valvePart v.num e.2) =
      (o.map Valve.num).elim w fun n => w.valvePart n e.2 := fun o => by cases o <;> rfl
  rw [State.valveEntry, State.valveEntry, hread, hread, hline.roleValve]

theorem State.valveStage_entries (s : State) (k : Nat) (r : Report) :
    s.valveStage k r = r.valves.foldl (fun u e => u.valveEntry k u e) s := by
  unfold State.valveStage
  refine congrArg (fun f => List.foldl f s r.valves) (funext fun u => funext fun e => ?_)
  unfold State.valveEntry
  cases u.roleValve k e.1 <;> rfl

/-- The valve stage takes the valves that stood in the roles before it. -/
theorem State.valveStage_eq {s u : State} (hline : SameLine s u) (k : Nat) (r : Report) :
    u.valveStage k r = r.valves.foldl (s.valveEntry k) u := by
  rw [State.valveStage_entries]
  generalize r.valves = l
  induction l generalizing u with
  | nil => rfl
  | cons e l ih =>
    rw [List.foldl_cons, List.foldl_cons, State.valveEntry_congr hline]
    exact ih (hline.trans (SameLine.of_runs (.valveEntry s k u e)))

/-- A valve takes its own role's entry, and no other. -/
theorem State.site_valveEntries {s : State} (hrise : TablesRise s) {k : Nat} {role : Role} {v : Valve}
    (hv : s.roleValve k role = some v) (l : List (Role × PositionCode)) (hnodup : (l.map Prod.fst).Nodup) (u : State) :
    ((l.foldl (s.valveEntry k) u).valve v.num).map Valve.site = ((u.valve v.num).map Valve.site).map fun x =>
      (((l.find? fun e => e.1 == role).map Prod.snd).elim x x.afterCode : Valve) := by
  induction l generalizing u with
  | nil => simp only [List.foldl_nil, List.find?_nil, Option.map_none, Option.elim_none, Option.map_id']
  | cons e l ih =>
    rw [List.map_cons, List.nodup_cons] at hnodup
    rw [List.foldl_cons, ih hnodup.2]
    by_cases hrole : e.1 = role
    · have hnot : l.find? (fun e => e.1 == role) = none := List.find?_eq_none.2 fun f hf => by
        rw [beq_iff_eq]
        exact fun hfr => hnodup.1 (hrole.trans hfr.symm ▸ List.mem_map_of_mem hf)
      have hentry : s.valveEntry k u e = u.valvePart v.num e.2 := by rw [State.valveEntry, hrole, hv, Option.elim_some]
      have hfound : (e :: l).find? (fun e => e.1 == role) = some e := List.find?_cons_of_pos (beq_iff_eq.2 hrole)
      rw [hnot, hfound, hentry, State.site_valvePart]
      simp only [if_true, Option.map_none, Option.elim_none, Option.map_id', Option.map_some, Option.elim_some]
    · have hfound : (e :: l).find? (fun e => e.1 == role) = l.find? fun e => e.1 == role :=
        List.find?_cons_of_neg (by rwa [beq_iff_eq])
      have hentry : ((s.valveEntry k u e).valve v.num).map Valve.site = (u.valve v.num).map Valve.site := by
        unfold State.valveEntry
        cases hw : s.roleValve k e.1 with
        | none => rfl
        | some w =>
          obtain ⟨hwmem, -, hwrole⟩ := State.roleValve_mem hw
          obtain ⟨hvmem, -, hvrole⟩ := State.roleValve_mem hv
          have hne : v.num ≠ w.num := fun hnum => hrole <| by
            rw [← hwrole, ← hvrole, Option.some.inj ((hrise.valve_of_mem hvmem).symm.trans (hnum ▸ hrise.valve_of_mem hwmem))]
          simp only [Option.elim_some, State.site_valvePart, if_neg hne, Option.map_id']
      rw [hfound, hentry]

end Sys2Proof.Machine
end

section
/-! SUPPORT. What the reply does to the command a poll carried (R98, R111): in closed form for a host's command and for a
REARM, and what it leaves. -/

namespace Sys2Proof.Machine

/-! ### What a reply leaves -/

theorem StageKeeps.acceptCommand {R : State → State → Prop} (h : StageKeeps R)
    (hmark : ∀ s v (c : Command), R s (s.modValve v fun y => { y with command := some c }))
    (hqueue : ∀ s k v, R s (s.modStation k fun y => { y with queue := y.queue.filter (· ≠ v) })) (s : State) (x : Valve)
    (c : Command) : R s (s.acceptCommand x c) := by
  have haccepted := h.engine.trans (hmark s x.num (c.accepted s.clock)) (hqueue _ x.station x.num)
  unfold State.acceptCommand
  simp only
  split
  · exact h.engine.trans haccepted (h.engine.updSlot ..)
  · exact haccepted

theorem StageKeeps.valveReply {R : State → State → Prop} (h : StageKeeps R)
    (hmark : ∀ s v (c : Command), R s (s.modValve v fun y => { y with command := some c }))
    (hqueue : ∀ s k v, R s (s.modStation k fun y => { y with queue := y.queue.filter (· ≠ v) })) (s : State) (v : Nat)
    (r : Reply) : R s (s.valveReply v r) := by
  unfold State.valveReply
  split
  · exact h.engine.refl s
  · split
    · exact h.engine.refl s
    · split
      · exact h.engine.refl s
      · cases r with
        | none => exact h.engine.replyNone hmark s v
        | accepted => exact h.engine.trans (h.acceptCommand hmark hqueue ..) (State.strokeTest_keeps h.engine ..)
        | refusedLocal => exact h.engine.finishCommand ..
        | refusedFault => exact h.engine.finishCommand ..
        | unknownTarget => exact h.engine.finishCommand ..

/-- What a REARM's reply makes of the detector (R98). -/
def Detector.answered (r : Reply) (clock : Nat) (x : Detector) : Detector :=
  match r with
  | .accepted => { x with state := .rearming, inRearmSet := false, confirmStart := some clock, confirmCount := 0 }
  | .refusedFault => x.fail
  | .unknownTarget => x.fail
  | .refusedLocal => x
  | .none => x

/-- A reply that answers nothing leaves the REARM to be sent again. -/
theorem State.rearmReply_of_waiting (s : State) (d : Nat) {r : Reply} (hr : r = .refusedLocal ∨ r = .none) :
    s.rearmReply d r = s := by
  unfold State.rearmReply
  obtain rfl | rfl := hr <;> cases s.detector d <;> simp

theorem State.rearmReply_of_out {s : State} {d : Nat} {x : Detector} (hx : s.detector d = some x)
    (hout : ¬ (x.state = .tripped ∧ x.inRearmSet = true)) (r : Reply) : s.rearmReply d r = s := by
  simp only [State.rearmReply, hx, if_neg hout]

theorem State.rearmReply_of_in {s : State} {d : Nat} {x : Detector} (hx : s.detector d = some x)
    (hstate : x.state = .tripped) (hin : x.inRearmSet = true) {r : Reply} (hr : r ≠ .refusedLocal ∧ r ≠ .none) :
    s.rearmReply d r = s.updDetector d (Detector.answered r s.clock) := by
  simp only [State.rearmReply, hx, hstate, hin, and_self, if_true]
  cases r with
  | none => exact absurd rfl hr.2
  | refusedLocal => exact absurd rfl hr.1
  | accepted => rfl
  | refusedFault => rfl
  | unknownTarget => rfl

theorem State.rearmReply_cases (s : State) (d : Nat) (r : Reply) :
    s.rearmReply d r = s ∨ ∃ f, (∀ x : Detector, (f x).num = x.num) ∧ s.rearmReply d r = s.updDetector d f := by
  cases hx : s.detector d with
  | none => simp only [State.rearmReply, hx, true_or]
  | some x =>
    by_cases hin : x.state = .tripped ∧ x.inRearmSet = true
    · by_cases hr : r = .refusedLocal ∨ r = .none
      · exact .inl (s.rearmReply_of_waiting d hr)
      · refine .inr ⟨Detector.answered r s.clock, fun x => ?_, State.rearmReply_of_in hx hin.1 hin.2 (not_or.1 hr)⟩
        cases r <;> rfl
    · exact .inl (State.rearmReply_of_out hx hin r)

theorem LinksStand.commandReply (s : State) (item : Carried) (r : Reply) : LinksStand s (s.commandReply item r) := by
  cases item with
  | nothing => exact .of_stations rfl
  | valve v =>
    exact LinksStand.stageKeeps.valveReply (fun _ _ _ => .of_stations rfl) (fun _ _ _ => .modStation (fun _ => rfl) fun _ => rfl)
      s v r
  | rearm d =>
    obtain heq | ⟨f, -, heq⟩ := s.rearmReply_cases d r
    · exact .of_stations (by rw [State.commandReply, heq])
    · rw [State.commandReply, heq]
      exact .updDetector s d f

theorem ValvesStand.commandReply (s : State) (item : Carried) (r : Reply) : ValvesStand s (s.commandReply item r) := by
  cases item with
  | nothing => exact .of_same rfl
  | valve v =>
    refine ValvesStand.stageKeeps.valveReply (fun s v c => ?_) (fun _ _ _ => .of_same rfl) s v r
    refine .modValve ?_
    exact fun _ => rfl
  | rearm d =>
    obtain heq | ⟨f, -, heq⟩ := s.rearmReply_cases d r
    · exact .of_same (by rw [State.commandReply, heq])
    · rw [State.commandReply, heq]
      exact .updDetector s d f

theorem ReportReaches.commandReply (s : State) (item : Carried) (r : Reply) : ReportReaches s (s.commandReply item r) := by
  cases item with
  | nothing => exact ReportReaches.engineKeeps.refl s
  | valve v => exact ReportReaches.stageKeeps.valveReply (fun _ _ _ => rfl) (fun _ _ _ => rfl) s v r
  | rearm d =>
    obtain heq | ⟨f, -, heq⟩ := s.rearmReply_cases d r
    · rw [State.commandReply, heq]
      exact ReportReaches.engineKeeps.refl s
    · rw [State.commandReply, heq]
      exact .of_reaches (.updDetector s d f)

/-- The reply changes the state of no detector but one whose REARM was carried. -/
theorem State.stated_commandReply (s : State) {item : Carried} (r : Reply) {n : Nat} (hitem : item ≠ .rearm n) :
    ((s.commandReply item r).detector n).map Detector.stated = (s.detector n).map Detector.stated := by
  cases item with
  | nothing => rfl
  | valve v =>
    exact (StatesStand.stageKeeps.valveReply (fun _ _ _ => .of_detectors rfl) (fun _ _ _ => .of_detectors rfl) s v r).detector n
  | rearm d =>
    have hne : n ≠ d := fun h => hitem (h ▸ rfl)
    obtain heq | ⟨f, hnum, heq⟩ := s.rearmReply_cases d r
    · rw [State.commandReply, heq]
    · rw [State.commandReply, heq, State.detector, State.updDetector_detectors]
      have hmod := State.detector_modDetector s d n f hnum
      rw [State.detector, State.modDetector] at hmod
      rw [hmod, Option.map_map]
      cases hx : s.detector n with
      | none => rfl
      | some x => rw [Option.map_some, Function.comp_apply, State.detector_num hx, if_neg hne, Option.map_some]

/-! ### A carried command -/

theorem strokeEnds_of_at {d : Debounced} {t : Target} (h : d.at t = true) : strokeEnds d t = some .done := if_pos h

theorem strokeEnds_of_fault (t : Target) : strokeEnds .fault t = some .fault := by cases t <;> rfl

theorem strokeEnds_of_moving {d : Debounced} {t : Target} (h : ¬ d.at t = true) (hfault : d ≠ .fault) :
    strokeEnds d t = none := by rw [strokeEnds, if_neg h, if_neg hfault]

/-- A command's end forgets what was last written of the command. -/
theorem State.endCommand_modValve (s : State) (y : Valve) (a : Option Command) (o : ValveOutcome) :
    (s.modValve y.num fun z => { z with command := a }).endCommand { y with command := a } o = s.endCommand y o := by
  unfold State.endCommand
  refine congrArg (fun t : State => t.modStation y.station _) ?_
  simp only [State.modValve, List.map_map, State.mk.injEq, and_true, true_and]
  refine List.map_congr_left fun z _ => ?_
  by_cases hz : z.num = y.num <;> simp [hz]

/-- A command's end takes it off its queue, as its acceptance did. -/
theorem State.endCommand_dequeued (s : State) (y : Valve) (o : ValveOutcome) :
    (s.modStation y.station fun k => { k with queue := k.queue.filter (· ≠ y.num) }).endCommand y o = s.endCommand y o := by
  simp only [State.endCommand, State.modValve, State.modStation, List.map_map, State.mk.injEq, and_true, true_and]
  refine List.map_congr_left fun x _ => ?_
  by_cases hx : x.num = y.station <;> simp [hx]

/-- A travelling command is tested against the debounced state (R112). -/
theorem State.strokeTest_of_travelling {s : State} {v : Nat} {y : Valve} {c : Command} (hy : s.valve v = some y)
    (hc : y.command = some c) (hphase : c.phase = .travelling) :
    s.strokeTest v = (strokeEnds y.debounced c.target).elim s fun o => s.finishCommand v o := by
  simp only [State.strokeTest, hy, hc, hphase, if_true]
  cases strokeEnds y.debounced c.target <;> rfl

/-- A command accepted is TRAVELLING and off its queue (R111). -/
theorem State.valve_acceptCommand {s : State} {v : Nat} {y : Valve} (hy : s.valve v = some y) (c : Command) :
    (s.acceptCommand y c).valve v = some { y with command := some (c.accepted s.clock) } := by
  have hwritten : (s.modValve y.num fun z => { z with command := some (c.accepted s.clock) }).valve v =
      some { y with command := some (c.accepted s.clock) } := by
    obtain rfl := State.valve_num hy
    exact State.valve_modValve_self (f := fun z => { z with command := some (c.accepted s.clock) }) hy fun _ => rfl
  unfold State.acceptCommand
  simp only
  split
  · rw [State.valve_updSlot]
    exact hwritten
  · exact hwritten

theorem State.acceptCommand_host (s : State) (y : Valve) {c : Command} (horigin : c.origin = .host) : s.acceptCommand y c =
    (s.modValve y.num fun z => { z with command := some (c.accepted s.clock) }).modStation y.station
      fun k => { k with queue := k.queue.filter (· ≠ y.num) } := by
  simp only [State.acceptCommand, horigin]

/-- A host's command whose end its acceptance finds reached has ended (R111, R112). -/
theorem State.finishCommand_accepted {s : State} {v : Nat} {y : Valve} (hy : s.valve v = some y) {c : Command}
    (horigin : c.origin = .host) (o : ValveOutcome) : (s.acceptCommand y c).finishCommand v o = s.endCommand y o := by
  rw [State.finishCommand_host (State.valve_acceptCommand hy c) rfl (o := o) (c := c.accepted s.clock) horigin,
    State.acceptCommand_host s y horigin,
    ← State.endCommand_modValve s y (some (c.accepted s.clock)) o]
  exact State.endCommand_dequeued (s.modValve y.num fun z => { z with command := some (c.accepted s.clock) })
    { y with command := some (c.accepted s.clock) } o

section

variable {s : State} {v : Nat} {y : Valve} {c : Command} (hy : s.valve v = some y) (hc : y.command = some c)

include hy hc

theorem State.commandReply_uncarried (hcarried : c.carried = false) (r : Reply) : s.commandReply (.valve v) r = s := by
  simp only [State.commandReply, State.valveReply, hy, hc, hcarried, if_true]

theorem State.commandReply_accepted (hcarried : c.carried = true) :
    s.commandReply (.valve v) .accepted = (s.acceptCommand y c).strokeTest v := by
  simp only [State.commandReply, State.valveReply, hy, hc, hcarried, Bool.true_eq_false, if_false]

theorem State.commandReply_none_valve (hcarried : c.carried = true) :
    s.commandReply (.valve v) .none = s.replyNone v := by
  simp only [State.commandReply, State.valveReply, hy, hc, hcarried, Bool.true_eq_false, if_false]

theorem State.commandReply_refused (hcarried : c.carried = true) {r : Reply}
    (hr : r ∈ [Reply.refusedLocal, .refusedFault, .unknownTarget]) :
    s.commandReply (.valve v) r = s.finishCommand v c.refusal := by
  simp only [State.commandReply, State.valveReply, hy, hc, hcarried, Bool.true_eq_false, if_false]
  simp only [List.mem_cons, List.not_mem_nil, or_false] at hr
  obtain rfl | rfl | rfl := hr <;> rfl

/-- A valve whose command is written anew ends it as it would have ended before. -/
theorem State.finishCommand_rewritten (horigin : c.origin = .host) {d : Command} (hd : d.origin = .host) (o : ValveOutcome) :
    (s.modValve v fun z => { z with command := some d }).finishCommand v o = s.finishCommand v o := by
  have hwritten : (s.modValve v fun z => { z with command := some d }).valve v = some { y with command := some d } :=
    State.valve_modValve_self (f := fun z => { z with command := some d }) hy fun _ => rfl
  rw [State.finishCommand_host hwritten rfl hd, State.finishCommand_host hy hc horigin]
  obtain rfl := State.valve_num hy
  exact s.endCommand_modValve y (some d) o

/-- NONE to a host's command without a mark: it is not carried any more (R111). -/
theorem State.replyNone_unmarked (horigin : c.origin = .host) (hmarks : c.marks = []) :
    s.replyNone v = s.modValve v fun z => { z with command := some c.notCarried } := by
  have hhost : ¬(c.origin = .sequence ∧ (s.slotOf y.station).abortPending.isSome = true) := fun h => by
    cases horigin.symm.trans h.1
  simp only [State.replyNone, hy, hc, hmarks, List.head?_nil, if_neg hhost]

/-- NONE to a host's command with a mark: the first mark ends it (R111). -/
theorem State.replyNone_marked (horigin : c.origin = .host) {m : LapseMark} (hm : c.marks.head? = some m) :
    s.replyNone v = s.endCommand y m.outcome := by
  simp only [State.replyNone, hy, hc, hm]
  rw [State.finishCommand_rewritten hy hc horigin (d := c.notCarried) horigin, State.finishCommand_host hy hc horigin]

theorem State.commandReply_accepted_eq (hcarried : c.carried = true) : s.commandReply (.valve v) .accepted =
    (strokeEnds y.debounced c.target).elim (s.acceptCommand y c) fun o => (s.acceptCommand y c).finishCommand v o := by
  rw [State.commandReply_accepted hy hc hcarried, State.strokeTest_of_travelling (State.valve_acceptCommand hy c) rfl rfl]
  rfl

end

end Sys2Proof.Machine
end

section
/-! SUPPORT. The valve stage and the command replies by themselves, as the obligation of an accepted report states them
(R98, R105, R111, R112). -/

namespace Sys2Proof.Machine

theorem SeqStep.movesAway_iff (p : SeqStep) : p.movesAway = true ↔ p ∈ [SeqStep.l2, .l3, .l4, .rx2, .rx3] := by
  cases p <;> simp [SeqStep.movesAway]

section

variable {s : State} {v : Nat} {y : Valve} {c : Command} (hy : s.valve v = some y) (hc : y.command = some c)

include hy hc

/-- A change of the debounced state tests a host's travelling command, and leaves another command as it is (R112). -/
theorem State.command_valvePart {code : PositionCode} (horigin : c.origin = .host) (hphase : c.phase = .travelling)
    (hpending : y.pendingReport = some code) (hchange : code.debounced ≠ y.debounced) :
    ((s.valvePart v code).valve v).map (fun z => (z.command, z.lastOutcome)) =
      some ((strokeEnds code.debounced c.target).elim (some c, y.lastOutcome) fun o => (none, some o)) := by
  have hdebounced : (y.afterCode code).debounced = code.debounced := if_pos hpending
  have hcoded : (s.updValve v fun z => z.afterCode code).valve v = some (y.afterCode code) := by
    rw [State.updValve_of_some _ hy, State.valve_modStation]
    exact State.valve_modValve_self (f := fun z => z.afterCode code) hy fun _ => rfl
  have hparted : s.valvePart v code = ((s.updValve v fun z => z.afterCode code).strokeTest v).strikeTest v := by
    simp only [State.valvePart, hy, hdebounced, if_neg hchange]
  have hread : ∀ o : Option Valve, o.map (fun z => (z.command, z.lastOutcome)) =
      (o.map Valve.unheld).map fun z => (z.command, z.lastOutcome) := fun o => by cases o <;> rfl
  rw [hparted, hread, (Rehold.strikeTest _ v).valve v, ← hread, State.strokeTest_of_travelling hcoded hc hphase, hdebounced]
  cases strokeEnds code.debounced c.target with
  | none => rw [Option.elim_none, hcoded, Option.map_some, Option.elim_none, ← hc]; rfl
  | some o =>
    rw [Option.elim_some, Option.elim_some, State.finishCommand_host hcoded hc horigin,
      State.valve_endCommand, hcoded, Option.map_some, Option.map_some, if_pos rfl]

/-- The reply to a host's carried command (R111, R112). -/
theorem State.valveReplies_host (hcarried : c.carried = true) (horigin : c.origin = .host) :
    (y.debounced.at c.target = true → s.commandReply (.valve v) .accepted = s.endCommand y .done) ∧
    (y.debounced = .fault → s.commandReply (.valve v) .accepted = s.endCommand y .fault) ∧
    (¬ y.debounced.at c.target = true → y.debounced ≠ .fault →
      s.commandReply (.valve v) .accepted = s.acceptCommand y c) ∧
    (∀ a ∈ [Reply.refusedLocal, .refusedFault, .unknownTarget], s.commandReply (.valve v) a = s.endCommand y c.refusal) ∧
    (c.marks = [] → s.commandReply (.valve v) .none =
      s.modValve v fun z => { z with command := some { c with carried := false } }) ∧
    (∀ m rest, c.marks = m :: rest → s.commandReply (.valve v) .none = s.endCommand y m.outcome) := by
  have haccepted := State.commandReply_accepted_eq hy hc hcarried
  refine ⟨fun hat => ?_, fun hfault => ?_, fun hat hfault => ?_, fun a ha => ?_, fun hmarks => ?_, fun m rest hmarks => ?_⟩
  · rw [haccepted, strokeEnds_of_at hat, Option.elim_some, State.finishCommand_accepted hy horigin]
  · rw [haccepted, hfault, strokeEnds_of_fault, Option.elim_some, State.finishCommand_accepted hy horigin]
  · rw [haccepted, strokeEnds_of_moving hat hfault, Option.elim_none]
  · rw [State.commandReply_refused hy hc hcarried ha, State.finishCommand_host hy hc horigin]
  · rw [State.commandReply_none_valve hy hc hcarried, State.replyNone_unmarked hy hc horigin hmarks]
    rfl
  · rw [State.commandReply_none_valve hy hc hcarried, State.replyNone_marked hy hc horigin (by rw [hmarks]; rfl)]

/-- A sequence's command is accepted: the slot has moved its valve away, or closed it (R131). -/
theorem State.slotOf_accepted_sequence {x : Station} {p : SeqStep} (hcarried : c.carried = true)
    (horigin : c.origin = .sequence) (hx : s.station y.station = some x) (hstep : x.slot.step = some p)
    (hat : ¬ y.debounced.at c.target = true) (hfault : y.debounced ≠ .fault) :
    (s.commandReply (.valve v) .accepted).slotOf x.num = { x.slot with
      marks := if p ∈ [SeqStep.l2, .l3, .l4, .rx2, .rx3] then x.slot.marks.put y.role true else x.slot.marks
      closeAccepted := x.slot.closeAccepted || decide (p = .rx3) } ∧
    ((s.commandReply (.valve v) .accepted).valve v).bind Valve.command = some (c.accepted s.clock) := by
  rw [State.commandReply_accepted_eq hy hc hcarried, strokeEnds_of_moving hat hfault, Option.elim_none]
  refine ⟨?_, by rw [State.valve_acceptCommand hy c]; rfl⟩
  rw [State.station_num hx]
  have hqueued : ((s.modValve y.num fun z => { z with command := some (c.accepted s.clock) }).modStation y.station
      fun k => { k with queue := k.queue.filter (· ≠ y.num) }).station y.station =
        some { x with queue := x.queue.filter (· ≠ y.num) } :=
    State.station_modStation_self (s := s.modValve y.num fun z => { z with command := some (c.accepted s.clock) })
      (fun k => { k with queue := k.queue.filter (· ≠ y.num) }) (fun _ => rfl) hx
  have hmoved : (if p.movesAway = true then x.slot.marks.put y.role true else x.slot.marks) =
      if p ∈ [SeqStep.l2, .l3, .l4, .rx2, .rx3] then x.slot.marks.put y.role true else x.slot.marks :=
    if_congr p.movesAway_iff rfl rfl
  rw [← hmoved]
  conv_lhs => simp only [State.acceptCommand, horigin, State.slotOf_of_some hx, hstep]
  rw [State.slotOf_updSlot_self _ hqueued]

end

/-- The reply to a carried REARM (R98). -/
theorem State.rearmReplies {s : State} {d : Nat} {x : Detector} (hx : s.detector d = some x) (hstate : x.state = .tripped)
    (hin : x.inRearmSet = true) {r : Reply} (hr : r ≠ .refusedLocal ∧ r ≠ .none) :
    s.rearmReply d r = { s with
      detectors := s.detectors.map fun y => if y.num = d then y.answered r s.clock else y
      stations := s.stations.map fun k => if k.num = x.station then { k with changed := true } else k } := by
  rw [State.rearmReply_of_in hx hstate hin hr, State.updDetector_of_some _ hx]
  have hmoved : (x.answered r s.clock).state ≠ x.state := by
    rw [hstate]
    cases r with
    | none => exact absurd rfl hr.2
    | refusedLocal => exact absurd rfl hr.1
    | accepted => exact fun h => by cases h
    | refusedFault => exact fun h => by cases h
    | unknownTarget => exact fun h => by cases h
  have hwatched : decide ((x.state, x.awaited, x.inRearmSet, x.spurious, x.suspect) ≠
      ((x.answered r s.clock).state, (x.answered r s.clock).awaited, (x.answered r s.clock).inRearmSet,
        (x.answered r s.clock).spurious, (x.answered r s.clock).suspect)) = true := by
    rw [decide_eq_true_eq]
    exact fun h => hmoved (congrArg Prod.fst h).symm
  simp only [hwatched, Bool.or_true]
  rfl

end Sys2Proof.Machine
end

section
/-! SUPPORT. An accepted report in its stages (R156 to R158), and what stands at the end of each. -/

namespace Sys2Proof.Machine

/-! ### A link record written, in closed form -/

/-- What of a link record its station's changed flag tells of (R184). -/
def LinkRecord.told (x : LinkRecord) : LinkState × Bool × Option OutCause × Bool × Bool × Bool :=
  (x.state, x.proven, x.outCause, x.remote, x.launchDoor, x.receiveDoor)

theorem State.updLink_eq {s : State} {k : Nat} {x : Station} (hx : s.station k = some x) (f : LinkRecord → LinkRecord) :
    s.updLink k f = { s with stations := s.stations.map fun y => if y.num = k then
      { y with link := f y.link, changed := y.changed || decide (x.link.told ≠ (f x.link).told) } else y } := by
  simp only [State.updLink, hx, State.touchIf_eq, State.modStation, List.map_map, State.mk.injEq, and_true, true_and]
  refine List.map_congr_left fun y _ => ?_
  by_cases hy : y.num = k <;> simp [hy, LinkRecord.told]

theorem State.link_updLink {s : State} {k : Nat} {x : Station} (hx : s.station k = some x) (f : LinkRecord → LinkRecord) :
    ((s.updLink k f).station k).map Station.link = some (f x.link) := by
  have h := congrArg (Option.map Prod.fst) (State.station_updLink_self hx f)
  simp only [Option.map_map, Option.map_some] at h
  exact h

/-! ### A report taken in -/

/-- The link record of a station whose matching report is heard (R156, R158). -/
def LinkRecord.taken (x : LinkRecord) : LinkRecord :=
  { x with proven := true, missed := 0,
           state := if x.state = .silent ∨ x.proven = false then .active else x.state }

/-- The state in which a matching report has been heard: its station proven, its missed count 0 (R156, R158). -/
def State.hearing (s : State) (k : Nat) (x : Station) : State :=
  { s with stations := s.stations.map fun y => if y.num = k then
      { y with link := { y.link with proven := true, missed := 0, state := x.link.taken.state }
               changed := y.changed || decide (x.link.state = .silent) || !x.link.proven } else y }

theorem State.hearing_of_proven {s : State} (hrise : TablesRise s) {k : Nat} {x : Station} (hx : s.station k = some x)
    (hproven : x.link.proven = true) : s.updLink k LinkRecord.heard = s.hearing k x := by
  rw [State.updLink_eq hx, State.hearing]
  refine congrArg (fun l => { s with stations := l }) (List.map_congr_left fun y hy => ?_)
  by_cases hk : y.num = k
  · obtain rfl : y = x := Option.some.inj ((hk ▸ hrise.station_of_mem hy).symm.trans hx)
    by_cases hsilent : y.link.state = .silent <;>
      simp [hk, LinkRecord.heard, LinkRecord.told, LinkRecord.taken, hproven, hsilent]
  · simp only [if_neg hk]

theorem State.hearing_of_unproven {s : State} (hrise : TablesRise s) {k : Nat} {x : Station} (hx : s.station k = some x)
    (hproven : x.link.proven = false) :
    (s.updLink k LinkRecord.nowProven).updLink k LinkRecord.heard = s.hearing k x := by
  have hproved : (s.updLink k LinkRecord.nowProven).station k = some { x with link := x.link.nowProven, changed := true } := by
    rw [State.updLink_eq hx]
    refine (State.station_modStation_self (s := s) (k := k) _ ?_ hx).trans ?_
    · exact fun _ => rfl
    · simp [LinkRecord.told, LinkRecord.nowProven, hproven]
  rw [State.updLink_eq hproved, State.updLink_eq hx, State.hearing]
  simp only [List.map_map]
  refine congrArg (fun l => { s with stations := l }) (List.map_congr_left fun y hy => ?_)
  by_cases hk : y.num = k
  · obtain rfl : y = x := Option.some.inj ((hk ▸ hrise.station_of_mem hy).symm.trans hx)
    simp [hk, LinkRecord.heard, LinkRecord.told, LinkRecord.taken, LinkRecord.nowProven, hproven]
  · simp only [Function.comp_apply, if_neg hk]

theorem State.link_hearing {s : State} {k : Nat} {x : Station} (hx : s.station k = some x) :
    ((s.hearing k x).station k).map Station.link = some x.link.taken := by
  have h := State.station_modStation_self (s := s) (k := k) (fun y : Station =>
      { y with link := { y.link with proven := true, missed := 0, state := x.link.taken.state }
               changed := y.changed || decide (x.link.state = .silent) || !x.link.proven }) (fun _ => rfl) hx
  exact congrArg (Option.map Station.link) h

/-- The state before the reply to the carried command: the meter, detector, valve and flags stages are over (R156). -/
def State.staged (s : State) (k : Nat) (r : Report) : State :=
  (((s.reportMeter k r).detectorStage k r.shown).valveStage k r).updLink k fun x => x.withFlags r

/-- A matching report is processed in its stages (R156, R158). -/
theorem State.judged_of_match {s : State} (hrise : TablesRise s) {k : Nat} {x : Station} (hx : s.station k = some x)
    {frame : List Byte} {r : Report} (hjudge : judge x.address frame = some r) (hmatch : s.listsMatch k r = true)
    (item : Carried) : s.judged k item frame = ((s.hearing k x).staged k r).commandReply item r.reply := by
  simp only [State.judged, hx, hjudge, hmatch, if_true]
  cases hproven : x.link.proven with
  | true => rw [if_pos rfl, ← State.hearing_of_proven hrise hx hproven]; rfl
  | false =>
    rw [if_neg Bool.false_ne_true, ← State.hearing_of_unproven hrise hx hproven]
    rfl

/-- A mismatch takes an unproven station OUT (R158). -/
theorem State.judged_of_mismatch {s : State} {k : Nat} {x : Station} (hx : s.station k = some x) {frame : List Byte}
    {r : Report} (hjudge : judge x.address frame = some r) (hmatch : s.listsMatch k r = false)
    (hproven : x.link.proven = false) (item : Carried) :
    s.judged k item frame = (s.commandReply item .none).enterOut k .mismatch := by
  simp only [State.judged, hx, hjudge, hmatch, hproven, Bool.false_eq_true, if_false]

/-! ### What stands through the stages -/

theorem LinksStand.detectorReads (s : State) (n : Nat) (sh : Shown) (taker : Option Nat) :
    LinksStand s (s.detectorReads n sh taker) := .trans (.updDetector ..) (stageKeeps.engine.rearmTest ..)

theorem ValvesStand.detectorReads (s : State) (n : Nat) (sh : Shown) (taker : Option Nat) :
    ValvesStand s (s.detectorReads n sh taker) := .trans (.updDetector ..) (.rearmTest ..)

theorem LinksStand.valveStage (s : State) (k : Nat) (r : Report) : LinksStand s (s.valveStage k r) :=
  stageKeeps.valveStage Rehold.linksStand (fun _ _ _ => .updValve ..) s k r

theorem StatesStand.valveStage (s : State) (k : Nat) (r : Report) : StatesStand s (s.valveStage k r) :=
  stageKeeps.valveStage Rehold.statesStand (fun _ _ _ => .updValve ..) s k r

theorem ReportReaches.valveStage (s : State) (k : Nat) (r : Report) : ReportReaches s (s.valveStage k r) :=
  stageKeeps.valveStage Rehold.reportReaches (fun _ _ _ => .of_reaches (.updValve ..)) s k r

/-- The link record is the one heard, as far as the valve stage (R156). -/
theorem State.link_positioned {s : State} {k : Nat} {x : Station} (hx : s.station k = some x) (r : Report) :
    (((((s.hearing k x).reportMeter k r).detectorStage k r.shown).valveStage k r).station k).map Station.link =
      some x.link.taken := by
  rw [(LinksStand.valveStage ..).links k, (LinksStand.stageKeeps.detectorStage LinksStand.detectorReads ..).links k,
    (LinksStand.stageKeeps.reportMeter ..).links k]
  exact State.link_hearing hx

/-- The flags stage in closed form: the flags the report shows, told where they changed (R157). -/
theorem State.flagged_eq {u : State} {k : Nat} {x : LinkRecord}
    (hlink : (u.station k).map Station.link = some x.taken) (r : Report) :
    (u.updLink k fun y => y.withFlags r) = { u with stations := u.stations.map fun y => if y.num = k then
      { y with
        link := { y.link with remote := r.remote, launchDoor := r.launchDoor, receiveDoor := r.receiveDoor }
        changed := y.changed ||
          decide ((x.remote, x.launchDoor, x.receiveDoor) ≠ (r.remote, r.launchDoor, r.receiveDoor)) } else y } := by
  obtain ⟨y, hy, hyx⟩ := Option.map_eq_some_iff.1 hlink
  have htold : (y.link.told ≠ (y.link.withFlags r).told) ↔
      (x.remote, x.launchDoor, x.receiveDoor) ≠ (r.remote, r.launchDoor, r.receiveDoor) := by
    simp [hyx, LinkRecord.told, LinkRecord.taken, LinkRecord.withFlags]
  simp only [State.updLink_eq hy, htold]
  rfl

theorem ReportReaches.staged (s : State) (k : Nat) (r : Report) : ReportReaches s (s.staged k r) := by
  refine ((ReportReaches.stageKeeps.reportMeter s k r).trans ?_).trans (.of_reaches (.updLink ..))
  exact (ReportReaches.stageKeeps.detectorStage .detectorReads ..).trans (.valveStage ..)

theorem State.position_nodup {s : State} {k : Nat} {r : Report} (h : s.listsMatch k r = true) :
    (r.valves.map Prod.fst).Nodup := by
  simp only [State.listsMatch, Bool.and_eq_true, decide_eq_true_eq] at h
  rw [h.1.2]
  exact (show allRoles.Nodup by decide).filter _

theorem State.valve_updLink (s : State) (k : Nat) (f : LinkRecord → LinkRecord) (n : Nat) :
    (s.updLink k f).valve n = s.valve n := by rw [State.updLink_stations]; rfl

theorem State.detector_updLink (s : State) (k : Nat) (f : LinkRecord → LinkRecord) (n : Nat) :
    (s.updLink k f).detector n = s.detector n := by rw [State.updLink_stations]; rfl

theorem Runs.reportStages {s : State} {k : Nat} (r : Report) (hk : s.station k ≠ none) :
    Runs s ((s.reportMeter k r).detectorStage k r.shown) := by
  have hmeter := Runs.reportMeter s k r
  exact hmeter.trans (.detectorStage r.shown (hmeter.station_ne_none hk))

/-- Each valve of the station has its code put through the debounce (R105). -/
theorem State.site_staged {s : State} (hrise : TablesRise s) {k : Nat} (hk : s.station k ≠ none) {r : Report}
    (hmatch : s.listsMatch k r = true) {v : Valve} (hv : v ∈ s.valves) (hrole : s.roleValve k v.role = some v)
    {code : PositionCode} (hcode : r.position v.role = some code) :
    ((s.staged k r).valve v.num).map Valve.site = some (v.site.afterCode code) := by
  have hdetected : ValvesStand s ((s.reportMeter k r).detectorStage k r.shown) :=
    (ValvesStand.stageKeeps.reportMeter s k r).trans (ValvesStand.stageKeeps.detectorStage ValvesStand.detectorReads ..)
  rw [State.staged, State.valve_updLink, State.valveStage_eq (SameLine.of_runs (.reportStages r hk)),
    State.site_valveEntries hrise hrole _ (State.position_nodup hmatch), hdetected.valve, hrise.valve_of_mem hv]
  rw [Report.position] at hcode
  rw [hcode]
  rfl

/-- Each detector of the station has read the report (R93, R94). -/
theorem State.stated_staged {s : State} (hrise : TablesRise s) {k : Nat} (r : Report) {d : Detector}
    (hd : d ∈ s.detectors) (hstation : d.station = k) (hindex : d.kind = .mainline → d.num ∈ s.index) :
    ((s.staged k r).detector d.num).map Detector.stated = some (d.stated.reads (r.shown d.slot).1) := by
  have hmeter := StatesStand.stageKeeps.reportMeter s k r
  have hrise' : TablesRise (s.reportMeter k r) := (SameLine.of_runs (.reportMeter s k r)).tablesRise hrise
  have hindex' : (s.reportMeter k r).index = s.index := (ReportReaches.stageKeeps.reportMeter s k r).index
  have hread := hmeter.detector d.num
  rw [hrise.detector_of_mem hd, Option.map_some] at hread
  obtain ⟨e, he, hed⟩ := Option.map_eq_some_iff.1 hread
  have hnum : e.num = d.num := (congrArg Detector.num hed : e.stated.num = d.stated.num)
  have hkind : e.kind = d.kind := (congrArg Detector.kind hed : e.stated.kind = d.stated.kind)
  have hslot : e.slot = d.slot := (congrArg Detector.slot hed : e.stated.slot = d.stated.slot)
  have hat : e.station = k := (congrArg Detector.station hed : e.stated.station = d.stated.station).trans hstation
  have hstage := State.stated_detectorStage hrise' (State.detector_mem he)
    (fun h => by rw [hnum, hindex']; exact hindex (hkind ▸ h)) r.shown
  rw [hat, hnum, hslot, hed] at hstage
  rw [State.staged, State.detector_updLink, (StatesStand.valveStage ..).detector, hstage]

end Sys2Proof.Machine
end

section
/-! SUPPORT. A report from its frame to its command reply: accepted, or of an unproven station that it does not match
(R153 to R158). -/

namespace Sys2Proof.Machine

/-! ### A mismatch -/

theorem ReportReaches.enterOut (s : State) (k : Nat) (c : OutCause) : ReportReaches s (s.enterOut k c) := by
  have houtage : ∀ u : State, ReportReaches u (u.stationOutage k) := fun u => by
    unfold State.stationOutage
    split
    · exact engineKeeps.refl u
    · exact stageKeeps.updMeter ..
  exact (((of_reaches (.updLink ..)).trans (houtage _)).trans (engineKeeps.excuseAt stageKeeps.settle _ k)).trans
    (engineKeeps.endQueued ..)

theorem RecordsKeepPlace.enterOut (s : State) (k : Nat) (c : OutCause) : RecordsKeepPlace s (s.enterOut k c) :=
  (((RecordsKeepPlace.updLink ..).trans (.stationOutage ..)).trans (.excuseAt ..)).trans (.endQueued ..)

theorem State.link_enterOut {s : State} {k : Nat} {l : LinkRecord}
    (hl : (s.station k).map Station.link = some l) (c : OutCause) :
    ((s.enterOut k c).station k).map Station.link = some { l with state := .out, outCause := some c } := by
  obtain ⟨x, hx, rfl⟩ := Option.map_eq_some_iff.1 hl
  have hkept : ∀ j (u : State), StationKept j u (((u.stationOutage k).excuseAt k).endQueued k .undelivered) := fun j u =>
    ((StationKept.stationOutage u k).trans (.excuseAt ..)).trans (.endQueued ..)
  unfold State.enterOut
  simp only
  rw [(LinksStand.of_kept fun j => hkept j _).links k, State.link_updLink hx]

/-! ### The frame -/

theorem exec_report : ∀ (frame : List Byte) (s : State), exec (.report frame) s = execReport frame s := by
  intros; rfl

theorem State.receive_of_awaited {s : State} {p : PollSlot} (hslot : s.link.slot = some p) (hfate : p.fate = .awaited)
    {frame : List Byte} (hwhole : reportWhole frame = true) :
    s.receive frame = s.freeLink.judged p.station p.item frame := by
  simp only [State.receive, hslot, hwhole, if_true, hfate]

/-- What a matching report leaves, but for the stages spelt out (R156, R157). -/
structure ReportTaken (s t : State) (x : Station) (item : Carried) (r : Report) : Prop where
  link : t.link = { s.link with slot := none }
  station : (t.station x.num).map Station.link = some { x.link with
    state := if x.link.state = .silent ∨ x.link.proven = false then .active else x.link.state
    proven := true, missed := 0, remote := r.remote, launchDoor := r.launchDoor, receiveDoor := r.receiveDoor }
  valves : ∀ v ∈ s.valves, v.station = x.num → ∀ code, r.position v.role = some code → s.roleValve x.num v.role = some v →
    (t.valve v.num).map (fun y => (y.pendingReport, y.debounced)) =
      some (some code, if v.pendingReport = some code then code.debounced else v.debounced)
  detectors : ∀ d ∈ s.detectors, d.station = x.num → (d.kind = .mainline → d.num ∈ s.index) → item ≠ .rearm d.num →
    (t.detector d.num).map Detector.state = some (d.afterReport (r.shown d.slot).1 none).state
  rest : t.clock = s.clock ∧ t.port = s.port ∧ t.lineTrip = s.lineTrip ∧ t.due = s.due

theorem TablesRise.hearing {s : State} (hrise : TablesRise s) {k : Nat} {x : Station} (hx : s.station k = some x) :
    TablesRise (s.hearing k x) := by
  cases hproven : x.link.proven with
  | true =>
    rw [← State.hearing_of_proven hrise hx hproven]
    exact (SameLine.of_runs (.updLink s ..)).tablesRise hrise
  | false =>
    rw [← State.hearing_of_unproven hrise hx hproven]
    exact (SameLine.of_runs ((Runs.updLink s ..).trans (.updLink ..))).tablesRise hrise

theorem State.reportTaken {s : State} (hrise : TablesRise s) {k : Nat} {x : Station} (hx : s.station k = some x) {r : Report}
    (hmatch : s.listsMatch k r = true) (item : Carried) :
    ReportTaken s (((s.freeLink.hearing k x).staged k r).commandReply item r.reply) x item r := by
  obtain rfl := State.station_num hx
  have hheard : (s.freeLink.hearing x.num x).station x.num ≠ none := fun hnone => by
    have hlink := State.link_hearing (s := s.freeLink) (k := x.num) (x := x) hx
    rw [hnone] at hlink
    cases hlink
  have hfree : TablesRise s.freeLink := (SameLine.of_runs (.freeLink s)).tablesRise hrise
  have hriseHeard := hfree.hearing (k := x.num) hx
  have hreach := (ReportReaches.staged (s.freeLink.hearing x.num x) x.num r).trans (.commandReply _ item r.reply)
  refine ⟨?_, ?_, fun v hv _ code hcode hrole => ?_, fun d hd hstation hindex hitem => ?_, ?_⟩
  · rw [hreach]
    rfl
  · rw [(LinksStand.commandReply ..).links]
    have hpositioned := State.link_positioned (s := s.freeLink) (k := x.num) (x := x) hx r
    obtain ⟨y, hy, hyx⟩ := Option.map_eq_some_iff.1 hpositioned
    rw [State.staged, State.link_updLink hy, hyx]
    rfl
  · have hsite := (ValvesStand.commandReply ((s.freeLink.hearing x.num x).staged x.num r) item r.reply).valve v.num
    rw [State.site_staged hriseHeard hheard hmatch hv hrole hcode] at hsite
    obtain ⟨y, hy, hyv⟩ := Option.map_eq_some_iff.1 hsite
    rw [hy, Option.map_some]
    have hpending : y.pendingReport = some code :=
      (congrArg Valve.pendingReport hyv : y.site.pendingReport = (v.site.afterCode code).pendingReport)
    have hdebounced : y.debounced = if v.pendingReport = some code then code.debounced else v.debounced :=
      (congrArg Valve.debounced hyv : y.site.debounced = (v.site.afterCode code).debounced)
    rw [hpending, hdebounced]
  · have hstated := State.stated_commandReply ((s.freeLink.hearing x.num x).staged x.num r) r.reply hitem
    rw [State.stated_staged hriseHeard r hd hstation hindex] at hstated
    obtain ⟨e, he, hed⟩ := Option.map_eq_some_iff.1 hstated
    have hstate : e.state = (d.stated.reads (r.shown d.slot).1).state :=
      (congrArg Detector.state hed : e.stated.state = (d.stated.reads (r.shown d.slot).1).state)
    rw [he, Option.map_some, hstate, ← Detector.stated_afterReport d _ none]
    rfl
  · rw [hreach]
    exact ⟨rfl, rfl, rfl, rfl⟩

/-- The stages of a report as the obligation spells them out, each over a state already so spelt (R156). -/
theorem State.staged_eq {s heard measured detected positioned flagged : State} {x : Station} {r : Report}
    (hheard : heard = s.freeLink.hearing x.num x) (hx : s.station x.num = some x)
    (hmeasured : measured = heard.reportMeter x.num r)
    (hdetected : detected = ReportReading.detectors (fun d => r.shown d.slot) x.num measured)
    (hpositioned : positioned = r.valves.foldl (s.valveEntry x.num) detected)
    (hflagged : flagged = { positioned with stations := positioned.stations.map fun y => if y.num = x.num then
      { y with
        link := { y.link with remote := r.remote, launchDoor := r.launchDoor, receiveDoor := r.receiveDoor }
        changed := y.changed || decide
          ((x.link.remote, x.link.launchDoor, x.link.receiveDoor) ≠ (r.remote, r.launchDoor, r.receiveDoor)) } else y }) :
    (s.freeLink.hearing x.num x).staged x.num r = flagged := by
  have hstation : heard.station x.num ≠ none := fun hnone => by
    have hlink := State.link_hearing (s := s.freeLink) (k := x.num) (x := x) hx
    rw [← hheard, hnone] at hlink
    cases hlink
  have hstages : (heard.reportMeter x.num r).detectorStage x.num r.shown = detected := by
    rw [hdetected, hmeasured, ReportReading.detectors_eq]
  have hvalves : detected.valveStage x.num r = positioned := by
    have hline : SameLine heard detected := hstages ▸ SameLine.of_runs (.reportStages r hstation)
    rw [State.valveStage_eq hline, hpositioned, hheard]
    rfl
  have hlink := State.link_positioned (s := s.freeLink) (k := x.num) (x := x) hx r
  rw [← hheard, hstages, hvalves] at hlink
  rw [State.staged, ← hheard, hstages, hvalves, State.flagged_eq hlink, hflagged]

/-- Settles O48: the stages of a report in their order, and the valve stage and the replies by themselves. -/
theorem acceptedReportIsProcessed : Obligations.AcceptedReportIsProcessed := by
  unfold Obligations.AcceptedReportIsProcessed
  refine ⟨fun s p x frame r hrise hslot hfate hx hwhole hjudge => ?_, fun s v y c hrise hy hc => ?_, fun s d x hx => ?_⟩
  · have hexec := State.receive_of_awaited hslot hfate hwhole
    have hfree : TablesRise s.freeLink := (SameLine.of_runs (.freeLink s)).tablesRise hrise
    have hnum := State.station_num hx
    rw [← hnum] at hx hexec
    refine ⟨fun hmatch => ?_, fun hmatch hproven => ?_⟩
    · rw [State.judged_of_match (s := s.freeLink) hfree hx hjudge hmatch] at hexec
      have htaken := State.reportTaken hrise hx hmatch p.item
      refine ⟨_, by rw [exec_report, execReport, hexec], htaken.link, htaken.station, htaken.valves,
        fun d hd hstation hindex _ hitem => htaken.detectors d hd hstation hindex hitem, htaken.rest.1, htaken.rest.2.1,
        htaken.rest.2.2.1, htaken.rest.2.2.2, ?_⟩
      intro heard measured detected positioned flagged
      have hmeasured : measured = heard.reportMeter x.num r := rfl
      have hpositioned : positioned = r.valves.foldl (s.valveEntry x.num) detected := by
        refine congrArg (fun f => List.foldl f detected r.valves) (funext fun u => funext fun e => ?_)
        unfold State.valveEntry
        cases s.roleValve x.num e.1 <;> rfl
      rw [State.staged_eq (heard := heard) (flagged := flagged) rfl hx hmeasured rfl hpositioned rfl]
    · rw [State.judged_of_mismatch (s := s.freeLink) hx hjudge hmatch hproven] at hexec
      have hreach := (ReportReaches.commandReply s.freeLink p.item .none).trans (.enterOut _ x.num .mismatch)
      have hplaces := (RecordsKeepPlace.commandReply_none s.freeLink p.item).trans (.enterOut _ x.num .mismatch)
      have hlink : ((s.freeLink.commandReply p.item .none).station x.num).map Station.link = some x.link := by
        rw [(LinksStand.commandReply s.freeLink p.item .none).links]
        exact congrArg (Option.map Station.link) hx
      refine ⟨_, by rw [exec_report, execReport, hexec], ?_, State.link_enterOut hlink .mismatch, hplaces.train,
        hplaces.pigPos, ?_, ?_⟩
      all_goals rw [hreach]; rfl
  · obtain rfl := State.valve_num hy
    intro standsAt ends becomes accepted reply
    have hat : ∀ d, standsAt d ↔ d.at c.target = true := fun d => by
      rw [Debounced.at_eq, decide_eq_true_eq]
    refine ⟨fun code horigin hphase hpending hchange => ?_, State.commandReply_uncarried hy hc, fun hcarried horigin => ?_,
      fun x p hcarried horigin hx hstep hnot hfault => ?_⟩
    · rw [State.command_valvePart hy hc horigin hphase hpending hchange]
      have hfault : code.debounced = .fault ↔ code = .fault := by cases code <;> simp [PositionCode.debounced]
      by_cases hstands : standsAt code.debounced
      · rw [if_pos hstands, strokeEnds_of_at ((hat _).1 hstands)]
        rfl
      · by_cases hcode : code = .fault
        · rw [if_neg hstands, if_pos hcode, hfault.2 hcode, strokeEnds_of_fault]
          rfl
        · rw [if_neg hstands, if_neg hcode, strokeEnds_of_moving (fun h => hstands ((hat _).2 h)) (fun h => hcode (hfault.1 h))]
          rfl
    · obtain ⟨hdone, hfaulted, htravels, hrefused, hnone, hmarked⟩ := State.valveReplies_host hy hc hcarried horigin
      refine ⟨fun h => hdone ((hat _).1 h), hfaulted, fun h hfault => ?_, hrefused, hnone, hmarked .lapsed,
        hmarked .lineTripped⟩
      exact (htravels (fun h' => h ((hat _).2 h')) hfault).trans (State.acceptCommand_host s y horigin)
    · exact State.slotOf_accepted_sequence hy hc hcarried horigin hx hstep (fun h => hnot ((hat _).2 h)) hfault
  · intro reply becomes
    refine ⟨fun hout a => State.rearmReply_of_out hx (fun h => ?_) a, fun hstate hin => ⟨?_, fun a ha => ?_,
      s.rearmReply_of_waiting d (.inl rfl), s.rearmReply_of_waiting d (.inr rfl)⟩⟩
    · obtain hne | hnot := hout
      · exact hne h.1
      · exact Bool.false_ne_true (hnot.symm.trans h.2)
    · exact State.rearmReplies (r := .accepted) hx hstate hin ⟨by decide, by decide⟩
    · simp only [List.mem_cons, List.not_mem_nil, or_false] at ha
      obtain rfl | rfl := ha
      · exact State.rearmReplies (r := .refusedFault) hx hstate hin ⟨by decide, by decide⟩
      · exact State.rearmReplies (r := .unknownTarget) hx hstate hin ⟨by decide, by decide⟩

end Sys2Proof.Machine
end

section
/-! SUPPORT. What a fix leaves of its record and of the train (R24, R68, R69, R82, R83, R88), whatever it is made from. -/

namespace Sys2Proof.Machine

/-! ### The fixed record -/

/-- A fix makes the same of a record on the same line. -/
theorem SameLine.fixed {s t : State} (h : SameLine s t) : t.fixed = s.fixed := by
  have hclock : t.clock = s.clock := by rw [h.rest]
  have hpassed : t.passedDestination = s.passedDestination := by
    funext p x
    rw [State.passedDestination, State.passedDestination, h.stationPos]
  funext p e x y
  simp only [State.fixed, State.fixFlags, hclock, hpassed, h.lineEnd]

theorem SameLine.fixFlags {s t : State} (h : SameLine s t) : t.fixFlags = s.fixFlags := by
  funext p early moved x
  simp only [State.fixFlags, State.passedDestination, h.stationPos, h.lineEnd]

/-- No detector's station is blind. -/
def State.allSeen (s : State) : Prop := ∀ d ∈ s.detectors, s.stationBlind d.station = false

theorem State.allSeen_of {s t : State} (h : s.allSeen) (hline : SameLine s t) (hlinks : LinksStand s t) : t.allSeen :=
  fun d hd => by
    have hmem : d.committed ∈ s.detectors.map Detector.committed := hline.detectors ▸ List.mem_map_of_mem hd
    obtain ⟨e, he, hed⟩ := List.mem_map.1 hmem
    have hstation : d.station = e.station := (congrArg Detector.station hed : e.committed.station = d.committed.station).symm
    have hlink : t.linkStateOf d.station = s.linkStateOf d.station := by
      have hmap := congrArg (Option.map LinkRecord.state) (hlinks.links d.station)
      simp only [Option.map_map] at hmap
      exact congrArg (Option.getD · LinkState.out) hmap
    have hseen := h e he
    rw [← hstation] at hseen
    rwa [State.stationBlind, hlink]

/-- The fixed record is in its place with the fix's fields; its pointer is the fix's where no station is blind, and it may
have been struck (R82, R83). -/
theorem State.pig_applyFix {s : State} {t : Nat} {p : Pig} (hp : s.pig t = some p) (ht : t ∈ s.train) (x : Nat)
    (e : Evidence) : ∃ pointer overdue struck, (s.applyFix t x e).pig t = some { s.fixed p e x (s.clampFix t x) with
      pointer := pointer, overdue := overdue
      flags := { s.fixFlags p e.early (decide (s.clampFix t x ≠ x)) (s.clampFix t x) with
        valveStrike := p.flags.valveStrike || struck } } ∧ (s.allSeen → pointer = e.pointer) := by
  have hplaced := State.pig_placed hp x e
  have hline := SameLine.modPig s t (fun p => s.fixed p e x (s.clampFix t x)) fun p ht => (s.fixed_tag p e x _).trans ht
  have hdecided : DecidedIn (s.placed t x e) ((s.placed t x e).handOn t) t (s.fixed p e x (s.clampFix t x)) :=
    { line := SameLine.of_runs (.handOn ..)
      sites := fun k => StationKept.engineKeeps.handOn ..
      train := (RecordsKeepPlace.handOn ..).train
      record := (State.handOn_struck (s.placed t x e) t).of_some hplaced }
  obtain ⟨q, hq, hstruck⟩ := hdecided.record
  obtain ⟨r, hr, hsettled⟩ := (State.settle_settled ((s.placed t x e).handOn t) t).of_some hq
  have hto : (s.fixed p e x (s.clampFix t x)).Settled r := Pig.settled_letsStrike.trans hstruck.1 hsettled
  refine ⟨r.pointer, r.overdue, r.flags.valveStrike, ?_, fun hseen => ?_⟩
  · have hstrike : (p.flags.valveStrike || r.flags.valveStrike) = r.flags.valveStrike := Bool.or_eq_right_iff_imp.2 hto.2.1
    have hsame := hto.same fun h => by cases h
    rw [State.applyFix_eq, hr, hstrike]
    rw [hto.2.2 rfl] at hsame
    exact congrArg some hsame
  · obtain ⟨r', hr', hpointer, -⟩ := hdecided.seen ht rfl (State.allSeen_of hseen hline (.of_stations rfl))
    obtain rfl : r = r' := Option.some.inj (hr.symm.trans hr')
    exact hpointer

/-! ### A record that joins by a fix -/

/-- What a trip does before its fix: it moves no record, and leaves the line, the train and the link records. -/
structure FixBase (s b : State) : Prop where
  line : SameLine s b
  links : LinksStand s b
  reaches : Reaches s b
  pigs : ∀ u, b.pigPos u = s.pigPos u

theorem FixBase.refl (s : State) : FixBase s s := ⟨.refl s, .of_stations rfl, rfl, fun _ => rfl⟩

theorem FixBase.train {s b : State} (h : FixBase s b) : b.train = s.train := by rw [h.reaches]

theorem FixBase.clampFix {s b : State} (h : FixBase s b) : b.clampFix = s.clampFix := by
  have hpos : b.pigPos = s.pigPos := funext h.pigs
  funext t x
  rw [State.clampFix, State.clampFix, h.train, hpos, h.line.lineEnd]

/-- A record of the train is fixed in its place in it (R82, R83). -/
theorem FixBase.pig_applyFix {s b : State} (h : FixBase s b) {t : Nat} {y : Pig} (hy : b.pig t = some y)
    (ht : t ∈ s.train) (x : Nat) (e : Evidence) :
    ∃ pointer overdue struck, (b.applyFix t x e).pig t = some { s.fixed y e x (s.clampFix t x) with
      pointer := pointer, overdue := overdue
      flags := { s.fixFlags y e.early (decide (s.clampFix t x ≠ x)) (s.clampFix t x) with
        valveStrike := y.flags.valveStrike || struck } } ∧ (s.allSeen → pointer = e.pointer) := by
  obtain ⟨pointer, overdue, struck, hpig, hseen⟩ := State.pig_applyFix hy (h.train ▸ ht) x e
  rw [h.clampFix, h.line.fixed, h.line.fixFlags] at hpig
  exact ⟨pointer, overdue, struck, hpig, fun hall => hseen (State.allSeen_of hall h.line h.links)⟩

/-- A record that was in neither the train nor a receiver joins by a fix at its entry position, or at line end (R24,
R34, R85). -/
theorem FixBase.joinedByFix {s b : State} (h : FixBase s b) {p : Pig} (hp : b.pig p.tag = some p)
    (hout : p.tag ∉ s.train) (horder : TrainInOrder s) (entry : Nat) {e : Evidence} (hearly : e.early = false) :
    JoinedByFix s ((b.joinTrain p.tag entry).applyFix p.tag entry e) p entry e := by
  have hjoined : SameLine b (b.joinTrain p.tag entry) := .joinTrain ..
  have hmembers : b.membersAhead entry = s.membersAhead entry ∧ b.membersBehind entry = s.membersBehind entry := by
    simp only [State.membersAhead, State.membersBehind, h.train, h.pigs, and_self]
  have hclamp : (b.joinTrain p.tag entry).clampFix p.tag entry = min entry s.lineEnd := by
    have hpos : (b.joinTrain p.tag entry).pigPos = (s.joinTrain p.tag entry).pigPos := funext h.pigs
    have hend : (b.joinTrain p.tag entry).lineEnd = (s.joinTrain p.tag entry).lineEnd := h.line.lineEnd
    rw [← horder.clampFix_joined entry hout, State.clampFix, State.clampFix, State.joinTrain_train, State.joinTrain_train,
      hmembers.1, hmembers.2, hpos, hend]
  have hmem : p.tag ∈ (b.joinTrain p.tag entry).train := by
    rw [State.joinTrain_train]
    exact List.mem_append_right _ List.mem_cons_self
  obtain ⟨pointer, overdue, struck, hpig, hseen⟩ := State.pig_applyFix (s := b.joinTrain p.tag entry) hp hmem entry e
  refine ⟨⟨pointer, overdue, struck, ?_, fun hall => hseen ?_⟩, ?_, ?_, fun u hu => ?_, ?_⟩
  · rw [hpig, hclamp, (h.line.trans hjoined).fixed, (h.line.trans hjoined).fixFlags, hearly]
    rfl
  · exact State.allSeen_of (State.allSeen_of hall h.line h.links) hjoined (.of_stations rfl)
  · rw [State.train_applyFix, State.joinTrain_train, hmembers.1, hmembers.2]
  · rw [(Reaches.applyFix ..).revision, ← h.reaches.revision]
    rfl
  · rw [State.othersStand_applyFix _ _ _ _ u hu, ← h.pigs u]
    rfl
  · exact ((h.reaches.spreads.trans (.joinTrain ..)).trans (.applyFix ..)).besides

end Sys2Proof.Machine
end

section
/-! SUPPORT. What the engine keeps behind a trip: the note causes that are set, and of a detector the record it matched last
(R72, R182). -/

namespace Sys2Proof.Machine

/-! ### Note causes -/

/-- Every note cause set in s is set in t. -/
structure NotesStand (s t : State) : Prop where
  stands : ∀ c, s.noteSet c = true → t.noteSet c = true

namespace NotesStand

theorem trans {s t u : State} (h : NotesStand s t) (g : NotesStand t u) : NotesStand s u :=
  ⟨fun c hc => g.stands c (h.stands c hc)⟩

theorem of_notes {s t : State} (h : t.attention.notes = s.attention.notes) : NotesStand s t :=
  ⟨fun c hc => by rwa [State.noteSet, h]⟩

theorem note (s : State) (c : NoteCause) : NotesStand s (s.note c) := by
  refine ⟨fun a ha => ?_⟩
  simp only [State.noteSet, State.note, BitVec.getLsbD_or] at ha ⊢
  rw [ha]
  rfl

theorem updSlot (s : State) (k : Nat) (f : Slot → Slot) : NotesStand s (s.updSlot k f) := by
  unfold State.updSlot
  split
  · exact of_notes rfl
  · rw [State.touchIf_eq]
    exact of_notes rfl

theorem updValve (s : State) (v : Nat) (f : Valve → Valve) : NotesStand s (s.updValve v f) := by
  unfold State.updValve
  split
  · exact of_notes rfl
  · rw [State.touchIf_eq]
    exact of_notes rfl

theorem updDetector (s : State) (d : Nat) (f : Detector → Detector) : NotesStand s (s.updDetector d f) := by
  unfold State.updDetector
  split
  · exact of_notes rfl
  · rw [State.touchIf_eq]
    exact of_notes rfl

theorem strikeRecords (s : State) (l : List Nat) : NotesStand s (s.strikeRecords l) := by
  have hsame : (s.strikeRecords l).attention = s.attention := by
    unfold State.strikeRecords
    induction l generalizing s with
    | nil => rfl
    | cons a l ih =>
      rw [List.foldl_cons, ih]
      rfl
  exact of_notes (by rw [hsame])

theorem reevalValve (s : State) (v : Nat) : NotesStand s (s.reevalValve v) := by
  unfold State.reevalValve
  split
  · exact of_notes rfl
  · rename_i y _
    split
    · obtain heq | ⟨tags, heq⟩ := s.applyHold_cases y (s.holdersNow y)
      · rw [heq]
        exact updValve ..
      · rw [heq]
        exact ((updValve ..).trans (strikeRecords ..)).trans (of_notes rfl)
    · exact of_notes rfl

theorem rearmTest (s : State) (d : Nat) : NotesStand s (s.rearmTest d) := by
  unfold State.rearmTest
  split
  · exact of_notes rfl
  · split
    · exact updDetector ..
    · exact of_notes rfl

theorem offerStep (s : State) (k : Nat) (p : SeqStep) : NotesStand s (s.offerStep k p).1 := by
  unfold State.offerStep
  split
  · exact of_notes rfl
  · split
    · exact of_notes rfl
    · rename_i a _ _ v _
      obtain ⟨o, -, heq⟩ | ⟨-, heq⟩ := s.offer_cases v a.2
      · rw [heq]
        exact of_notes rfl
      · rw [heq]
        exact of_notes rfl

theorem engineKeeps : EngineKeeps NotesStand where
  refl _ := of_notes rfl
  trans := trans
  reevalValve := reevalValve
  rearmTest := rearmTest
  offerStep := offerStep
  endCommand _ _ _ := of_notes rfl
  updSlot := updSlot
  storeClosing _ _ _ := of_notes rfl
  writeFault _ _ _ _ := of_notes rfl
  giveUp _ _ _ _ _ := of_notes rfl
  raise _ _ := of_notes rfl
  note := note

theorem applyFix (s : State) (t x : Nat) (e : Evidence) : NotesStand s (s.applyFix t x e) :=
  ((of_notes rfl : NotesStand s (s.placed t x e)).trans (engineKeeps.handOn ..)).trans
    (engineKeeps.settle (fun _ _ => of_notes rfl) (fun _ _ => of_notes rfl) ..)

end NotesStand

/-! ### Detectors -/

theorem OnlyJoin.applyFix (s : State) (t x : Nat) (e : Evidence) : OnlyJoin s (s.applyFix t x e) :=
  ((of_detectors rfl : OnlyJoin s (s.placed t x e)).trans (engineKeeps.handOn ..)).trans
    (engineKeeps.settle (fun _ _ => of_detectors rfl) (fun _ _ => of_detectors rfl) ..)

/-- What a match writes of a detector (R72, R77, R100). -/
def Detector.matching (x : Detector) : Option Nat × Nat × Bool := (x.lastMatched, x.spurious, x.suspect)

theorem OnlyJoin.matching {s t : State} (h : OnlyJoin s t) (n : Nat) :
    (t.detector n).map Detector.matching = (s.detector n).map Detector.matching := by
  obtain ⟨joined, hjoined⟩ := h
  rw [State.detector, hjoined, List.find?_map, Option.map_map]
  rfl

end Sys2Proof.Machine
end

section
/-! SUPPORT. Trips at a MAINLINE detector (R72 to R77): a match, a recovery and a spurious trip. -/

namespace Sys2Proof.Machine

/-! ### Before the fix -/

/-- The state a match or a recovery fixes the record in: the detector's reference written, the note raised (R77). -/
def State.matchedBefore (s : State) (n tag : Nat) : State := (s.matchedAt n tag).note .passage

section

variable {s : State} {n : Nat} {d : Detector} (hd : s.detector n = some d)

include hd

theorem State.matchedBefore_base (tag : Nat) : FixBase s (s.matchedBefore n tag) ∧
    (s.matchedBefore n tag).pigs = s.pigs := by
  have hpigs : (s.matchedBefore n tag).pigs = s.pigs := by
    simp only [State.matchedBefore, State.matchedAt, State.updDetector_of_some _ hd]
    rfl
  refine ⟨⟨SameLine.of_runs ((Runs.matchedAt ..).trans (.note ..)), ?_, (Reaches.updDetector ..).trans (.note ..), fun u => ?_⟩,
    hpigs⟩
  · exact (LinksStand.updDetector ..).trans (.of_stations rfl)
  · simp only [State.pigPos, State.pig, hpigs]

theorem State.matching_matchedBefore (tag : Nat) :
    ((s.matchedBefore n tag).detector n).map Detector.matching = some (some tag, 0, false) := by
  have hmod := State.detector_modDetector s n n (fun y => { y with lastMatched := some tag, spurious := 0, suspect := false })
    fun _ => rfl
  have hread : (s.matchedBefore n tag).detector n = (s.detector n).map fun y =>
      if y.num = n then { y with lastMatched := some tag, spurious := 0, suspect := false } else y := by
    rw [← hmod]
    simp only [State.matchedBefore, State.matchedAt, State.detector, State.note, State.updDetector_detectors, State.modDetector]
  rw [hread, hd, Option.map_some, if_pos (State.detector_num hd)]
  rfl

end

theorem State.noteSet_matchedBefore (s : State) (n tag : Nat) : (s.matchedBefore n tag).noteSet .passage = true :=
  State.noteSet_note ..

/-! ### A match -/

theorem State.mainlineTrip_of_match {s : State} {n age : Nat} {d : Detector} {p : Pig} (hd : s.detector n = some d)
    (hdup : s.isDuplicate d = false) (hexpected : s.expected d = some p) {q : Nat} (hq : q = s.tripEstimate d p.position age)
    (hin : s.inWindow d p q = true ∨ s.inEarlyBand d p q = true) :
    s.mainlineTrip n age = (s.matchTrip d p q (!s.inWindow d p q), some p.tag) := by
  simp only [State.mainlineTrip, hd, hdup, hexpected, ← hq, Bool.false_eq_true, if_false]
  cases hwindow : s.inWindow d p q with
  | true => rfl
  | false =>
    rw [if_neg Bool.false_ne_true, if_pos (hin.resolve_left (by rw [hwindow]; exact Bool.false_ne_true))]
    rfl

/-- The base of a match's fix: the matched record with its learned slip (R77, R89). -/
theorem State.learnedBefore_base {s : State} {n : Nat} {d : Detector} (hd : s.detector n = some d) {p : Pig}
    (hp : s.pig p.tag = some p) (slip : Nat) :
    let b := (s.matchedBefore n p.tag).modPig p.tag fun y => { y with slip := slip }
    FixBase s b ∧ b.pig p.tag = some { p with slip := slip } := by
  intro b
  obtain ⟨hbase, hpigs⟩ := State.matchedBefore_base hd p.tag
  have hlearned : ∀ u, b.pigPos u = (s.matchedBefore n p.tag).pigPos u := fun u => by
    have hpos : ∀ y : Pig, (if y.tag = p.tag then { y with slip := slip } else y).position = y.position := fun y => by
      split <;> rfl
    have hread := State.pig_modPig (s.matchedBefore n p.tag) p.tag u (fun y => { y with slip := slip }) fun _ => rfl
    rw [State.pigPos, State.pigPos, hread, Option.map_map]
    exact congrArg (fun f => Option.getD (Option.map f _) 0) (funext hpos)
  refine ⟨⟨hbase.line.trans ?_, hbase.links.trans (.of_stations rfl), hbase.reaches.trans (.modPig ..), fun u => ?_⟩, ?_⟩
  · refine .modPig _ _ _ ?_
    exact fun _ h => h
  · exact (hlearned u).trans (hbase.pigs u)
  · refine State.pig_modPig_self (f := fun y => { y with slip := slip }) (fun _ h => h) ?_
    rwa [State.pig, hpigs]

/-- What a match leaves: the record fixed with its learned slip, the detector's reference and the note (R77, R82). -/
theorem State.matchTrip_places {s : State} {n : Nat} {d : Detector} (hd : s.detector n = some d) {p : Pig}
    (hp : s.pig p.tag = some p) (ht : p.tag ∈ s.train) (q : Nat) (early : Bool) :
    let t := s.matchTrip d p q early
    let x := d.position + (p.position - q)
    let place := s.clampFix p.tag x
    (∃ pointer overdue struck, t.pig p.tag = some
      { s.fixed { p with slip := s.slipAfter p d q } (s.passageEvidence d early) x place with
        pointer := pointer, overdue := overdue
        flags := { s.fixFlags p early (decide (place ≠ x)) place with valveStrike := p.flags.valveStrike || struck } } ∧
      (s.allSeen → pointer = (s.indexOf n).bind s.indexAfter)) ∧
    (t.detector n).map Detector.matching = some (some p.tag, 0, false) ∧ t.noteSet .passage = true ∧ t.train = s.train ∧
      OthersStand s t p.tag ∧ SameBesidesRecords s t := by
  obtain rfl := State.detector_num hd
  intro t x place
  obtain ⟨hbase, hpig⟩ := State.learnedBefore_base hd hp (s.slipAfter p d q)
  have ht' : t = (((s.matchedBefore d.num p.tag).modPig p.tag fun y => { y with slip := s.slipAfter p d q }).applyFix p.tag x
    (s.passageEvidence d early)) := rfl
  rw [ht']
  refine ⟨hbase.pig_applyFix hpig ht x (s.passageEvidence d early), ?_, ?_, ?_, fun u hu => ?_, ?_⟩
  · rw [(OnlyJoin.applyFix ..).matching]
    exact State.matching_matchedBefore hd p.tag
  · exact (NotesStand.applyFix ..).stands _ (State.noteSet_matchedBefore s d.num p.tag)
  · rw [State.train_applyFix, hbase.train]
  · rw [State.othersStand_applyFix _ _ _ _ u hu, hbase.pigs]
  · exact (hbase.reaches.spreads.trans (.applyFix ..)).besides

end Sys2Proof.Machine
end

section
/-! SUPPORT. A trip no expected record takes (R74, R75): a recovery from the Lost Set, or a spurious trip (R100). -/

namespace Sys2Proof.Machine

theorem State.mainlineTrip_of_no_match {s : State} {n : Nat} (age : Nat) {d : Detector} (hd : s.detector n = some d)
    (hdup : s.isDuplicate d = false) (hno : ∀ p, s.expected d = some p →
      s.inWindow d p (s.tripEstimate d p.position age) = false ∧ s.inEarlyBand d p (s.tripEstimate d p.position age) = false) :
    s.mainlineTrip n age = s.offerLost d age := by
  simp only [State.mainlineTrip, hd, hdup, Bool.false_eq_true, if_false]
  cases hexpected : s.expected d with
  | none => rfl
  | some p =>
    obtain ⟨hwindow, hearly⟩ := hno p hexpected
    simp only [hwindow, hearly, Bool.false_eq_true, if_false]

/-! ### A recovery -/

/-- A LOST record whose frozen position a trip may recover (R74). -/
def State.inReach (s : State) (d : Detector) (p : Pig) : Prop :=
  p.state = .lost ∧ p.position ≤ d.position + s.params.lostHalfWidth

theorem State.recoverable_eq (s : State) (d : Detector) : s.recoverable d =
    (s.lostSet.filter fun p => decide (p.position ≤ d.position + s.params.lostHalfWidth)).foldl (better Pig.position) none := by
  rw [List.foldl_filter]
  unfold State.recoverable
  refine congrArg (fun f => List.foldl f none s.lostSet) (funext fun best => funext fun p => ?_)
  by_cases hfar : d.position + s.params.lostHalfWidth < p.position
  · rw [if_pos hfar, if_neg (by simpa using hfar)]
  · rw [if_neg hfar, if_pos (by simpa using hfar)]
    cases best <;> rfl

theorem State.mem_reach {s : State} {d : Detector} {p : Pig} :
    p ∈ (s.lostSet.filter fun p => decide (p.position ≤ d.position + s.params.lostHalfWidth)) ↔ p ∈ s.pigs ∧ s.inReach d p := by
  simp only [State.lostSet, State.inReach, List.mem_filter, beq_iff_eq, decide_eq_true_eq, and_assoc]

theorem State.recoverable_of_first {s : State} (hrise : TablesRise s) {d : Detector} {p : Pig} (hp : p ∈ s.pigs)
    (hreach : s.inReach d p) (hfirst : ∀ q ∈ s.pigs, s.inReach d q →
      q.position < p.position ∨ (q.position = p.position ∧ p.tag ≤ q.tag)) : s.recoverable d = some p := by
  rw [State.recoverable_eq]
  refine foldl_better Pig.position p _ none (fun b hb => by cases hb) ?_ (State.mem_reach.2 ⟨hp, hreach⟩) fun q hq => ?_
  · exact hrise.pigs_pairwise.sublist (List.filter_sublist.trans List.filter_sublist)
  · obtain ⟨hmem, hq⟩ := State.mem_reach.1 hq
    exact hfirst q hmem hq

theorem State.recoverable_of_none {s : State} {d : Detector} (hnone : ∀ q ∈ s.pigs, ¬ s.inReach d q) :
    s.recoverable d = none := by
  have hempty : (s.lostSet.filter fun p => decide (p.position ≤ d.position + s.params.lostHalfWidth)) = [] :=
    List.eq_nil_iff_forall_not_mem.2 fun q hq => hnone q (State.mem_reach.1 hq).1 (State.mem_reach.1 hq).2
  rw [State.recoverable_eq, hempty]
  rfl

/-- What a recovery leaves: the LOST record in the train at its entry, the detector's reference and the note (R77, R85). -/
theorem State.recover_places {s : State} (hrise : TablesRise s) (horder : TrainInOrder s) {n age : Nat} {d : Detector}
    (hd : s.detector n = some d) {p : Pig} (hp : p ∈ s.pigs) (hlost : p.state = .lost) :
    let t := s.recover d p age
    JoinedByFix s t p (d.position + (p.position - s.tripEstimate d p.position age)) (s.passageEvidence d false) ∧
      (t.detector n).map Detector.matching = some (some p.tag, 0, false) ∧ t.noteSet .passage = true := by
  obtain rfl := State.detector_num hd
  intro t
  obtain ⟨hbase, hpigs⟩ := State.matchedBefore_base hd p.tag
  have hpig := hrise.pig_of_mem hp
  have hout : p.tag ∉ s.train := horder.not_mem hpig (by simp [Pig.tracked, hlost])
  have ht : t = ((s.matchedBefore d.num p.tag).joinTrain p.tag (d.position + (p.position - s.tripEstimate d p.position age))).applyFix
    p.tag (d.position + (p.position - s.tripEstimate d p.position age)) (s.passageEvidence d false) := rfl
  rw [ht]
  refine ⟨hbase.joinedByFix (by rwa [State.pig, hpigs]) hout horder _ rfl, ?_, ?_⟩
  · rw [(OnlyJoin.applyFix ..).matching]
    exact State.matching_matchedBefore hd p.tag
  · exact (NotesStand.applyFix ..).stands _ (State.noteSet_matchedBefore s d.num p.tag)

/-! ### A spurious trip -/

/-- A spurious trip counts at the detector, and nothing else but the third's alert (R75, R100). -/
theorem State.spurious_eq {s : State} (hrise : TablesRise s) {n : Nat} {d : Detector} (hd : s.detector n = some d) :
    let count := min (d.spurious + 1) 3
    let suspect := d.suspect || decide (d.spurious = 2)
    let t := s.spurious n
    t = { s with
      detectors := s.detectors.map fun e => if e.num = n then { e with spurious := count, suspect := suspect } else e
      stations := if (d.spurious, d.suspect) = (count, suspect) then s.stations else (s.touch d.station).stations
      attention := t.attention } ∧
    t.attention = if suspect = true ∧ d.suspect = false then (s.raise .detectorSuspect).attention else s.attention := by
  intro count suspect t
  have hcounted : (s.updDetector n fun y => { y with spurious := min (y.spurious + 1) 3, suspect := suspect }) = { s with
      detectors := s.detectors.map fun e => if e.num = n then { e with spurious := count, suspect := suspect } else e
      stations := if (d.spurious, d.suspect) = (count, suspect) then s.stations else (s.touch d.station).stations } := by
    have htable : (s.detectors.map fun e =>
          if e.num = n then { e with spurious := min (e.spurious + 1) 3, suspect := suspect } else e) =
        s.detectors.map fun e => if e.num = n then { e with spurious := count, suspect := suspect } else e := by
      refine List.map_congr_left fun e he => ?_
      by_cases hn : e.num = n
      · obtain rfl : e = d := Option.some.inj ((hn ▸ hrise.detector_of_mem he).symm.trans hd)
        rfl
      · rw [if_neg hn, if_neg hn]
    have hwatched : (d.state, d.awaited, d.inRearmSet, d.spurious, d.suspect) ≠
        (d.state, d.awaited, d.inRearmSet, count, suspect) ↔ (d.spurious, d.suspect) ≠ (count, suspect) := by
      simp
    simp only [State.updDetector, hd, State.modDetector, htable]
    by_cases hsame : (d.spurious, d.suspect) = (count, suspect)
    · rw [if_pos hsame, State.touchIf, if_neg fun h => hwatched.1 (of_decide_eq_true h) hsame]
    · rw [if_neg hsame, State.touchIf, if_pos (decide_eq_true (hwatched.2 hsame))]
      rfl
  have ht : t = if suspect = true ∧ d.suspect = false then
      (s.updDetector n fun y => { y with spurious := min (y.spurious + 1) 3, suspect := suspect }).raise .detectorSuspect
    else s.updDetector n fun y => { y with spurious := min (y.spurious + 1) 3, suspect := suspect } := by
    simp only [t, State.spurious, hd]
    rfl
  rw [ht, hcounted]
  by_cases hraised : suspect = true ∧ d.suspect = false
  · simp only [if_pos hraised]
    exact ⟨rfl, rfl⟩
  · simp only [if_neg hraised]
    exact ⟨trivial, trivial⟩

end Sys2Proof.Machine
end

section
/-! SUPPORT. A record in a receiver, which nothing the engine does reaches (R38), and a slot that the change of a record
leaves as it is (R29). -/

namespace Sys2Proof.Machine

/-! ### A trapped record -/

/-- The record, while it is TRAPPED, is as it was: it has no hold interval by which a valve could strike it (R21, R122). -/
structure TrappedStands (u : Nat) (s t : State) : Prop where
  pig : ∀ p, s.pig u = some p → p.state = .trapped → t.pig u = some p

namespace TrappedStands

variable {u : Nat}

theorem of_pig {s t : State} (h : t.pig u = s.pig u) : TrappedStands u s t := ⟨fun _ hp _ => h.trans hp⟩

theorem of_pigs {s t : State} (h : t.pigs = s.pigs) : TrappedStands u s t := of_pig (by rw [State.pig, h, State.pig])

theorem trans {s t v : State} (h : TrappedStands u s t) (g : TrappedStands u t v) : TrappedStands u s v :=
  ⟨fun p hp hin => g.pig p (h.pig p hp hin) hin⟩

theorem reevalValve (s : State) (v : Nat) : TrappedStands u s (s.reevalValve v) := ⟨fun p hp hin => by
  have hnone : s.holdInterval p = none := by simp only [State.holdInterval, hin]
  exact (State.pig_reevalValve_of_none hp hnone v).trans hp⟩

theorem giveUp (s : State) (k : Nat) (o : SeqOutcome) (t : Nat) (h : s.givenUp k o = some t) :
    TrappedStands u s (s.recordAtEnd t) := ⟨fun p hp hin => by
  obtain ⟨q, hq, hstaged⟩ := State.staged_of_givenUp h
  have hne : u ≠ t := fun heq => by
    rw [heq, hq] at hp
    cases hp
    cases hstaged.symm.trans hin
  refine (State.pig_modPig_ne ?_ hne).trans hp
  exact fun _ h => h⟩

theorem engineKeeps : EngineKeeps (TrappedStands u) where
  refl _ := of_pigs rfl
  trans := trans
  reevalValve := reevalValve
  rearmTest s d := by
    unfold State.rearmTest
    split
    · exact of_pigs rfl
    · split
      · exact of_pigs (s.updDetector_pigs ..)
      · exact of_pigs rfl
  offerStep s k p := by
    unfold State.offerStep
    split
    · exact of_pigs rfl
    · split
      · exact of_pigs rfl
      · rename_i a _ _ v _
        obtain ⟨o, -, heq⟩ | ⟨-, heq⟩ := s.offer_cases v a.2
        · rw [heq]
          exact of_pigs rfl
        · rw [heq]
          exact of_pigs rfl
  endCommand _ _ _ := of_pigs rfl
  updSlot s k f := of_pigs (State.updSlot_pigs ..)
  storeClosing _ _ _ := of_pigs rfl
  writeFault _ _ _ _ := of_pigs rfl
  giveUp := giveUp
  raise _ _ := of_pigs rfl
  note _ _ := of_pigs rfl

end TrappedStands

/-! ### A slot that stands while a record's change is handed on -/

/-- A slot that no re-examination moves: of no receive and in no wait for a gate, or of a receive that is PAUSED with its
record TRAPPED (R132, R135, R136). -/
def Unmoved (k : Nat) (s : State) : Prop :=
  (s.slotOf k).state ≠ .waitHold ∧ (s.slotOf k).state ≠ .waitClearance ∧
    ((s.slotOf k).kind ≠ some .receive ∨ ∃ p, s.boundPig k = some p ∧ p.state = .trapped)

/-- A slot but for the closing records its follower watch stores (R138). -/
def Slot.unwatched (x : Slot) : Slot := { x with closing := [] }

theorem Slot.state_of_unwatched {x y : Slot} (h : x.unwatched = y.unwatched) : x.state = y.state :=
  (congrArg Slot.state h : x.unwatched.state = y.unwatched.state)

/-- The slot is as it was, but for what a follower watch stores (R138). -/
structure SlotStands (k : Nat) (s t : State) : Prop where
  slot : Unmoved k s → (t.slotOf k).unwatched = (s.slotOf k).unwatched ∧
    ((s.slotOf k).kind ≠ some .receive → t.slotOf k = s.slotOf k)
  trapped : ∀ u, TrappedStands u s t

theorem State.slotOf_modStation_ne (s : State) {k j : Nat} {f : Station → Station} (hf : ∀ x, (f x).num = x.num)
    (hj : j ≠ k) : (s.modStation k f).slotOf j = s.slotOf j := by
  rw [State.slotOf, State.station_modStation_ne s f hf hj, State.slotOf]

namespace SlotStands

variable {k : Nat}

theorem unmoved {s t : State} (h : SlotStands k s t) (hs : Unmoved k s) : Unmoved k t := by
  obtain ⟨hhold, hclear, hkind⟩ := hs
  obtain ⟨hslot, -⟩ := h.slot ⟨hhold, hclear, hkind⟩
  have hstate : (t.slotOf k).state = (s.slotOf k).state := Slot.state_of_unwatched hslot
  have hkinds : (t.slotOf k).kind = (s.slotOf k).kind :=
    (congrArg Slot.kind hslot : (t.slotOf k).unwatched.kind = (s.slotOf k).unwatched.kind)
  have hbound : (t.slotOf k).bound = (s.slotOf k).bound :=
    (congrArg Slot.bound hslot : (t.slotOf k).unwatched.bound = (s.slotOf k).unwatched.bound)
  refine ⟨hstate ▸ hhold, hstate ▸ hclear, hkind.imp (fun hno => hkinds ▸ hno) fun ⟨p, hp, hin⟩ => ⟨p, ?_, hin⟩⟩
  obtain ⟨u, hu, hpig⟩ := Option.bind_eq_some_iff.1 hp
  rw [State.boundPig, hbound, hu, Option.bind_some]
  exact (h.trapped u).pig p hpig hin

theorem trans {s t u : State} (h : SlotStands k s t) (g : SlotStands k t u) : SlotStands k s u where
  slot hs := by
    obtain ⟨hslot, hsame⟩ := h.slot hs
    obtain ⟨gslot, gsame⟩ := g.slot (h.unmoved hs)
    refine ⟨gslot.trans hslot, fun hkind => ?_⟩
    rw [gsame (by rw [hsame hkind]; exact hkind), hsame hkind]
  trapped w := (h.trapped w).trans (g.trapped w)

theorem of_same {s t : State} (hslot : t.slotOf k = s.slotOf k) (htrapped : ∀ u, TrappedStands u s t) : SlotStands k s t :=
  ⟨fun _ => ⟨by rw [hslot], fun _ => hslot⟩, htrapped⟩

theorem refl (s : State) : SlotStands k s s := of_same rfl fun _ => .of_pigs rfl

theorem foldl {α : Type} (f : State → α → State) (hf : ∀ s a, SlotStands k s (f s a)) (l : List α) (s : State) :
    SlotStands k s (l.foldl f s) := by
  induction l generalizing s with
  | nil => exact refl s
  | cons a l ih => exact (hf s a).trans (ih _)

theorem far {j : Nat} (hj : j ≠ k) : StationKeeps j (SlotStands k) where
  refl := refl
  trans := trans
  reevalStation s := of_same (s.slotOf_reevalStation j k) fun _ => TrappedStands.engineKeeps.reevalStation s j
  offerStep s p := of_same (s.slotOf_offerStep j p k) fun _ => TrappedStands.engineKeeps.offerStep s j p
  endCommand s v o _ _ := of_same (s.slotOf_endCommand v o k) fun _ => .of_pigs rfl
  updSlot s f := of_same (s.slotOf_updSlot_ne f hj.symm) fun _ => TrappedStands.engineKeeps.updSlot s j f
  storeClosing s l := by
    refine of_same (s.slotOf_modStation_ne ?_ hj.symm) fun _ => .of_pigs rfl
    exact fun _ => rfl
  writeFault s f b := by
    refine of_same (s.slotOf_modStation_ne ?_ hj.symm) fun _ => .of_pigs rfl
    exact fun _ => rfl
  raise s c := of_same rfl fun _ => .of_pigs rfl
  note s c := of_same rfl fun _ => .of_pigs rfl

/-! ### A re-examination of the station itself -/

theorem storeClosing (s : State) (l : List Nat) (hkind : (s.slotOf k).kind = some .receive) :
    SlotStands k s (s.modStation k fun x => { x with slot := { x.slot with closing := l } }) := by
  refine ⟨fun _ => ⟨?_, fun hno => absurd hkind hno⟩, fun _ => .of_pigs rfl⟩
  cases hx : s.station k with
  | none => rw [State.slotOf, hx] at hkind; cases hkind
  | some x =>
    have hstored := State.station_modStation_self (fun x : Station => { x with slot := { x.slot with closing := l } })
      (fun _ => rfl) hx
    rw [State.slotOf_of_some hstored, State.slotOf_of_some hx]
    rfl

/-- The follower watch of the station stores its closing records, and moves nothing (R138). -/
theorem followerWatch (s : State) : SlotStands k s (s.followerWatch k) := by
  unfold State.followerWatch
  split
  · rename_i hwatching
    have hkind : (s.slotOf k).kind = some .receive := by
      simp only [Slot.watching, Bool.and_eq_true, decide_eq_true_eq] at hwatching
      exact hwatching.1.1.1
    unfold State.followerLook
    simp only
    split
    · exact (storeClosing s _ hkind).trans (of_same rfl fun _ => .of_pigs rfl)
    · exact storeClosing s _ hkind
  · exact refl s

theorem near {s t : State} (h : Unmoved k s → SlotStands k s t) (htrapped : ∀ u, TrappedStands u s t) : SlotStands k s t :=
  ⟨fun hs => (h hs).slot hs, htrapped⟩

end SlotStands

section

variable {k : Nat} {s : State} (hs : Unmoved k s)

include hs

theorem Unmoved.deadlineReached : s.deadlineReached k = false := by
  obtain ⟨-, -, hno | ⟨p, hp, hin⟩⟩ := hs
  · simp [State.deadlineReached, Slot.deadlineStands, hno]
  · have hfront : (s.boundPig k).bind s.holdFront = none := by
      simp [hp, State.holdFront, State.holdInterval, hin]
    rw [State.deadlineReached, hfront, Bool.and_false]

theorem Unmoved.clearanceGateBy (e : Ending) : s.clearanceGateBy e k = s := by
  unfold State.clearanceGateBy
  split
  · rename_i hstate _
    exact absurd hstate hs.2.1
  · rfl

theorem Unmoved.holdGate : s.holdGate k = s := by
  unfold State.holdGate
  split
  · rename_i hstate _
    exact absurd hstate hs.1
  · rfl

end

namespace SlotStands

variable {k : Nat}

theorem reviewReceive (s : State) (i : Nat) : SlotStands k s (s.reviewReceive i) := by
  by_cases hi : i = k
  · subst hi
    refine near (fun hs => ?_) fun _ => TrappedStands.engineKeeps.reviewReceive s i
    unfold State.reviewReceive
    rw [hs.deadlineReached, if_neg Bool.false_ne_true, hs.clearanceGateBy]
    split
    · exact followerWatch s
    · exact refl s
  · exact (far hi).reviewReceive s

theorem rearmTest (s : State) (d : Nat) : SlotStands k s (s.rearmTest d) := by
  refine of_same ?_ fun _ => TrappedStands.engineKeeps.rearmTest s d
  obtain heq | ⟨y, -, -, -, -, heq⟩ := s.rearmTest_cases d
  · rw [heq]
  · rw [heq]
    refine (State.slotOf_modStation (s.modDetector d _) y.station k _ ?_ ?_).trans rfl
    · exact fun _ => rfl
    · exact fun _ => rfl

theorem handAside (s : State) (t : Nat) : SlotStands k s (s.handAside t) :=
  (foldl _ rearmTest _ s).trans (foldl _ reviewReceive _ _)

theorem endSequence {j : Nat} (hj : j ≠ k) (s : State) (o : SeqOutcome) (r : Option (SeqStep × Role × ValveOutcome)) :
    SlotStands k s (s.endSequence j o r) := by
  unfold State.endSequence
  split
  · exact (far hj).endSlot ..
  · rename_i t ht
    have hgiven : SlotStands k s (s.recordAtEnd t) := of_same rfl fun _ => .giveUp s j o t ht
    exact (hgiven.trans (handAside ..)).trans ((far hj).endSlot ..)

/-- A station re-examined leaves the slot (R29). -/
theorem examine (s : State) (i : Nat) : SlotStands k s (s.examine i) := by
  unfold State.examine
  by_cases hi : i = k
  · subst hi
    refine near (fun hs => ?_) fun _ => TrappedStands.engineKeeps.examine s i
    rw [hs.deadlineReached, if_neg Bool.false_ne_true, State.clearanceGate, hs.clearanceGateBy, hs.holdGate]
    exact followerWatch s
  · have hfar := far hi
    refine .trans ?_ (hfar.followerWatch ..)
    split
    · exact hfar.abandonBy (endSequence hi) s
    · refine .trans (hfar.clearanceGateBy (endSequence hi) s) ?_
      unfold State.holdGate
      split
      · split
        · exact refl _
        · exact hfar.goOnAtBy (endSequence hi) ..
      · exact refl _

theorem handOn (s : State) (t : Nat) : SlotStands k s (s.handOn t) := by
  have heval : SlotStands k s s.reevalAll := of_same (s.slotOf_reevalAll k) fun _ => TrappedStands.engineKeeps.reevalAll s
  exact (heval.trans (foldl _ rearmTest _ _)).trans (foldl _ examine _ _)

/-! ### Settling a record that is not TRAPPED -/

theorem modPig {s : State} {t : Nat} (hno : ∀ p, s.pig t = some p → p.state ≠ .trapped) {f : Pig → Pig}
    (hf : ∀ p, (f p).tag = p.tag) : SlotStands k s (s.modPig t f) :=
  of_same rfl fun u => by
    by_cases hu : u = t
    · exact ⟨fun p hp hin => absurd hin (hno p (hu ▸ hp))⟩
    · exact .of_pig (State.pig_modPig_ne (fun p h => (hf p).trans h) hu)

end SlotStands

theorem RecordsKeepPlace.not_trapped {s t : State} (h : RecordsKeepPlace s t) {u : Nat}
    (hno : ∀ p, s.pig u = some p → p.state ≠ .trapped) : ∀ p, t.pig u = some p → p.state ≠ .trapped := fun q hq hin => by
  have hrel := h.records u
  rw [hq] at hrel
  cases hp : s.pig u with
  | none => rw [hp] at hrel; cases hrel
  | some p =>
    rw [hp] at hrel
    cases hrel with
    | some hpq =>
      obtain hsame | ⟨-, hfailed⟩ := hpq.2
      · exact hno p hp (hsame ▸ hin)
      · cases hfailed.symm.trans hin

theorem SlotStands.settle {k : Nat} (s : State) (t : Nat) (hno : ∀ p, s.pig t = some p → p.state ≠ .trapped) :
    SlotStands k s (s.settle t) := by
  unfold State.settle
  generalize s.index.length + 1 = n
  have htest : ∀ (s : State) (d : Detector) (p : Pig), p.tag = t → (∀ p, s.pig t = some p → p.state ≠ .trapped) →
      SlotStands k s (s.overdueTest d p) := fun s d p htag hno => by
    subst htag
    unfold State.overdueTest
    split
    · exact (modPig (f := fun q => { q with overdue := true }) hno fun _ => rfl).trans (handOn ..)
    · exact refl s
  induction n generalizing s with
  | zero => exact refl s
  | succ n ih =>
    unfold State.settleFor
    split
    · exact refl s
    · rename_i p hp
      split
      · exact refl s
      · rename_i d _
        split
        · simp only
          have hno' := (RecordsKeepPlace.overdueTest s d p).not_trapped hno
          have hfirst := htest s d p (State.pig_tag hp) hno
          split
          · have hexcused : SlotStands k (s.overdueTest d p) ((s.overdueTest d p).excuse t) := modPig hno' fun _ => rfl
            exact (hfirst.trans hexcused).trans (ih _ ((RecordsKeepPlace.excuse ..).not_trapped hno'))
          · exact hfirst
        · exact refl s

end Sys2Proof.Machine
end

section
/-! SUPPORT. LAUNCH_EXIT and TRAP_ARRIVAL trips (R34, R38, R133, R137). -/

namespace Sys2Proof.Machine

/-! ### A launch fix -/

/-- What a launch fix is made from (R34, R84). -/
def State.launchEvidence (s : State) (n place : Nat) : Evidence :=
  { kind := .launch, place := place, detector := some n, pointer := s.firstBeyond place, early := false }

/-- What follows a fix in the engine leaves the record in its place, perhaps struck. -/
theorem JoinedByFix.runsOn {s t u : State} {p : Pig} {entry : Nat} {e : Evidence} (h : JoinedByFix s t p entry e)
    (hkeeps : ∀ R, EngineKeeps R → R t u) : JoinedByFix s u p entry e := by
  have hreach := hkeeps _ engineKeeps_reaches
  obtain ⟨⟨pointer, overdue, struck, hpig, hseen⟩, htrain, hrevision, hothers, hsame⟩ := h
  obtain ⟨q, hq, hqstruck⟩ := RecordsRelate.of_some (hkeeps _ (RecordsRelate.engineKeeps Pig.struck_letsStrike)) hpig
  obtain ⟨again, rfl⟩ := hqstruck.eq (by exact fun h => by cases h) rfl
  refine ⟨⟨pointer, overdue, struck || again, ?_, hseen⟩, ?_, hreach.revision.trans hrevision, fun v hv => ?_, ?_⟩
  · rw [hq, ← Bool.or_assoc]
  · rw [hreach]
    exact htrain
  · rw [(hkeeps _ RecordsKeepPlace.engineKeeps).pigPos, hothers v hv]
  · unfold SameBesidesRecords at *
    rw [hreach, hsame]

theorem State.launchFix_joins {s : State} (horder : TrainInOrder s) {k : Nat} {x : Station} (hx : s.station k = some x)
    {d : Detector} {p : Pig} (hp : s.pig p.tag = some p) (hout : p.tracked = false) (age : Nat) :
    JoinedByFix s (s.launchFix k d p.tag age) p (x.position + s.segmentRate x.position * age)
      (s.launchEvidence d.num x.position) := by
  have hplace : s.stationPos k = x.position := by rw [State.stationPos, hx]; rfl
  have hfix : s.launchFix k d p.tag age =
      (s.joinTrain p.tag (x.position + s.segmentRate x.position * age)).applyFix p.tag
        (x.position + s.segmentRate x.position * age) (s.launchEvidence d.num x.position) := by
    rw [← hplace]
    rfl
  rw [hfix]
  exact (FixBase.refl s).joinedByFix hp (horder.not_mem hp hout) horder _ rfl

/-- A launch fix leaves the slot of a launch that waits for no gate (R133). -/
theorem State.slotOf_launchFix {s : State} {k : Nat} (hkind : (s.slotOf k).kind = some .launch)
    (hhold : (s.slotOf k).state ≠ .waitHold) (hclear : (s.slotOf k).state ≠ .waitClearance) {p : Pig}
    (hp : s.pig p.tag = some p) (j : Nat) (d : Detector) (age : Nat) :
    (s.launchFix j d p.tag age).slotOf k = s.slotOf k := by
  have hno : (s.slotOf k).kind ≠ some .receive := by rw [hkind]; decide
  unfold State.launchFix
  simp only
  rw [State.applyFix_eq]
  generalize hbase : State.placed _ _ _ _ = b
  have hslot : b.slotOf k = s.slotOf k := hbase ▸ rfl
  have hpig : ∀ q, b.pig p.tag = some q → q.state ≠ .trapped := fun q hq => by
    rw [← hbase, State.pig_placed (s := s.joinTrain p.tag _) hp] at hq
    cases hq
    exact fun h => by cases h
  have hunmoved : Unmoved k b := ⟨hslot ▸ hhold, hslot ▸ hclear, .inl (hslot ▸ hno)⟩
  have hhanded := SlotStands.handOn (k := k) b p.tag
  have hsettled := hhanded.trans (.settle _ p.tag ((RecordsKeepPlace.handOn b p.tag).not_trapped hpig))
  rw [(hsettled.slot hunmoved).2 (hslot ▸ hno), hslot]

/-! ### LAUNCH_EXIT trips -/

section

variable {s : State} {n : Nat} {d : Detector} {x : Station} {p : Pig} (hd : s.detector n = some d)
  (hx : s.station d.station = some x) (hp : s.pig p.tag = some p)

include hd hx hp

/-- The running launch's record is given the trip (R133). -/
theorem State.exitTrip_of_launch (htakes : x.slot.takesExit = true) (hbound : x.slot.bound = some p.tag)
    (hstaged : p.state = .staged) (age : Nat) :
    s.exitTrip n age = ((s.launchFix d.station d p.tag age).exitTaken d.station, some p.tag) := by
  have hpig : (s.boundPig d.station).filter (fun q => q.state == .staged) = some p := by
    rw [State.boundPig, State.slotOf_of_some hx, hbound, Option.bind_some, hp]
    exact Option.filter_eq_some_iff.2 ⟨rfl, beq_iff_eq.2 hstaged⟩
  simp only [State.exitTrip, hd, State.slotOf_of_some hx, htakes, hpig]

/-- The record of a launch that failed is given the trip, where the launcher holds no other (R35). -/
theorem State.exitTrip_of_failed (hidle : x.slot.state = .idle) (hfailed : p.state = .launchFailed)
    (hat : p.launchStation = some d.station) (honly : ∀ q ∈ s.pigs, q.launchStation = some d.station →
      q.state ≠ .staged ∧ (q.state = .launchFailed → q = p)) (age : Nat) :
    s.exitTrip n age = (s.launchFix d.station d p.tag age, some p.tag) := by
  have htakes : x.slot.takesExit = false := by simp [Slot.takesExit, hidle]
  have hstaged : s.launcherRecord d.station .staged = none := List.find?_eq_none.2 fun q hq => by
    simp only [Bool.and_eq_true, beq_iff_eq, not_and]
    exact fun hstate hstation => (honly q hq hstation).1 hstate
  have hrecord : s.launcherRecord d.station .launchFailed = some p := by
    cases hfound : s.launcherRecord d.station .launchFailed with
    | none =>
      have := List.find?_eq_none.1 hfound p (State.pig_mem hp)
      simp [hfailed, hat] at this
    | some q =>
      have hq := List.find?_some hfound
      simp only [Bool.and_eq_true, beq_iff_eq] at hq
      rw [(honly q (List.mem_of_find?_eq_some hfound) hq.2).2 hq.1]
  simp only [State.exitTrip, hd, State.slotOf_of_some hx, htakes, hstaged, hrecord]

/-- The record of a running launch is launched by its trip, whatever the sequence then does (R34, R133). -/
theorem State.exitTrip_launches (horder : TrainInOrder s) (htakes : x.slot.takesExit = true)
    (hbound : x.slot.bound = some p.tag) (hstaged : p.state = .staged) (age : Nat) :
    (s.exitTrip n age).2 = some p.tag ∧ JoinedByFix s (s.exitTrip n age).1 p
      (x.position + s.segmentRate x.position * age) (s.launchEvidence n x.position) := by
  rw [State.exitTrip_of_launch hd hx hp htakes hbound hstaged]
  have hout : p.tracked = false := by rw [Pig.tracked, hstaged]; rfl
  have hjoins := State.launchFix_joins horder hx (d := d) hp hout age
  rw [State.detector_num hd] at hjoins
  exact ⟨rfl, hjoins.runsOn fun _ h => State.exitTaken_keeps h ..⟩

/-- The slot of a launch that is PAUSED or restoring when its exit trip comes (R133). -/
theorem State.slotOf_exitTrip (hkind : x.slot.kind = some .launch) (htakes : x.slot.takesExit = true)
    (hbound : x.slot.bound = some p.tag) (hstaged : p.state = .staged) (age : Nat) {f : Slot → Slot}
    (hstate : x.slot.state = .paused ∨ x.slot.state = .restoring)
    (htaken : ∀ t : State, t.slotOf d.station = x.slot → t.exitTaken d.station = t.updSlot d.station f) :
    (s.exitTrip n age).1.slotOf d.station = f x.slot := by
  have hslot := State.slotOf_of_some hx
  have hnot (other : SlotState) (hp : other ≠ .paused) (hr : other ≠ .restoring) : x.slot.state ≠ other := by
    rintro rfl
    exact hstate.elim hp hr
  have hfixed : (s.launchFix d.station d p.tag age).slotOf d.station = x.slot := by
    rw [State.slotOf_launchFix (hslot ▸ hkind) (hslot ▸ hnot .waitHold (by decide) (by decide))
      (hslot ▸ hnot .waitClearance (by decide) (by decide)) hp, hslot]
  rw [State.exitTrip_of_launch hd hx hp htakes hbound hstaged]
  simp only [htaken _ hfixed]
  rw [State.slotOf_updSlot_active _ (by rw [hfixed]; exact hnot .idle (by decide) (by decide)), hfixed]

end

/-! ### TRAP_ARRIVAL trips -/

/-- A record as its arrival leaves it (R38). -/
def State.trappedPig (s : State) (p : Pig) : Pig :=
  { p with
    state := .trapped, position := s.stationPos p.destination, residue := 0, pointer := none, overdue := false
    flags := { p.flags with clamped := false, endOfLine := false, destinationPassed := false, changed := true } }

/-- The state an arrival hands on: the record out of the train and in the receiver (R38). -/
def State.trapBefore (s : State) (tag : Nat) : State := (s.leaveTrain tag).modPig tag s.trappedPig

theorem State.trap_eq (s : State) (tag : Nat) : s.trap tag = (s.trapBefore tag).handOn tag := rfl

/-- A record is in its receiver, and nothing of it or of another has moved besides (R38). -/
structure Trapped (s t : State) (p : Pig) : Prop where
  pig : t.pig p.tag = some (s.trappedPig p)
  train : t.train = s.train.filter (· ≠ p.tag)
  others : OthersStand s t p.tag
  rest : SameBesidesRecords s t

theorem Trapped.runsOn {s t u : State} {p : Pig} (h : Trapped s t p) (hkeeps : ∀ R, EngineKeeps R → R t u) : Trapped s u p where
  pig := (hkeeps _ TrappedStands.engineKeeps).pig _ h.pig rfl
  train := (hkeeps _ RecordsKeepPlace.engineKeeps).train.trans h.train
  others v hv := ((hkeeps _ RecordsKeepPlace.engineKeeps).pigPos v).trans (h.others v hv)
  rest := by
    have hreach := hkeeps _ engineKeeps_reaches
    have hsame := h.rest
    unfold SameBesidesRecords at *
    rw [hreach, hsame]

theorem State.trapBefore_traps {s : State} {p : Pig} (hp : s.pig p.tag = some p) : Trapped s (s.trapBefore p.tag) p where
  pig := State.pig_modPig_self (f := s.trappedPig) (fun _ h => h) ((s.leaveTrain_pig p.tag p.tag).trans hp)
  train := s.leaveTrain_train p.tag
  others u hu := by
    have hpig : (s.trapBefore p.tag).pig u = s.pig u :=
      (State.pig_modPig_ne (f := s.trappedPig) (fun _ h => h) hu).trans (s.leaveTrain_pig p.tag u)
    rw [State.pigPos, hpig, State.pigPos]
  rest := (Spreads.trans (.leaveTrain s p.tag) (Reaches.modPig ..).spreads).besides

section

variable {s : State} {n : Nat} {d : Detector} {x : Station} {p : Pig} (hd : s.detector n = some d)
  (hx : s.station d.station = some x) (hp : s.pig p.tag = some p)

include hd hx

theorem State.arrivalTrip_of_idle (hidle : x.slot.state = .idle) : s.arrivalTrip n = (s.spurious n, none) := by
  have htakes : x.slot.takesArrival = false := by simp [Slot.takesArrival, hidle]
  simp only [State.arrivalTrip, hd, State.slotOf_of_some hx, htakes]

include hp

theorem State.arrivalTrip_of_receive (htakes : x.slot.takesArrival = true) (hbound : x.slot.bound = some p.tag) :
    s.arrivalTrip n = ((if x.slot.state = .waitPassage then (s.trap p.tag).goOnAfter d.station .rx4
      else (s.trap p.tag).updSlot d.station fun y => { y with resume := some .rx5, step := some .rx5 }), some p.tag) := by
  have hpig : s.boundPig d.station = some p := by
    rw [State.boundPig, State.slotOf_of_some hx, hbound, Option.bind_some, hp]
  simp only [State.arrivalTrip, hd, State.slotOf_of_some hx, htakes, hpig]

/-- The bound record of a receive is trapped by its trip, whatever the sequence then does (R38, R137). -/
theorem State.arrivalTrip_traps (htakes : x.slot.takesArrival = true) (hbound : x.slot.bound = some p.tag) :
    (s.arrivalTrip n).2 = some p.tag ∧ Trapped s (s.arrivalTrip n).1 p := by
  rw [State.arrivalTrip_of_receive hd hx hp htakes hbound]
  refine ⟨rfl, (State.trapBefore_traps hp).runsOn fun R h => h.trans (h.handOn _ p.tag) ?_⟩
  simp only
  split
  · exact State.goOnAfter_keeps h ..
  · exact h.updSlot ..

/-- A PAUSED receive whose record arrives is PAUSED before RX5 (R137). -/
theorem State.slotOf_arrivalTrip (htakes : x.slot.takesArrival = true) (hbound : x.slot.bound = some p.tag)
    (hpaused : x.slot.state = .paused) : ((s.arrivalTrip n).1.slotOf d.station).state = .paused ∧
      ((s.arrivalTrip n).1.slotOf d.station).resume = some .rx5 := by
  have hslot : (s.trapBefore p.tag).slotOf d.station = x.slot := by
    rw [← State.slotOf_of_some hx, State.slotOf, State.trapBefore, s.leaveTrain_eq]
    rfl
  have hunmoved : Unmoved d.station (s.trapBefore p.tag) := by
    refine ⟨by rw [hslot, hpaused]; decide, by rw [hslot, hpaused]; decide, .inr ⟨s.trappedPig p, ?_, rfl⟩⟩
    rw [State.boundPig, hslot, hbound, Option.bind_some]
    exact (State.trapBefore_traps hp).pig
  have hunwatched := ((SlotStands.handOn (k := d.station) (s.trapBefore p.tag) p.tag).slot hunmoved).1
  have hstate : ((s.trap p.tag).slotOf d.station).state = .paused := by
    rw [State.trap_eq, Slot.state_of_unwatched hunwatched, hslot]
    exact hpaused
  rw [State.arrivalTrip_of_receive hd hx hp htakes hbound]
  simp only [if_neg (show ¬ x.slot.state = .waitPassage by rw [hpaused]; decide)]
  rw [State.slotOf_updSlot_active _ (by rw [hstate]; decide)]
  exact ⟨hstate, rfl⟩

end

end Sys2Proof.Machine
end

section
/-! SUPPORT. Trips settled (R72 to R77, R82, R85, R89, R90, R133, R137). -/

namespace Sys2Proof.Machine

theorem State.inWindow_eq (s : State) (d : Detector) (p : Pig) (q : Nat) : s.inWindow d p q =
    decide (d.position ≤ q + s.windowHalf d p ∧ q ≤ d.position + s.windowHalf d p) := (Bool.decide_and _ _).symm

theorem State.inEarlyBand_eq (s : State) (d : Detector) (p : Pig) (q : Nat) : s.inEarlyBand d p q =
    decide (d.position - 2 * s.windowHalf d p ≤ q ∧ q < d.position - s.windowHalf d p) := (Bool.decide_and _ _).symm

theorem State.learns_iff (s : State) (p : Pig) (d : Detector) (q : Nat) : s.learns p d q = true ↔
    p.learning = true ∧ (p.fixKind = some .passage ∨ p.fixKind = some .launch) ∧ p.flags.clamped = false ∧
      s.params.learningSpan ≤ d.position - p.fixPosition.getD 0 ∧ p.fixPosition.getD 0 < q := by
  simp only [State.learns, Bool.and_eq_true, Bool.or_eq_true, Bool.not_eq_true', decide_eq_true_eq, and_assoc]

theorem State.slipAfter_eq (s : State) (p : Pig) (d : Detector) (q : Nat) {learns : Prop} [Decidable learns]
    (h : learns ↔ s.learns p d q = true) : s.slipAfter p d q =
      if learns then (3 * p.slip + min (1000 - (1000 - p.slip) * (d.position - p.fixPosition.getD 0) /
        (q - p.fixPosition.getD 0)) 250 + 2) / 4 else p.slip := (if_congr h rfl rfl).symm

/-- Settles O59: each kind of trip, by the fix it makes and what the engine leaves behind it. -/
theorem passageFixPlacesTheRecord : Obligations.PassageFixPlacesTheRecord := by
  unfold Obligations.PassageFixPlacesTheRecord
  refine ⟨fun s n age d p hrise _ hd hdup hexpected => ?_, fun s n age d hrise horder hd hdup hno => ?_,
    fun s n age d x p hrise horder hd hx hp => ?_, fun s n d x p hrise horder hd hx hp hkind hbound => ?_⟩
  · intro q half inWindow inEarly unclamped place from_ learns observed slip hin
    obtain ⟨hmem, htrain⟩ := Runs.expected_mem hexpected
    have hwindow : s.inWindow d p q = inWindow := s.inWindow_eq d p q
    have hearly : s.inEarlyBand d p q = inEarly := s.inEarlyBand_eq d p q
    have hslip : s.slipAfter p d q = slip := s.slipAfter_eq p d q (s.learns_iff p d q).symm
    have htrip := State.mainlineTrip_of_match hd hdup hexpected (q := q) (age := age) rfl (by rwa [hwindow, hearly])
    obtain ⟨⟨pointer, overdue, struck, hpig, hseen⟩, hmatching, hnote, hmembers, hothers, hrest⟩ :=
      State.matchTrip_places hd (hrise.pig_of_mem hmem) htrain q (!s.inWindow d p q)
    rw [htrip]
    refine ⟨rfl, ⟨pointer, overdue, struck, true, ?_, rfl, hseen⟩, hmatching, hnote, hmembers, hothers, hrest⟩
    rw [hpig, hslip, hwindow]
    rfl
  · intro inReach t
    have htrip : s.mainlineTrip n age = s.offerLost d age := State.mainlineTrip_of_no_match age hd hdup fun p hp => by
      obtain ⟨hwindow, hearly⟩ := hno p hp
      rw [State.inWindow_eq, State.inEarlyBand_eq]
      exact ⟨decide_eq_false hwindow, decide_eq_false hearly⟩
    have ht : t = (s.offerLost d age).1 := congrArg Prod.fst htrip
    rw [ht, htrip]
    obtain rfl := State.detector_num hd
    refine ⟨fun p hp hreach hfirst => ?_, fun hnone => ?_⟩
    · have hrecovered := State.recoverable_of_first hrise hp hreach hfirst
      simp only [State.offerLost, hrecovered]
      exact ⟨trivial, State.recover_places hrise horder hd hp hreach.1⟩
    · simp only [State.offerLost, State.recoverable_of_none hnone]
      exact ⟨trivial, State.spurious_eq hrise hd⟩
  · have hpig := hrise.pig_of_mem hp
    have hnum := State.station_num hx
    intro slot taken t
    refine ⟨fun hkind hbound hstaged => ⟨fun hwait hstep => ?_, fun hpaused hresume => ?_, fun hrestoring => ?_⟩,
      fun hidle hfailed hat honly => ?_⟩
    · have htakes : x.slot.takesExit = true := by
        simp only [slot] at hkind hwait hstep
        simp [Slot.takesExit, hkind, hwait, hstep]
      exact State.exitTrip_launches hd hx hpig horder htakes hbound hstaged age
    · have htakes : x.slot.takesExit = true := by
        simp only [slot] at hkind hpaused hresume
        simp [Slot.takesExit, hkind, hpaused, hresume]
      refine ⟨State.exitTrip_launches hd hx hpig horder htakes hbound hstaged age, hnum ▸ ?_⟩
      refine State.slotOf_exitTrip hd hx hpig hkind htakes hbound hstaged age
        (f := fun y => { y with resume := some .l6, step := some .l6 }) (.inl hpaused) fun u hu => ?_
      rw [State.exitTaken, hu]
      simp only [slot] at hpaused hresume
      simp only [hpaused, hresume, if_true]
    · have htakes : x.slot.takesExit = true := by
        simp only [slot] at hkind hrestoring
        simp [Slot.takesExit, hkind, hrestoring]
      refine ⟨State.exitTrip_launches hd hx hpig horder htakes hbound hstaged age, hnum ▸ ?_⟩
      refine State.slotOf_exitTrip hd hx hpig hkind htakes hbound hstaged age
        (f := fun y => { y with exitInTail := true }) (.inr hrestoring) fun u hu => ?_
      rw [State.exitTaken, hu]
      simp only [slot] at hrestoring
      simp only [hrestoring]
    · rw [hnum] at hat honly
      have hout : p.tracked = false := by rw [Pig.tracked, hfailed]; rfl
      have hjoins := State.launchFix_joins horder hx (d := d) hpig hout age
      rw [State.detector_num hd] at hjoins
      simp only [taken]
      rw [State.exitTrip_of_failed hd hx hpig hidle hfailed hat honly age]
      exact ⟨rfl, hjoins⟩
  · have hpig := hrise.pig_of_mem hp
    have hnum := State.station_num hx
    intro t trapped
    have htraps (htakes : x.slot.takesArrival = true) : trapped := by
      obtain ⟨htag, htrapped⟩ := State.arrivalTrip_traps hd hx hpig htakes hbound
      exact ⟨htag, htrapped.pig, htrapped.train, htrapped.others, htrapped.rest⟩
    refine ⟨fun hwait hstep => htraps ?_, fun hpaused hresume => ?_, fun hidle => State.arrivalTrip_of_idle hd hx hidle⟩
    · simp [Slot.takesArrival, hkind, hwait, hstep]
    · have htakes : x.slot.takesArrival = true := by simp [Slot.takesArrival, hkind, hpaused, hresume]
      exact ⟨htraps htakes, hnum ▸ State.slotOf_arrivalTrip hd hx hpig htakes hbound hpaused⟩

end Sys2Proof.Machine
end
